-- ==== Sys2Proof/Word.lean ====
section
/-! DEFINITION. The word of the two serial links, the index ranges of the part's units, and `Bank`: a fixed number of
like units, read and written by index. Nothing here is a rule of the spec; the ranges are those of the Conventions of
spec/00_scope.md. -/

namespace Sys2Proof

/-- One sixteen-bit word of a frame (11.1). -/
abbrev Word := BitVec 16

/-- A seat, 0 to 3; seat 3 is the service seat. -/
abbrev Seat := Fin 4

/-- A loop bus seat, 0 to 2. -/
abbrev BusSeat := Fin 3

/-- An output channel, 0 to 31. -/
abbrev OutCh := Fin 32

/-- A modulated output channel, 0 to 23. -/
abbrev ModCh := Fin 24

/-- A discrete output: number d stands for channel 24 + d. -/
abbrev DiscCh := Fin 8

/-- A floating pair, 0 to 11: channels 2k and 2k+1. -/
abbrev PairNo := Fin 12

/-- A sensor channel, 0 to 23: channel 32 + n. -/
abbrev SensorCh := Fin 24

/-- A pulse channel, 0 to 7: channel 56 + n. -/
abbrev PulseCh := Fin 8

/-- A glycol circuit, 0 to 3. -/
abbrev CircuitNo := Fin 4

/-- A period group, 0 to 2. -/
abbrev GroupNo := Fin 3

/-- A logical point number (R23). -/
abbrev Point := BitVec 14

/-- A word address of directory memory (R24). -/
abbrev DirAddr := BitVec 12

/-- A descriptor word of directory memory (R24). -/
abbrev DirWord := BitVec 32

/-- The service seat. -/
abbrev serviceSeat : Seat := 3

/-- A fixed number of like units. -/
structure Bank (α : Type) (n : Nat) where
  cells : Vector α n
  deriving DecidableEq, Repr

namespace Bank

variable {α : Type} {n : Nat}

/-- The unit of index `i`. -/
def read (b : Bank α n) (i : Fin n) : α := b.cells[i.val]

/-- The bank whose unit `i` is `f i`. -/
def fill (f : Fin n → α) : Bank α n := ⟨Vector.ofFn f⟩

/-- The bank with unit `i` replaced. -/
def write (b : Bank α n) (i : Fin n) (a : α) : Bank α n := ⟨b.cells.set i.val a⟩

/-- The bank with unit `i` changed by `f`. -/
def update (b : Bank α n) (i : Fin n) (f : α → α) : Bank α n := b.write i (f (b.read i))

@[simp] theorem read_fill (f : Fin n → α) (i : Fin n) : (fill f).read i = f i := by
  simp [read, fill]

@[simp] theorem read_write_same (b : Bank α n) (i : Fin n) (a : α) : (b.write i a).read i = a := by
  simp [read, write]

theorem read_write_ne (b : Bank α n) {i j : Fin n} (a : α) (h : i ≠ j) : (b.write i a).read j = b.read j := by
  have : i.val ≠ j.val := fun e => h (Fin.ext e)
  simp [read, write, this]

theorem read_write (b : Bank α n) (i j : Fin n) (a : α) :
    (b.write i a).read j = if i = j then a else b.read j := by
  by_cases h : i = j
  · subst h; simp
  · simp [h, read_write_ne]

@[simp] theorem read_update_same (b : Bank α n) (i : Fin n) (f : α → α) :
    (b.update i f).read i = f (b.read i) := by
  simp [update]

theorem read_update_ne (b : Bank α n) {i j : Fin n} (f : α → α) (h : i ≠ j) :
    (b.update i f).read j = b.read j := by
  simp [update, read_write_ne, h]

/-- Two banks with the same units are equal. -/
theorem ext_read {b c : Bank α n} (h : ∀ i, b.read i = c.read i) : b = c := by
  cases b with
  | mk v => cases c with
    | mk w =>
      have : v = w := by
        apply Vector.ext
        intro i hi
        exact h ⟨i, hi⟩
      rw [this]

end Bank

end Sys2Proof
end

