-- ==== Sys2Proof/Syntax.lean ====
section
/-! DEFINITION. The commands: one constructor of `Instr` for each row of spec/opcode_table.json, in the table's order.

The table gives no operands. A step that executes a request names the SEAT whose request in service it executes (the
request's words are in State, where HANDLER_TAKE_HEAD put them, R147); a step at the pins or of the field side carries
what the pins gave it; an expiry names the unit whose timer runs out. -/

namespace Sys2Proof

/-- The two serial links. -/
inductive Link
  | bus
  | service
  deriving DecidableEq, Repr

/-- The levels of the strap pins, sampled at power-on reset (R144, R21). -/
structure Straps where
  station : BitVec 4
  rate0 : Bool
  rate1 : Bool
  pumpPosture : Bool
  deriving DecidableEq, Repr

/-- A frame as it is received: the words between start delimiter and bus idle (header word A, payload, CRC), and the
group whose period item it names, which no word of the table of section 11.5 can say (assumption 3). -/
structure Frame where
  words : List Word
  period : Option (BitVec 6) := none
  deriving DecidableEq, Repr

/-- The steps of spec/opcode_table.json. -/
inductive Instr
  | busFrameReceive (frame : Frame)
  | serviceFrameReceive (frame : Frame)
  | handlerTakeHead (seat : Seat)
  | hello (seat : Seat)
  | set (seat : Seat)
  | release (seat : Seat)
  | read (seat : Seat)
  /-- the slot of `seat` in the record of channel `ch` -/
  | demandHoldExpiry (ch : OutCh) (seat : Seat)
  | flushPoint (seat : Seat)
  | flushSeat (seat : Seat)
  | flushAll (seat : Seat)
  | dirRead (seat : Seat)
  | dirWrite (seat : Seat)
  | dirPortGrant
  | configRead (seat : Seat)
  | configWriteRankTable (seat : Seat)
  | configWriteRoot (seat : Seat)
  | configWriteWindow (seat : Seat)
  | configWriteRosterEntry (seat : Seat)
  | configWriteOrphanLimit (seat : Seat)
  | configWriteEventMask (seat : Seat)
  | configWriteStaticLimits (seat : Seat)
  | configWriteFallback (seat : Seat)
  | configWriteDefaultHold (seat : Seat)
  | configWriteOutputPolarity (seat : Seat)
  | configWriteMinimumTimes (seat : Seat)
  | configWritePeriod (seat : Seat)
  | configWritePair (seat : Seat)
  | pairForm (seat : Seat)
  | pairDissolve (seat : Seat)
  | configWriteShutoff (seat : Seat)
  | configWriteSensorSettings (seat : Seat)
  | configWriteReference (seat : Seat)
  | configWriteBreakpoint (seat : Seat)
  | configWriteScanRange (seat : Seat)
  | configWriteScanMode (seat : Seat)
  | configWritePulseSettings (seat : Seat)
  | configWriteCircuitSensors (seat : Seat)
  | configWriteCircuitOutputs (seat : Seat)
  | configWriteCircuitFlow (seat : Seat)
  | configWriteCircuitThresholds (seat : Seat)
  | configWriteCircuitTimes (seat : Seat)
  | configWriteOther (seat : Seat)
  | openDirectory (seat : Seat)
  | closeDirectory (seat : Seat)
  | scanStart (seat : Seat)
  | scanSingle (seat : Seat)
  | scanStop (seat : Seat)
  /-- the time-base counter's value when the reference phase ends; 16,777,215 is the overflow (R67) -/
  | referencePhaseEnd (count : BitVec 24)
  /-- the time-base counter's value when the sensor phase ends; 16,777,215 is the overflow (R68) -/
  | sensorPhaseEnd (count : BitVec 24)
  /-- a rising edge on pulse channel `ch`, `us` microseconds after the instant its counter was last brought up to
  date: the last edge the channel saw, or the last 10 ms tick -/
  | pulseRisingEdge (ch : PulseCh) (us : Nat)
  | pulseTimeoutExpiry (ch : PulseCh)
  | flowGraceExpiry (circuit : CircuitNo)
  | tripDwellExpiry (circuit : CircuitNo)
  | circuitEnable (seat : Seat)
  | circuitDisable (seat : Seat)
  | releaseLockout (seat : Seat)
  | periodEnd (group : GroupNo)
  | pairPermilleStep (pair : PairNo)
  | overdriveEnd (pair : PairNo)
  | syncEnd (pair : PairNo)
  | deadTimeExpiry (pair : PairNo)
  | safeEndExpiry (pair : PairNo)
  | unsyncedSafeDriveEnd (pair : PairNo)
  | discreteMinimumReached (d : DiscCh)
  | emergencyInAssert
  | emergencyInDeassert
  | rearm (seat : Seat)
  | events (seat : Seat)
  | clear (seat : Seat)
  | reinstate (seat : Seat)
  | orphanTimerExpiry
  | replyTransmit
  | replyReadbackAbandon
  | serviceReplyTransmit
  | walkGrant
  | walkZoneRead
  | walkGroupRead
  | walkPointRead
  | walkLinkTargetRead
  | walkMarkWrite
  | restart (seat : Seat)
  | restartTake
  | restartIn
  /-- the strap levels the reset samples -/
  | powerOnReset (straps : Straps)
  /-- the words received before the bus went idle -/
  | frameReceptionCutShort (words : List Word)
  | replySentWhole (link : Link)
  deriving DecidableEq, Repr

end Sys2Proof
end

