-- ==== Sys2Proof/Decode.lean ====
section
/-! DEFINITION. The decoder of the opcode table's words. spec/opcode_table.json gives bits for no row (every row's
"fields" is empty, and no row has "fixed" bits), so no word spells a command. The frames of the two links, which do
have bits, are decoded in Sys2Proof/Machine/Operands.lean. -/

namespace Sys2Proof

/-- The command a word spells by the table's bits: the table gives no row bits, so none. -/
def decodeTableWord (_nbits _w : Nat) : Option Instr := none

end Sys2Proof
end

