-- ==== Sys2Proof/Config.lean ====
section
/-! DEFINITION. What the spec leaves open and the model leaves free: constants without a body, so that no proof can
lean on a value of theirs. -/

namespace Sys2Proof.Config

/-- FREE VALUE (assumption 4). Where a group's period counter stands at a moment between two period ends. The counter
runs at 8 MHz and the spec times no step in its counts, so at the `moment`-th time its place matters it stands at
`countAt moment group` modulo the active period. -/
opaque countAt : Nat → Nat → Nat

end Sys2Proof.Config
end

