-- ==== Sys2Proof/Machine/Blocks.lean ====
section
/-! DEFINITION. The state of each block, as plain data: the tables of state in the chapters of spec/, block by block.
Percentages are permille (Nat), temperatures and margins hundredths (Int), times counts of their time base (Nat). -/

namespace Sys2Proof.Machine

/-! ### Command table (chapter 1) -/

/-- The class of a bus seat's fault count (R152). -/
inductive Standing
  | good
  | doubtful
  | barred
  deriving DecidableEq, Repr

/-- A slot's hold remaining, in steps of 100 ms (R4). -/
inductive Hold
  | counted (steps : Nat)
  | untilReleased
  deriving DecidableEq, Repr

/-- A seat's demand (R2). -/
structure Slot where
  value : Nat
  hold : Hold
  deriving DecidableEq, Repr

/-- What the arbitrated value is with no winner (R10, R11). -/
inductive FallbackMode
  | fixed
  | holdLast
  deriving DecidableEq, Repr

/-- A channel's place in a circuit (R14). -/
inductive Role
  | none
  | fan
  | bypass
  | pump
  deriving DecidableEq, Repr

/-- The guard bound a record last took (R13, R22). -/
inductive Bound
  | none
  | ceiling (v : Nat)
  | floor (v : Nat)
  deriving DecidableEq, Repr

/-- A channel command record (the table of section 1.1). -/
structure Record where
  slots : Bank (Option Slot) 4
  winner : Option Seat
  arbitrated : Nat
  lastWon : Option Nat
  effective : Nat
  staticMin : Nat
  staticMax : Nat
  fallbackMode : FallbackMode
  fallbackValue : Nat
  /-- seconds -/
  defaultHold : Nat
  role : Role
  circuit : Option CircuitNo
  bound : Bound
  deriving DecidableEq, Repr

/-- The command table: the records, the rank table (highest rank first, R7), and how many 10 ms ticks have passed since
the hold time base last ticked (R4: it ticks every 100 ms). -/
structure Cmdt where
  records : Bank Record 32
  ranks : Bank Seat 4
  holdPhase : Nat
  deriving DecidableEq, Repr

/-! ### Point directory (chapter 2) -/

/-- A seat's root (R27). -/
structure Root where
  /-- units of 16 words -/
  base : BitVec 8
  valid : Bool
  deriving DecidableEq, Repr

/-- Directory memory: the words that are not zero, addresses strictly rising (R24; an unlisted word is zero). -/
abbrev DirMemory := List (Nat × DirWord)

/-- The kinds of request a translation serves (R31). -/
inductive Access
  | set
  | release
  | read
  deriving DecidableEq, Repr

/-- A walk's translation (R36). -/
structure Found where
  channel : Fin 64
  guarded : Bool
  serviceOnly : Bool
  global : Bool
  driven : Bool
  link : Bool
  deriving DecidableEq, Repr

/-- How a walk ends (R36). -/
inductive WalkOutcome
  | found (f : Found)
  | guarded
  | maintOnly
  | absent
  | dirFault
  deriving DecidableEq, Repr

/-- Where a walk goes after a word is read and, if it needs one, its mark write has completed. -/
inductive WalkNext
  | toGroup (base : DirAddr)
  | toPoint (base : DirAddr)
  | toLink (target : DirAddr)
  | finish (o : WalkOutcome)
  deriving DecidableEq, Repr

/-- The access the walk makes next (R32 to R35, R40). In `mark` the word at `addr` is locked (R26). -/
inductive WalkStep
  | zone
  | group (base : DirAddr)
  | point (base : DirAddr)
  | link (target : DirAddr)
  | mark (addr : DirAddr) (word : DirWord) (next : WalkNext)
  deriving DecidableEq, Repr

/-- A walk in flight (R31, R60). -/
structure Walk where
  seat : Seat
  point : Point
  access : Access
  /-- started by a SET that hit an entry with D clear (R54) -/
  rewalk : Bool
  /-- the root's base when the walk began (R28) -/
  rootBase : BitVec 8
  /-- the accumulated write-guard (R37) -/
  guarded : Bool
  throughLink : Bool
  noLoad : Bool
  /-- the words already read (R43) -/
  readWords : List DirAddr
  step : WalkStep
  deriving DecidableEq, Repr

/-- The two sides of the memory port (R25). -/
inductive PortSide
  | walker
  | seats
  deriving DecidableEq, Repr

/-- The point directory. The entry lock of R26 is `Walk.lockedWord`: a word is locked exactly while a mark write is
to come. -/
structure Pdir where
  memory : DirMemory
  roots : Bank Root 4
  isOpen : Bool
  walk : Option Walk
  /-- the side granted last -/
  lastSide : PortSide
  /-- the seat served last -/
  lastSeat : Seat
  deriving DecidableEq, Repr

/-! ### Fixed windows and point cache (chapter 3) -/

/-- A fixed window (R47). -/
structure Window where
  enable : Bool
  zoneBase : BitVec 5
  zoneMask : BitVec 5
  /-- bit n for seat n -/
  seats : BitVec 4
  guarded : Bool
  deriving DecidableEq, Repr

/-- The fields of a valid cache entry (R51); an invalid entry is `none`, since its fields have no effect. -/
structure CacheEntry where
  seat : Seat
  global : Bool
  point : Point
  channel : Fin 64
  guarded : Bool
  driven : Bool
  link : Bool
  deriving DecidableEq, Repr

/-- One set of the cache: four ways and a victim pointer (R51). -/
structure CacheSet where
  ways : Bank (Option CacheEntry) 4
  victim : Fin 4
  deriving DecidableEq, Repr

/-- The windows and the cache. -/
structure Pcache where
  windows : Bank Window 2
  sets : Bank CacheSet 8
  deriving DecidableEq, Repr

/-! ### Sensor measurement (chapter 4) -/

/-- A sensor channel's settings (R64). -/
structure SensorSettings where
  enabled : Bool
  reference : Fin 2
  table : Fin 2
  shift : Fin 5
  deriving DecidableEq, Repr

/-- A sensor channel's validity (R73). -/
inductive Validity
  | notYet
  | valid
  | opened
  | short
  deriving DecidableEq, Repr

/-- An entry of the result table (R81). -/
structure SensorResult where
  tRef : Nat
  tSens : Nat
  ratio : Nat
  temp : Int
  filtered : Int
  validity : Validity
  badRun : Nat
  samples : Nat
  deriving DecidableEq, Repr

/-- The phase a conversion is in; the sensor phase holds the T_ref its reference phase gave (R67, R68). -/
inductive Phase
  | reference
  | sensor (tRef : Nat)
  deriving DecidableEq, Repr

/-- The conversion in flight, with what it latched at its start (R66). -/
structure Conversion where
  channel : SensorCh
  reference : Fin 2
  table : Fin 2
  shift : Fin 5
  cycles : Nat
  phase : Phase
  deriving DecidableEq, Repr

/-- The scan modes (R76, R77). -/
inductive ScanMode
  | continuous
  | single
  deriving DecidableEq, Repr

/-- The sensor measurement unit. -/
structure Smu where
  settings : Bank SensorSettings 24
  /-- the cycle count N of each reference (R65) -/
  cycles : Bank Nat 2
  /-- Θ_0 to Θ_16 of each table (R70) -/
  tables : Bank (Bank Int 17) 2
  results : Bank SensorResult 24
  rangeStart : SensorCh
  rangeEnd : SensorCh
  modeItem : ScanMode
  /-- the mode the scan runs in; `none` while STOPPED (R76) -/
  running : Option ScanMode
  conversion : Option Conversion
  deriving DecidableEq, Repr

/-! ### Pulse inputs (chapter 5) -/

/-- A pulse channel: its settings (R85) and its measurement state (section 5.2). -/
structure PulseChannel where
  enabled : Bool
  /-- milliseconds -/
  spacing : Nat
  /-- milliseconds -/
  timeout : Nat
  /-- microseconds -/
  period : Option Nat
  timing : Bool
  counter : Nat
  /-- 10 ms steps -/
  age : Option Nat
  /-- the model's own: microseconds of the running 10 ms step that edges have already told of (assumption 7) -/
  sinceTick : Nat
  deriving DecidableEq, Repr

/-- The pulse input unit. -/
structure Piu where
  channels : Bank PulseChannel 8
  /-- PROVEN, for each circuit (R91) -/
  proven : Bank Bool 4
  deriving DecidableEq, Repr

/-! ### Freeze guard (chapter 6) -/

/-- The stages of one cause, best to worst (R102). -/
inductive Level
  | clear
  | watch
  | act
  | trip
  deriving DecidableEq, Repr

/-- A circuit's stage (R98). -/
inductive Stage
  | disabled
  | level (l : Level)
  | lockout
  deriving DecidableEq, Repr

/-- The state of a guard set (R100). -/
inductive SensorCause
  | none
  | pending
  | sensorLost
  deriving DecidableEq, Repr

/-- A circuit's guard bounds (R107); `none` is "none". -/
structure Bounds where
  fanCeiling : Option Nat
  bypassFloor : Option Nat
  modulatedPump : Option Nat
  discretePump : Option Nat
  deriving DecidableEq, Repr

/-- A circuit record (R94) and its running state (R98). -/
structure Circuit where
  guardSet : List SensorCh
  fans : List OutCh
  bypass : Option OutCh
  pumps : List OutCh
  /-- the flow channel and P_max in microseconds -/
  flow : Option (PulseCh × Nat)
  freezePoint : Int
  mWatch : Int
  mAct : Int
  mTrip : Int
  hysteresis : Int
  pumpMin : Nat
  /-- seconds -/
  tripDwell : Nat
  /-- seconds -/
  flowGrace : Nat
  stage : Stage
  guardTemp : Option Int
  margin : Option Int
  sensorCause : SensorCause
  marginStage : Level
  proven : Bool
  graceExpired : Bool
  flowStage : Level
  sensorStage : Level
  /-- remaining 10 ms steps of the flow grace timer -/
  graceLeft : Option Nat
  /-- remaining 10 ms steps of the trip dwell timer -/
  dwellLeft : Option Nat
  ceiling : Option Nat
  bounds : Bounds
  deriving DecidableEq, Repr

/-! ### Output drive (chapter 7) -/

/-- A period group (R116). -/
structure Group where
  period : Nat
  buffered : Option Nat
  counter : Nat
  deriving DecidableEq, Repr

/-- A modulated channel's polarity (R118). -/
inductive Polarity
  | activeHigh
  | activeLow
  deriving DecidableEq, Repr

/-- A modulated channel (R117, R118, R137). -/
structure Modulated where
  held : Nat
  compare : Nat
  polarity : Polarity
  /-- the polarity in effect since the last period end (R118) -/
  activePolarity : Polarity
  /-- the level the pin is held at: while shut off (R137), and until the next period end after a re-arm (R142) or a
  dissolving (R121); `none` while the pin follows its compare -/
  forced : Option Bool
  deriving DecidableEq, Repr

/-- The two drives of a floating pair. -/
inductive Dir
  | opening
  | closing
  deriving DecidableEq, Repr

/-- The states of a formed pair (R122, R139). The safe states name their safe direction. -/
inductive PairState
  | idle
  | waiting
  | moving (d : Dir)
  | overdrive (d : Dir)
  | syncing
  | safeWaiting (d : Dir)
  | safeDriving (d : Dir)
  | safeEnd (d : Dir)
  | safeRest
  deriving DecidableEq, Repr

/-- The state of a formed pair (R122, R123). -/
structure PairRun where
  state : PairState
  target : Nat
  estimate : Nat
  unsynced : Bool
  lastReleased : Option Dir
  /-- remaining 10 ms ticks of the dead-time timer -/
  deadLeft : Option Nat
  /-- the drive-time accumulator, milliseconds -/
  accumulator : Nat
  /-- remaining 10 ms ticks of an overdrive, a sync, SAFE_END or the UNSYNCED safe drive -/
  left : Nat
  /-- the stroke time in force when the present state was entered, seconds (R119) -/
  stroke : Nat
  deriving DecidableEq, Repr

/-- A pair's settings (R119); it is formed while `run` is present. -/
structure Pair where
  /-- seconds -/
  stroke : Nat
  deadband : Nat
  /-- milliseconds -/
  deadTime : Nat
  run : Option PairRun
  deriving DecidableEq, Repr

/-- A discrete channel (R129). -/
structure Discrete where
  on : Bool
  /-- 10 ms ticks -/
  time : Nat
  held : Option Bool
  /-- seconds -/
  minOn : Nat
  /-- seconds -/
  minOff : Nat
  deriving DecidableEq, Repr

/-- The output drive unit. -/
structure Odu where
  groups : Bank Group 3
  mods : Bank Modulated 24
  pairs : Bank Pair 12
  discretes : Bank Discrete 8
  deriving DecidableEq, Repr

/-! ### Shutoff (chapter 8) -/

/-- The causes of a shutoff (R135). -/
inductive Cause
  | frostTrip
  | orphan
  | emergency
  deriving DecidableEq, Repr

/-- The causes a mask names (R134). -/
structure Mask where
  frostTrip : Bool
  orphan : Bool
  emergency : Bool
  deriving DecidableEq, Repr

/-- The line safe actions (R137, R138). -/
inductive LineAction
  | low
  | high
  | hold
  deriving DecidableEq, Repr

/-- The pair safe actions (R139). -/
inductive PairAction
  | stop
  | drive (d : Dir)
  deriving DecidableEq, Repr

/-- A shutoff record (R134). -/
structure Shutoff where
  mask : Mask
  line : LineAction
  pair : PairAction
  /-- SHUT_OFF -/
  latched : Bool
  deriving DecidableEq, Repr

/-- The shutoff unit. The frost trip of a circuit is `Circuit.inFrostTrip` and the orphan cause is `Lbi.orphan`: the
spec gives each one truth, held by its owner. -/
structure Shu where
  records : Bank Shutoff 32
  /-- EMERGENCY_IN is asserted -/
  emergencyIn : Bool
  deriving DecidableEq, Repr

/-! ### Loop bus, service port and seats (chapter 9) -/

/-- The loop bus rates (R144). -/
inductive BitRate
  | kbit62
  | kbit125
  | kbit250
  deriving DecidableEq, Repr

/-- A roster entry (R145). -/
structure RosterEntry where
  station : BitVec 4
  enabled : Bool
  editor : Bool
  deriving DecidableEq, Repr

/-- A result, with the sub-code UNMAPPED carries (11.1). -/
inductive Code
  | done
  | clamped
  | noWindow
  | absent
  | dirFault
  | guarded
  | maintOnly
  | badTarget
  | badForm
  | badValue
  | busy
  | barred
  | notEditor
  | inUse
  | stageHolds
  | causeActive
  deriving DecidableEq, Repr

/-- A received request: header word A and its payload words (section 9.1), and the group whose period item it names,
if it names one (R116, assumption 3). -/
structure Request where
  header : Word
  payload : List Word
  period : Option (BitVec 6) := none
  deriving DecidableEq, Repr

/-- An entry of an intake line (R146); a refusal keeps the header it answers. -/
inductive IntakeEntry
  | request (r : Request)
  | refusal (header : Word) (code : Code)
  deriving DecidableEq, Repr

/-- How far the request in service has come: taken by the handler, waiting for the walker, its walk in flight, or its
directory access waiting at the memory port (`data` is the word a DIR_WRITE carries). -/
inductive Progress
  | taken
  | awaitingWalk (rewalk : Bool)
  | walking
  | awaitingPort (addr : DirAddr) (data : Option DirWord)
  deriving DecidableEq, Repr

/-- The request in service of a handler (R147). -/
structure InService where
  request : Request
  progress : Progress
  deriving DecidableEq, Repr

/-- A reply handed to a transmitter: its words less the CRC, and whether it answers an accepted RESTART (R157). -/
structure Reply where
  words : List Word
  restart : Bool
  deriving DecidableEq, Repr

/-- A transmitter (R150): its list, oldest first, and the words on the wire while it sends the oldest. -/
structure Transmitter where
  replies : List Reply
  sending : Option (List Word)
  deriving DecidableEq, Repr

/-- The translation arbiter (R149). -/
structure Arbiter where
  waiting : Bank Bool 4
  last : Seat
  /-- the waiting seat to which the free walker has been handed -/
  chosen : Option Seat
  deriving DecidableEq, Repr

/-- The orphan timer and cause (R154). -/
structure Orphan where
  /-- seconds -/
  limit : Nat
  /-- 10 ms ticks -/
  count : Nat
  holds : Bool
  deriving DecidableEq, Repr

/-- The loop bus interface, the service port and the seat request handlers. A bus seat's standing is the class of its
fault count (`State.standing`, R152). -/
structure Lbi where
  station : BitVec 4
  rate : BitRate
  roster : Bank RosterEntry 3
  lines : Bank (List IntakeEntry) 4
  service : Bank (Option InService) 4
  faults : Bank Nat 3
  bus : Transmitter
  port : Transmitter
  arbiter : Arbiter
  orphan : Orphan
  /-- the model's own: the RESTART reply has been sent whole and the restart is to be taken (assumption 6) -/
  restartDue : Bool
  deriving DecidableEq, Repr

/-! ### Events (chapter 10) -/

/-- The state of an event flag (R159). -/
inductive FlagState
  | clear
  | fresh
  | reported
  deriving DecidableEq, Repr

/-- The flags, in the bit order of 11.2. -/
inductive Flag
  | stage (n : CircuitNo)
  | lockout
  | sensor
  | flow
  | shutoff
  | orphan
  | standing
  | dirFault
  | restart
  deriving DecidableEq, Repr

/-- The event unit: per seat twelve flags, a mask and an attention enable (R159, R161). -/
structure Evu where
  flags : Bank (Bank FlagState 12) 4
  masks : Bank (BitVec 12) 4
  attention : Bank Bool 4
  deriving DecidableEq, Repr

end Sys2Proof.Machine
end

