-- ==== Sys2Proof/Machine/PowerOn.lean ====
section
/-! DEFINITION. What power-on reset sets each block to (R21, R46, R63, R83, R93, R114, R131, R134, R158, R165). -/

namespace Sys2Proof.Machine

/-- R21: the fallback value of an output channel at power-on reset. -/
def powerOnFallback (pumpPosture : Bool) (ch : OutCh) : Nat :=
  if pumpPosture && 24 ≤ ch.val && ch.val ≤ 27 then 1000 else 0

/-- R21: a record at power-on reset. -/
def Record.powerOn (fallback : Nat) : Record where
  slots := Bank.fill fun _ => none
  winner := none
  arbitrated := fallback
  lastWon := none
  effective := fallback
  staticMin := 0
  staticMax := 1000
  fallbackMode := .fixed
  fallbackValue := fallback
  defaultHold := 10
  role := .none
  circuit := none
  bound := .none

/-- R7, R21: the command table at power-on reset; the rank table is 3, 0, 1, 2. -/
def Cmdt.powerOn (pumpPosture : Bool) : Cmdt where
  records := Bank.fill fun ch => Record.powerOn (powerOnFallback pumpPosture ch)
  ranks := ⟨#v[3, 0, 1, 2]⟩
  holdPhase := 0

/-- R46: the directory at power-on reset. -/
def Pdir.powerOn : Pdir where
  memory := []
  roots := Bank.fill fun _ => { base := 0, valid := false }
  isOpen := false
  walk := none
  lastSide := .seats
  lastSeat := 3

/-- R63: the windows and the cache at power-on reset. -/
def Pcache.powerOn : Pcache where
  windows := Bank.fill fun _ => { enable := false, zoneBase := 0, zoneMask := 0, seats := 0, guarded := false }
  sets := Bank.fill fun _ => { ways := Bank.fill fun _ => none, victim := 0 }

/-- R81: a result entry at power-on reset. -/
def SensorResult.powerOn : SensorResult where
  tRef := 0
  tSens := 0
  ratio := 0
  temp := 0
  filtered := 0
  validity := .notYet
  badRun := 0
  samples := 0

/-- R83: the sensor measurement unit at power-on reset. -/
def Smu.powerOn : Smu where
  settings := Bank.fill fun _ => { enabled := false, reference := 0, table := 0, shift := 0 }
  cycles := Bank.fill fun _ => 1024
  tables := Bank.fill fun _ => Bank.fill fun _ => 0
  results := Bank.fill fun _ => SensorResult.powerOn
  rangeStart := 0
  rangeEnd := 23
  modeItem := .continuous
  running := none
  conversion := none

/-- R93: the pulse input unit at power-on reset. -/
def Piu.powerOn : Piu where
  channels := Bank.fill fun _ =>
    { enabled := false, spacing := 0, timeout := 1000, period := none, timing := false, counter := 0, age := none,
      sinceTick := 0 }
  proven := Bank.fill fun _ => true

/-- No bound on any role. -/
def Bounds.unbounded : Bounds where
  fanCeiling := none
  bypassFloor := none
  modulatedPump := none
  discretePump := none

/-- R94, R114: a circuit at power-on reset. -/
def Circuit.powerOn : Circuit where
  guardSet := []
  fans := []
  bypass := none
  pumps := []
  flow := none
  freezePoint := 0
  mWatch := 300
  mAct := 200
  mTrip := 100
  hysteresis := 0
  pumpMin := 0
  tripDwell := 600
  flowGrace := 60
  stage := .disabled
  guardTemp := none
  margin := none
  sensorCause := .none
  marginStage := .clear
  proven := true
  graceExpired := false
  flowStage := .clear
  sensorStage := .clear
  graceLeft := none
  dwellLeft := none
  ceiling := none
  bounds := Bounds.unbounded

/-- R131: the output drive unit at power-on reset. -/
def Odu.powerOn (pumpPosture : Bool) : Odu where
  groups := Bank.fill fun _ => { period := 400, buffered := none, counter := 0 }
  mods := Bank.fill fun _ =>
    { held := 0, compare := 0, polarity := .activeHigh, activePolarity := .activeHigh, forced := none }
  pairs := Bank.fill fun _ => { stroke := 60, deadband := 10, deadTime := 1000, run := none }
  discretes := Bank.fill fun d =>
    { on := pumpPosture && d.val ≤ 3, time := 0, held := none, minOn := 0, minOff := 0 }

/-- R134: a shutoff record at power-on reset. -/
def Shutoff.powerOn : Shutoff where
  mask := { frostTrip := false, orphan := false, emergency := false }
  line := .low
  pair := .stop
  latched := false

/-- R134: the shutoff unit at power-on reset; EMERGENCY_IN is a pin, and stands as it stands. -/
def Shu.powerOn (emergencyIn : Bool) : Shu where
  records := Bank.fill fun _ => Shutoff.powerOn
  emergencyIn := emergencyIn

/-- R144: the bit rate the two straps select. -/
def BitRate.ofStraps (rate0 rate1 : Bool) : BitRate :=
  match rate0, rate1 with
  | false, false => .kbit62
  | true, false => .kbit125
  | _, true => .kbit250

/-- An idle transmitter with an empty list. -/
def Transmitter.idle : Transmitter where
  replies := []
  sending := none

/-- R149: the translation arbiter at power-on reset and at RESTART. -/
def Arbiter.powerOn : Arbiter where
  waiting := Bank.fill fun _ => false
  last := 3
  chosen := none

/-- R145: entry s holds station s + 1, enabled unless that is the part's own station. -/
def RosterEntry.powerOn (own : BitVec 4) (b : BusSeat) : RosterEntry where
  station := BitVec.ofNat 4 (b.val + 1)
  enabled := BitVec.ofNat 4 (b.val + 1) != own
  editor := false

/-- R158: the loop bus interface, the service port and the handlers at power-on reset. -/
def Lbi.powerOn (st : Straps) : Lbi where
  station := st.station
  rate := BitRate.ofStraps st.rate0 st.rate1
  roster := Bank.fill (RosterEntry.powerOn st.station)
  lines := Bank.fill fun _ => []
  service := Bank.fill fun _ => none
  faults := Bank.fill fun _ => 0
  bus := Transmitter.idle
  port := Transmitter.idle
  arbiter := Arbiter.powerOn
  orphan := { limit := 30, count := 0, holds := false }
  restartDue := false

/-- R165: every flag CLEAR, every mask empty and every attention enable clear, and then RESTART (bit 11) raised in all
four sets. -/
def Evu.powerOn : Evu where
  flags := Bank.fill fun _ => Bank.fill fun i => if i = 11 then .fresh else .clear
  masks := Bank.fill fun _ => 0
  attention := Bank.fill fun _ => false

/-- The strap levels `State.reset` stands for (assumption 1): station 0, both bit-rate straps low, PUMP_POSTURE low. -/
def Straps.low : Straps where
  station := 0
  rate0 := false
  rate1 := false
  pumpPosture := false

end Sys2Proof.Machine
end

