-- ==== Sys2Proof/Machine/State.lean ====
section
/-! DEFINITION. The state of the part, and the reasons a step can stop. -/

namespace Sys2Proof.Machine

/-- Everything the spec gives the GL-64, block by block, and the queue of commands that wait. -/
structure State where
  /-- the commands that wait, first in, first out -/
  pending : List Instr
  cmdt : Cmdt
  pdir : Pdir
  pcache : Pcache
  smu : Smu
  piu : Piu
  circuits : Bank Circuit 4
  odu : Odu
  shu : Shu
  lbi : Lbi
  evu : Evu
  /-- the model's own: how many times the place of the period counters has mattered (assumption 4) -/
  moment : Nat
  deriving DecidableEq, Repr

/-- The part has no condition that stops it: every request is answered or discarded and every event has its effect. -/
inductive Fault : Type
  deriving DecidableEq, Repr

/-- Why a command has no meaning. -/
inductive Refusal
  /-- Raised by no arm of `exec`: every row of the table has its meaning. Safe: the machine stops. -/
  | notModelled (mnemonic : String)
  deriving DecidableEq, Repr

/-- What every meaning answers. -/
abbrev Outcome := Host.Outcome State Fault Refusal

/-- The part right after power-on reset with these strap levels, EMERGENCY_IN as it stands. -/
def State.powerOn (st : Straps) (emergencyIn : Bool) (pending : List Instr) (moment : Nat) : State where
  pending := pending
  cmdt := Cmdt.powerOn st.pumpPosture
  pdir := Pdir.powerOn
  pcache := Pcache.powerOn
  smu := Smu.powerOn
  piu := Piu.powerOn
  circuits := Bank.fill fun _ => Circuit.powerOn
  odu := Odu.powerOn st.pumpPosture
  shu := Shu.powerOn emergencyIn
  lbi := Lbi.powerOn st
  evu := Evu.powerOn
  moment := moment

/-- The part right after power-on reset, with no command waiting; the straps and EMERGENCY_IN are low (assumption 1). -/
def State.reset : State := State.powerOn Straps.low false [] 0

end Sys2Proof.Machine
end

