-- ==== Sys2Proof/WellFormed.lean ====
section
/-! DEFINITION. When a command is one the links and pins can give. The meanings are total and do not rest on it; it
says which terms stand for something the part can meet. -/

namespace Sys2Proof

/-- The payload length field of header word A (11.1). -/
def lengthField (a : Word) : Nat := (a.extractLsb' 0 3).toNat

/-- A whole frame has header word A, as many payload words as its length field gives (at most seven) and the CRC. -/
def Frame.whole (f : Frame) : Bool :=
  match f.words with
  | [] => false
  | a :: rest => rest.length == lengthField a + 1

/-- A frame cut short has lost at least its last word (R144). -/
def cutShort (words : List Word) : Bool :=
  match words with
  | [] => true
  | a :: rest => rest.length < lengthField a + 1

/-- A frame names the period item of a group only in a CONFIG_READ or a CONFIG_WRITE, kinds 8 and 9 (assumption 3). -/
def Frame.mayName (f : Frame) : Bool :=
  match f.words, f.period with
  | _, none => true
  | a :: _, some _ => a.extractLsb' 3 5 == 8 || a.extractLsb' 3 5 == 9
  | [], some _ => false

/-- The period counter of R87 is 20 bits wide, and stops at its highest value: an edge is never later than that. -/
def edgeTimeFits (us : Nat) : Bool := us < 2 ^ 20

/-- The commands the part can meet. -/
def Instr.wf : Instr → Bool
  | .busFrameReceive f | .serviceFrameReceive f => f.whole && f.mayName
  | .frameReceptionCutShort ws => cutShort ws
  | .pulseRisingEdge _ us => edgeTimeFits us
  | .handlerTakeHead _ | .hello _ | .set _ | .release _ | .read _ | .demandHoldExpiry _ _ => true
  | .flushPoint _ | .flushSeat _ | .flushAll _ | .dirRead _ | .dirWrite _ | .dirPortGrant | .configRead _ => true
  | .configWriteRankTable _ | .configWriteRoot _ | .configWriteWindow _ | .configWriteRosterEntry _ => true
  | .configWriteOrphanLimit _ | .configWriteEventMask _ | .configWriteStaticLimits _ | .configWriteFallback _ => true
  | .configWriteDefaultHold _ | .configWriteOutputPolarity _ | .configWriteMinimumTimes _ => true
  | .configWritePeriod _ | .configWritePair _ | .pairForm _ | .pairDissolve _ | .configWriteShutoff _ => true
  | .configWriteSensorSettings _ | .configWriteReference _ | .configWriteBreakpoint _ | .configWriteScanRange _ => true
  | .configWriteScanMode _ | .configWritePulseSettings _ | .configWriteCircuitSensors _ => true
  | .configWriteCircuitOutputs _ | .configWriteCircuitFlow _ | .configWriteCircuitThresholds _ => true
  | .configWriteCircuitTimes _ | .configWriteOther _ | .openDirectory _ | .closeDirectory _ => true
  | .scanStart _ | .scanSingle _ | .scanStop _ | .referencePhaseEnd _ | .sensorPhaseEnd _ => true
  | .pulseTimeoutExpiry _ | .flowGraceExpiry _ | .tripDwellExpiry _ | .circuitEnable _ | .circuitDisable _ => true
  | .releaseLockout _ | .periodEnd _ | .pairPermilleStep _ | .overdriveEnd _ | .syncEnd _ | .deadTimeExpiry _ => true
  | .safeEndExpiry _ | .unsyncedSafeDriveEnd _ | .discreteMinimumReached _ | .emergencyInAssert => true
  | .emergencyInDeassert | .rearm _ | .events _ | .clear _ | .reinstate _ | .orphanTimerExpiry => true
  | .replyTransmit | .replyReadbackAbandon | .serviceReplyTransmit | .walkGrant | .walkZoneRead => true
  | .walkGroupRead | .walkPointRead | .walkLinkTargetRead | .walkMarkWrite | .restart _ | .restartTake => true
  | .restartIn | .powerOnReset _ | .replySentWhole _ => true

end Sys2Proof
end

