-- ==== Sys2Proof/Machine/Operands.lean ====
section
/-! DEFINITION. The encoded formats of chapter 11: frames and their CRC, request kinds, payload words, the item
selector, and the words of a reply. -/

namespace Sys2Proof.Machine

/-! ### Numbers and words -/

/-- The index below `n` that `i` names, if it names one. -/
def index? (n i : Nat) : Option (Fin n) := if h : i < n then some ⟨i, h⟩ else none

/-- A number as a field of one word. -/
def natWord (n : Nat) : Word := BitVec.ofNat 16 n

/-- A signed number as a two's complement word (chapter 11). -/
def intWord (i : Int) : Word := BitVec.ofInt 16 i

/-- A two-word value, the most significant word first (chapter 11). -/
def natWords (n : Nat) : List Word := [natWord (n / 65536), natWord n]

/-- The value of two consecutive words, the most significant first. -/
def wordsNat (hi lo : Word) : Nat := hi.toNat * 65536 + lo.toNat

/-- A field value placed at bit `shift`. -/
def field (v shift : Nat) : Word := natWord v <<< shift

/-- A mark as a number: 0 clear, 1 set (11.5). -/
def markNat (b : Bool) : Nat := if b then 1 else 0

/-- A mark as a word. -/
def markWord (b : Bool) : Word := natWord (markNat b)

/-- The mark a word carries: 0 clear, 1 set; any other code has no meaning (R168). -/
def mark? (w : Word) : Option Bool :=
  if w = 0 then some false else if w = 1 then some true else none

/-- 65535, the word that stands for absent, none or UNTIL_RELEASED where a layout names it. -/
def absentWord : Word := 0xFFFF

/-- A field of a layout that names 65535 for absent. -/
def optWord (o : Option Nat) : Word :=
  match o with
  | some n => natWord n
  | none => absentWord

/-- A field of a layout that names no word for absent: sent as 0 (R168) (assumption 17). -/
def optZero (o : Option Nat) : Word := natWord (o.getD 0)

/-- A signed field of a layout that names no word for absent: sent as 0 (R168) (assumption 17). -/
def optIntZero (o : Option Int) : Word := intWord (o.getD 0)

/-- The members below `n` of a set given as a number, bit i naming i, in rising order. -/
def setMembers (n v : Nat) : List (Fin n) := (List.finRange n).filter fun i => v.testBit i.val

/-- The number of a set: bit i set for each member i. -/
def setNat (p : Nat → Bool) (n : Nat) : Nat :=
  (List.range n).foldl (fun a i => if p i then a + 2 ^ i else a) 0

/-- The number of a set given as a list of its members. -/
def listNat {n : Nat} (l : List (Fin n)) : Nat := setNat (fun i => l.any fun x => x.val == i) n

/-! ### CRC (R166) -/

/-- One bit of the CRC-16 with polynomial 0x1021. -/
def crcBit (crc : Word) (bit : Bool) : Word :=
  if crc.msb ^^ bit then (crc <<< 1) ^^^ 0x1021#16 else crc <<< 1

/-- One word, its most significant bit first. -/
def crcWord (crc w : Word) : Word :=
  [15, 14, 13, 12, 11, 10, 9, 8, 7, 6, 5, 4, 3, 2, 1, 0].foldl (fun c i => crcBit c (w.getLsbD i)) crc

/-- R166: the CRC over a frame's header and payload words, from 0xFFFF. -/
def crc16 (words : List Word) : Word := words.foldl crcWord 0xFFFF#16

/-! ### Header word A and frames (R144, R166, R167) -/

/-- Header word A, bits 15–12. -/
def headerDest (a : Word) : BitVec 4 := a.extractLsb' 12 4

/-- Header word A, bits 11–8. -/
def headerSource (a : Word) : BitVec 4 := a.extractLsb' 8 4

/-- Header word A, bits 7–3. -/
def headerKind (a : Word) : BitVec 5 := a.extractLsb' 3 5

/-- The request a received frame carries, or none where its CRC fails. A frame that does not hold as many words as its
length field gives, before its CRC, fails its CRC (R144, R167) (assumption 23). -/
def checkedFrame (words : List Word) : Option Request :=
  match words with
  | [] => none
  | a :: rest =>
    let n := lengthField a
    if rest.length = n + 1 ∧ crc16 (a :: rest.take n) = rest.getD n 0 then
      some { header := a, payload := rest.take n }
    else none

/-- The request of a received frame, with the group whose period item the frame names (assumption 3). -/
def receivedFrame (f : Frame) : Option Request :=
  (checkedFrame f.words).map fun r => { r with period := f.period }

/-- The request kinds (11.2). -/
inductive Kind
  | hello
  | set
  | release
  | read
  | flush
  | dirRead
  | dirWrite
  | configRead
  | configWrite
  | openDirectory
  | closeDirectory
  | scan
  | circuit
  | releaseLockout
  | rearm
  | events
  | clear
  | reinstate
  | restart
  deriving DecidableEq, Repr

/-- The kind codes (11.2); 0 and 20 to 31 are no request kind. -/
def kindOfCode : Nat → Option Kind
  | 1 => some .hello
  | 2 => some .set
  | 3 => some .release
  | 4 => some .read
  | 5 => some .flush
  | 6 => some .dirRead
  | 7 => some .dirWrite
  | 8 => some .configRead
  | 9 => some .configWrite
  | 10 => some .openDirectory
  | 11 => some .closeDirectory
  | 12 => some .scan
  | 13 => some .circuit
  | 14 => some .releaseLockout
  | 15 => some .rearm
  | 16 => some .events
  | 17 => some .clear
  | 18 => some .reinstate
  | 19 => some .restart
  | _ => none

/-- The minimum payload length of a kind (11.2). -/
def minimumLength : Kind → Nat
  | .hello | .openDirectory | .closeDirectory | .events | .restart => 0
  | .release | .read | .dirRead | .configRead | .configWrite | .scan | .releaseLockout | .rearm | .clear
  | .reinstate => 1
  | .flush | .circuit => 2
  | .set | .dirWrite => 3

/-- The kind a header names. -/
def headerKind? (a : Word) : Option Kind := kindOfCode (headerKind a).toNat

/-- A request's kind. -/
def Request.kind (r : Request) : Option Kind := headerKind? r.header

/-- R144, R167: length 7, no request kind, or a payload shorter than the kind requires. -/
def Request.malformed (r : Request) : Bool :=
  lengthField r.header == 7 ||
    match r.kind with
    | none => true
    | some k => decide (lengthField r.header < minimumLength k)

/-- Payload word `i`. -/
def Request.word (r : Request) (i : Nat) : Word := r.payload.getD i 0

/-- The logical point of a payload word; bits 15–14 are spare (11.2). -/
def wordPoint (w : Word) : Point := w.extractLsb' 0 14

/-- The zone index of a point (R23). -/
def zoneIndex (p : Point) : BitVec 5 := p.extractLsb' 9 5

/-- The group index of a point (R23). -/
def groupIndex (p : Point) : BitVec 5 := p.extractLsb' 4 5

/-- The point index of a point (R23). -/
def pointIndex (p : Point) : BitVec 4 := p.extractLsb' 0 4

/-! ### Configuration items (11.5, R169) -/

/-- The configuration items, with the unit or part a selector names. -/
inductive Item
  | rankTable
  | root (seat : Seat)
  | window (w : Fin 2)
  | rosterEntry (b : BusSeat)
  | orphanLimit
  | eventMask (seat : Seat)
  | staticLimits (ch : OutCh)
  | fallback (ch : OutCh)
  | defaultHold (ch : OutCh)
  | output (ch : OutCh)
  | pair (k : PairNo)
  | driveStatus (ch : OutCh)
  | shutoff (ch : Fin 64)
  | sensorSettings (n : SensorCh)
  | reference (n : Fin 2)
  | breakpoint (table : Fin 2) (k : Fin 17)
  | scanRange
  | scanMode
  | scanStatus
  | resultDetail (n : SensorCh) (part : Fin 2)
  | pulseSettings (n : PulseCh)
  | circuitSensors (n : CircuitNo)
  | circuitOutputs (n : CircuitNo)
  | circuitFlow (n : CircuitNo)
  | circuitThresholds (n : CircuitNo)
  | circuitTimes (n : CircuitNo)
  | circuitStatus (n : CircuitNo) (part : Fin 3)
  | period (g : GroupNo)
  deriving DecidableEq, Repr

/-- An item without parts takes part 0 alone. -/
def ofPart0 (part : Nat) (i : Option Item) : Option Item := if part = 0 then i else none

/-- An item without an index takes index 0 alone. -/
def ofIndex0 (index : Nat) (i : Item) : Option Item := if index = 0 then some i else none

/-- R169: the item that item code, part and index name. -/
def itemOf (code part index : Nat) : Option Item :=
  match code with
  | 0 => none
  | 1 => ofPart0 part (ofIndex0 index .rankTable)
  | 2 => ofPart0 part ((index? 4 index).map .root)
  | 3 => ofPart0 part ((index? 2 index).map .window)
  | 4 => ofPart0 part ((index? 3 index).map .rosterEntry)
  | 5 => ofPart0 part (ofIndex0 index .orphanLimit)
  | 6 => ofPart0 part ((index? 4 index).map .eventMask)
  | 7 => ofPart0 part ((index? 32 index).map .staticLimits)
  | 8 => ofPart0 part ((index? 32 index).map .fallback)
  | 9 => ofPart0 part ((index? 32 index).map .defaultHold)
  | 10 => ofPart0 part ((index? 32 index).map .output)
  | 11 => ofPart0 part ((index? 12 index).map .pair)
  | 12 => ofPart0 part ((index? 32 index).map .driveStatus)
  | 13 => ofPart0 part ((index? 64 index).map .shutoff)
  | 14 => ofPart0 part ((index? 24 index).map .sensorSettings)
  | 15 => ofPart0 part ((index? 2 index).map .reference)
  | 16 => ofPart0 part ((index? 2 (index / 32)).bind fun t => (index? 17 (index % 32)).map (.breakpoint t))
  | 17 => ofPart0 part (ofIndex0 index .scanRange)
  | 18 => ofPart0 part (ofIndex0 index .scanMode)
  | 19 => ofPart0 part (ofIndex0 index .scanStatus)
  | 20 => (index? 24 index).bind fun n => (index? 2 part).map (.resultDetail n)
  | 21 => ofPart0 part ((index? 8 index).map .pulseSettings)
  | 22 => ofPart0 part ((index? 4 index).map .circuitSensors)
  | 23 => ofPart0 part ((index? 4 index).map .circuitOutputs)
  | 24 => ofPart0 part ((index? 4 index).map .circuitFlow)
  | 25 => ofPart0 part ((index? 4 index).map .circuitThresholds)
  | 26 => ofPart0 part ((index? 4 index).map .circuitTimes)
  | 27 => (index? 4 index).bind fun n => (index? 3 part).map (.circuitStatus n)
  | _ => none

/-- R169: the item a selector names: code in bits 15–8, part in bits 7–6, index in bits 5–0. -/
def selectorItem (w : Word) : Option Item :=
  itemOf (w.extractLsb' 8 8).toNat (w.extractLsb' 6 2).toNat (w.extractLsb' 0 6).toNat

/-- R169, R116: the item a CONFIG_READ or CONFIG_WRITE names: by its selector, or, where it names the period item of a
group, which 11.5 gives no code, apart from it (assumption 3). A group above 2 names no item. -/
def Request.item (r : Request) : Option Item :=
  match r.period with
  | some g => (index? 3 g.toNat).map .period
  | none => selectorItem (r.word 0)

/-- The items that a CONFIG_WRITE may not name (11.5). -/
def Item.readOnly : Item → Bool
  | .driveStatus _ | .scanStatus | .resultDetail _ _ | .circuitStatus _ _ => true
  | .rankTable | .root _ | .window _ | .rosterEntry _ | .orphanLimit | .eventMask _ | .staticLimits _ | .fallback _
  | .defaultHold _ | .output _ | .pair _ | .shutoff _ | .sensorSettings _ | .reference _ | .breakpoint _ _
  | .scanRange | .scanMode | .pulseSettings _ | .circuitSensors _ | .circuitOutputs _ | .circuitFlow _
  | .circuitThresholds _ | .circuitTimes _ | .period _ => false

/-! ### Replies (11.1, 11.3) -/

/-- The result codes (11.1). -/
def Code.number : Code → Nat
  | .done => 0
  | .clamped => 1
  | .noWindow | .absent | .dirFault => 2
  | .guarded => 3
  | .maintOnly => 4
  | .badTarget => 5
  | .badForm => 6
  | .badValue => 7
  | .busy => 8
  | .barred => 9
  | .notEditor => 10
  | .inUse => 11
  | .stageHolds => 12
  | .causeActive => 13

/-- The UNMAPPED sub-codes (11.1). -/
def Code.subCode : Code → Nat
  | .noWindow => 1
  | .absent => 2
  | .dirFault => 3
  | .done | .clamped | .guarded | .maintOnly | .badTarget | .badForm | .badValue | .busy | .barred | .notEditor
  | .inUse | .stageHolds | .causeActive => 0

/-- The standing codes (11.1). -/
def Standing.number : Standing → Nat
  | .good => 0
  | .doubtful => 1
  | .barred => 2

/-- R167: header word A of a reply: to the requester's source station, from the part's own, the kind field as it stood
in the request, and the length of the payload. -/
def replyHeaderA (own : BitVec 4) (request : Word) (length : Nat) : Word :=
  field (headerSource request).toNat 12 ||| field own.toNat 8 ||| field (headerKind request).toNat 3 |||
    natWord (length % 8)

/-- Header word B of a reply (11.1). -/
def replyHeaderB (code : Code) (attention : Bool) (standing : Standing) : Word :=
  field code.number 12 ||| field code.subCode 10 ||| field (markNat attention) 9 ||| field standing.number 7

/-- Where a translation came from (R62). -/
inductive Source
  | window (w : Fin 2)
  | cache
  | walk
  deriving DecidableEq, Repr

/-- The source codes of the translation word (11.3); 0 stands for NONE. -/
def Source.number : Source → Nat
  | .window w => 1 + w.val
  | .cache => 3
  | .walk => 4

/-- A translation as R62 reports it. -/
structure Translation where
  source : Source
  channel : Fin 64
  link : Bool
  deriving DecidableEq, Repr

/-- The translation word (11.3). -/
def Translation.word (t : Translation) : Word :=
  field t.source.number 13 ||| field (markNat t.link) 12 ||| natWord t.channel.val

/-! ### Enumerated fields (11.5) -/

/-- Codes of the stages of a cause. -/
def Level.number : Level → Nat
  | .clear => 1
  | .watch => 2
  | .act => 3
  | .trip => 4

/-- Codes of a circuit's stage. -/
def Stage.number : Stage → Nat
  | .disabled => 0
  | .level l => l.number
  | .lockout => 5

/-- Codes of the sensor cause. -/
def SensorCause.number : SensorCause → Nat
  | .none => 0
  | .pending => 1
  | .sensorLost => 2

/-- Codes of a validity. -/
def Validity.number : Validity → Nat
  | .notYet => 0
  | .valid => 1
  | .opened => 2
  | .short => 3

/-- Codes of the fallback modes. -/
def FallbackMode.number : FallbackMode → Nat
  | .fixed => 0
  | .holdLast => 1

/-- The fallback mode a word names. -/
def fallbackMode? (w : Word) : Option FallbackMode :=
  if w = 0 then some .fixed else if w = 1 then some .holdLast else none

/-- Codes of a polarity. -/
def Polarity.number : Polarity → Nat
  | .activeHigh => 0
  | .activeLow => 1

/-- The polarity a word names. -/
def polarity? (w : Word) : Option Polarity :=
  if w = 0 then some .activeHigh else if w = 1 then some .activeLow else none

/-- Codes of the line safe actions. -/
def LineAction.number : LineAction → Nat
  | .low => 0
  | .high => 1
  | .hold => 2

/-- The line safe action a word names. -/
def lineAction? (w : Word) : Option LineAction :=
  if w = 0 then some .low else if w = 1 then some .high else if w = 2 then some .hold else none

/-- Codes of the pair safe actions. -/
def PairAction.number : PairAction → Nat
  | .stop => 0
  | .drive .opening => 1
  | .drive .closing => 2

/-- The pair safe action a word names. -/
def pairAction? (w : Word) : Option PairAction :=
  if w = 0 then some .stop else if w = 1 then some (.drive .opening)
  else if w = 2 then some (.drive .closing) else none

/-- Codes of the pair states. -/
def PairState.number : PairState → Nat
  | .idle => 0
  | .waiting => 1
  | .moving .opening => 2
  | .moving .closing => 3
  | .overdrive .opening => 4
  | .overdrive .closing => 5
  | .syncing => 6
  | .safeWaiting _ => 7
  | .safeDriving .opening => 8
  | .safeDriving .closing => 9
  | .safeEnd _ => 10
  | .safeRest => 11

/-- Codes of the last released direction. -/
def lastReleasedNumber : Option Dir → Nat
  | none => 0
  | some .opening => 1
  | some .closing => 2

/-- Codes of the scan modes. -/
def ScanMode.number : ScanMode → Nat
  | .continuous => 0
  | .single => 1

/-- The scan mode a word names. -/
def scanMode? (w : Word) : Option ScanMode :=
  if w = 0 then some .continuous else if w = 1 then some .single else none

/-- A mask as its set of causes: bit 0 FROST_TRIP, 1 ORPHAN, 2 EMERGENCY. -/
def Mask.number (m : Mask) : Nat := markNat m.frostTrip + 2 * markNat m.orphan + 4 * markNat m.emergency

/-- The mask of a word's bits 0 to 2; the bits above are spare (R168, assumption 14). -/
def wordMask (w : Word) : Mask where
  frostTrip := w.getLsbD 0
  orphan := w.getLsbD 1
  emergency := w.getLsbD 2

/-! ### Channels -/

/-- The even channel of a pair: it drives open. -/
def evenCh (k : PairNo) : OutCh := ⟨2 * k.val, by omega⟩

/-- The odd channel of a pair: it drives closed. -/
def oddCh (k : PairNo) : OutCh := ⟨2 * k.val + 1, by omega⟩

/-- A modulated channel among the output channels. -/
def modCh (m : ModCh) : OutCh := ⟨m.val, by omega⟩

/-- A discrete channel among the output channels. -/
def discCh (d : DiscCh) : OutCh := ⟨24 + d.val, by omega⟩

/-- The modulated channel an output channel is. -/
def modOf (c : OutCh) : Option ModCh := index? 24 c.val

/-- The discrete channel an output channel is. -/
def discOf (c : OutCh) : Option DiscCh := if 24 ≤ c.val then index? 8 (c.val - 24) else none

/-- The pair a modulated channel belongs to if it is formed. -/
def pairOfMod (m : ModCh) : PairNo := ⟨m.val / 2, by omega⟩

/-- The pair an output channel belongs to if it is formed. -/
def pairOf (c : OutCh) : Option PairNo := index? 12 (c.val / 2)

/-- The period group of a modulated channel (section 7.1). -/
def groupOf (m : ModCh) : GroupNo := ⟨m.val / 8, by omega⟩

/-- The bus seat a seat is; the service seat is none. -/
def busSeat? (s : Seat) : Option BusSeat := index? 3 s.val

/-- A bus seat among the seats. -/
def seatOf (b : BusSeat) : Seat := ⟨b.val, by omega⟩

end Sys2Proof.Machine
end

