-- ==== Sys2Proof/Machine/Memory.lean ====
section
/-! DEFINITION. Directory memory (R24) and the fields of a descriptor word (R29, 11.4). -/

namespace Sys2Proof.Machine

/-- The word at address `a`; an unlisted word is zero, as every word is at power-on reset (R24). -/
def memRead : DirMemory → Nat → DirWord
  | [], _ => 0
  | (k, v) :: t, a => if k = a then v else memRead t a

/-- The memory with the word at address `a` replaced. A zero word is not listed. -/
def memWrite : DirMemory → Nat → DirWord → DirMemory
  | [], a, w => if w = 0 then [] else [(a, w)]
  | (k, v) :: t, a, w =>
    if a < k then (if w = 0 then (k, v) :: t else (a, w) :: (k, v) :: t)
    else if a = k then (if w = 0 then t else (a, w) :: t)
    else (k, v) :: memWrite t a w

/-- Every address of the memory lies above `lo` and below 4096, in strictly rising order, and no listed word is zero. -/
def memWfFrom : Nat → DirMemory → Bool
  | _, [] => true
  | lo, (k, v) :: t => decide (lo ≤ k) && decide (k < 4096) && decide (v ≠ 0) && memWfFrom (k + 1) t

/-- The canonical form of directory memory. -/
def memWf (m : DirMemory) : Bool := memWfFrom 0 m

/-- The kinds of a descriptor (R29). -/
inductive DescKind
  | absent
  | table
  | leaf
  | link
  deriving DecidableEq, Repr

/-- Bits 31–30 (11.4). -/
def descKind (w : DirWord) : DescKind :=
  match w.getLsbD 31, w.getLsbD 30 with
  | false, false => .absent
  | false, true => .table
  | true, false => .leaf
  | true, true => .link

/-- W, bit 29. -/
def descGuarded (w : DirWord) : Bool := w.getLsbD 29

/-- T, bit 28. -/
def descTouched (w : DirWord) : Bool := w.getLsbD 28

/-- S, bit 27 of a LEAF. -/
def descServiceOnly (w : DirWord) : Bool := w.getLsbD 27

/-- G, bit 26 of a LEAF. -/
def descGlobal (w : DirWord) : Bool := w.getLsbD 26

/-- D, bit 25 of a LEAF. -/
def descDriven (w : DirWord) : Bool := w.getLsbD 25

/-- The base of a TABLE and the target of a LINK, bits 11–0. -/
def descBase (w : DirWord) : DirAddr := w.extractLsb' 0 12

/-- The channel of a LEAF, bits 5–0. -/
def descChannel (w : DirWord) : Fin 64 := ⟨(w.extractLsb' 0 6).toNat, (w.extractLsb' 0 6).isLt⟩

/-- The word with T set and every other bit as it was (R40). -/
def withTouched (w : DirWord) : DirWord := w ||| 0x10000000#32

/-- The word with D set and every other bit as it was (R41). -/
def withDriven (w : DirWord) : DirWord := w ||| 0x02000000#32

/-- R27, R32: the word of the zone table, at base × 16, that a point's zone index names. -/
def zoneAddr (base : BitVec 8) (p : Point) : DirAddr :=
  (base.setWidth 12 <<< 4) + (zoneIndex p).setWidth 12

/-- R33: the word of a group table that a point's group index names. -/
def groupAddr (base : DirAddr) (p : Point) : DirAddr := base + (groupIndex p).setWidth 12

/-- R34: the word of a point table that a point's point index names. -/
def pointAddr (base : DirAddr) (p : Point) : DirAddr := base + (pointIndex p).setWidth 12

/-- R26: the word locked by the walk, which it has read and will write back. -/
def Walk.lockedWord (w : Walk) : Option DirAddr :=
  match w.step with
  | .mark addr _ _ => some addr
  | .zone | .group _ | .point _ | .link _ => none

/-- R30, R33, R34: whether the walk's next step is a port access. A group table off its multiple of 32 words, or a
point table off its multiple of 16, is never read. -/
def Walk.wantsPort (w : Walk) : Bool :=
  match w.step with
  | .zone | .link _ | .mark _ _ _ => true
  | .group base => base.toNat % 32 == 0
  | .point base => base.toNat % 16 == 0

end Sys2Proof.Machine
end

