-- ==== Sys2Proof/Machine/Cache.lean ====
section
/-! DEFINITION. The fixed windows and the point cache (chapter 3). -/

namespace Sys2Proof.Machine

/-- R48: a window matches a seat's request for a point. -/
def Window.matchesPoint (w : Window) (seat : Seat) (p : Point) : Bool :=
  w.enable && w.seats.getLsbD seat.val && ((zoneIndex p ^^^ w.zoneBase) &&& ~~~w.zoneMask) == 0

/-- R48: the channel a window gives, the low six bits of the point. -/
def windowChannel (p : Point) : Fin 64 := ⟨(p.extractLsb' 0 6).toNat, (p.extractLsb' 0 6).isLt⟩

/-- R48: the window that translates a request; window 0 comes first. -/
def Pcache.window? (c : Pcache) (seat : Seat) (p : Point) : Option (Fin 2) :=
  if (c.windows.read 0).matchesPoint seat p then some 0
  else if (c.windows.read 1).matchesPoint seat p then some 1
  else none

/-- R51: the set of a point, its group index modulo 8. -/
def cacheSetOf (p : Point) : Fin 8 := ⟨(groupIndex p).toNat % 8, by omega⟩

/-- R52: an entry matches a seat and a point. -/
def CacheEntry.serves (e : CacheEntry) (seat : Seat) (p : Point) : Bool :=
  e.point == p && (e.seat == seat || e.global)

/-- The ways whose valid entry satisfies `f`, in rising order. -/
def CacheSet.waysWhere (c : CacheSet) (f : CacheEntry → Bool) : List (Fin 4) :=
  (List.finRange 4).filter fun i =>
    match c.ways.read i with
    | some e => f e
    | none => false

/-- The set without the valid entries that satisfy `f`. -/
def CacheSet.drop (c : CacheSet) (f : CacheEntry → Bool) : CacheSet :=
  { c with
    ways := Bank.fill fun i =>
      match c.ways.read i with
      | some e => if f e then none else some e
      | none => none }

/-- R52: the matching entry, if there is one. -/
def CacheSet.lookup (c : CacheSet) (seat : Seat) (p : Point) : Option CacheEntry :=
  match c.waysWhere (fun e => e.serves seat p) with
  | [] => none
  | i :: _ => c.ways.read i

/-- R52: a hit advances the victim pointer by one, modulo 4. -/
def CacheSet.advance (c : CacheSet) : CacheSet := { c with victim := c.victim + 1 }

/-- R56: the entries a load must replace: for a non-global entry, those that match its seat and point; for a global
one, every entry of the point. -/
def CacheEntry.replaces (new old : CacheEntry) : Bool :=
  if new.global then old.point == new.point else old.serves new.seat new.point

/-- R56: the way a load writes: the lowest entry it replaces, else the lowest invalid way, else the victim. -/
def CacheSet.loadWay (c : CacheSet) (new : CacheEntry) : Fin 4 :=
  match c.waysWhere new.replaces with
  | i :: _ => i
  | [] =>
    match (List.finRange 4).find? (fun i => (c.ways.read i).isNone) with
    | some i => i
    | none => c.victim

/-- R56: a load. The other entries it replaces are invalidated; the victim pointer does not move. -/
def CacheSet.load (c : CacheSet) (new : CacheEntry) : CacheSet :=
  { c with ways := (c.drop new.replaces).ways.write (c.loadWay new) (some new) }

/-- A lookup for a seat and a point (R52). -/
def Pcache.lookup (c : Pcache) (seat : Seat) (p : Point) : Option CacheEntry :=
  (c.sets.read (cacheSetOf p)).lookup seat p

/-- The cache after a hit on a point (R52). -/
def Pcache.hit (c : Pcache) (p : Point) : Pcache :=
  { c with sets := c.sets.update (cacheSetOf p) CacheSet.advance }

/-- R55: the entry a walk's translation makes. -/
def entryOf (seat : Seat) (p : Point) (f : Found) : CacheEntry where
  seat := seat
  global := f.global && !f.guarded && !f.serviceOnly
  point := p
  channel := f.channel
  guarded := f.guarded
  driven := f.driven
  link := f.link

/-- R55, R56: a load into the point's set. -/
def Pcache.load (c : Pcache) (new : CacheEntry) : Pcache :=
  { c with sets := c.sets.update (cacheSetOf new.point) fun s => s.load new }

/-- R54: every valid entry that matches the seat and the point is invalidated. -/
def Pcache.invalidate (c : Pcache) (seat : Seat) (p : Point) : Pcache :=
  { c with sets := c.sets.update (cacheSetOf p) fun s => s.drop fun e => e.serves seat p }

/-- R58: FLUSH POINT. -/
def Pcache.flushPoint (c : Pcache) (seat : Seat) (p : Point) : Pcache := c.invalidate seat p

/-- R58: FLUSH SEAT, and what an accepted root write invalidates (R59). -/
def Pcache.flushSeat (c : Pcache) (seat : Seat) : Pcache :=
  { c with sets := Bank.fill fun i => (c.sets.read i).drop fun e => e.seat == seat && !e.global }

/-- R58: FLUSH ALL. -/
def Pcache.flushAll (c : Pcache) : Pcache :=
  { c with sets := Bank.fill fun i => (c.sets.read i).drop fun _ => true }

end Sys2Proof.Machine
end

