-- ==== Sys2Proof/Machine/Arbitration.lean ====
section
/-! DEFINITION. One channel command record: arbitration, fallback, limits and guard bound (chapter 1). -/

namespace Sys2Proof.Machine

/-- R152: the standing of a fault count. -/
def standingOf (count : Nat) : Standing :=
  if count ≤ 95 then .good else if count ≤ 255 then .doubtful else .barred

/-- The demand of a seat. -/
def Record.slot (r : Record) (seat : Seat) : Option Slot := r.slots.read seat

/-- The record holds a live demand (R2). -/
def Record.live (r : Record) : Bool := (List.finRange 4).any fun s => (r.slot s).isSome

/-- The highest ranked seat that satisfies `p`. -/
def firstRanked (ranks : Bank Seat 4) (p : Seat → Bool) : Option Seat :=
  [ranks.read 0, ranks.read 1, ranks.read 2, ranks.read 3].find? p

/-- R8: the winner: the highest ranked GOOD seat with a live demand, else the highest ranked DOUBTFUL one. -/
def chooseWinner (ranks : Bank Seat 4) (standing : Seat → Standing) (r : Record) : Option Seat :=
  match firstRanked ranks fun s => (r.slot s).isSome && standing s == .good with
  | some s => some s
  | none => firstRanked ranks fun s => (r.slot s).isSome && standing s == .doubtful

/-- R10, R11: the arbitrated value with no winner. -/
def Record.fallback (r : Record) : Nat :=
  match r.fallbackMode with
  | .fixed => r.fallbackValue
  | .holdLast => r.lastWon.getD r.fallbackValue

/-- R8 to R11: the winner is chosen anew and the arbitrated value set; a winner's value becomes the last-won value. -/
def Record.rearbitrate (ranks : Bank Seat 4) (standing : Seat → Standing) (r : Record) : Record :=
  match chooseWinner ranks standing r with
  | some s =>
    let v := ((r.slot s).map (·.value)).getD 0
    { r with winner := some s, arbitrated := v, lastWon := some v }
  | none => { r with winner := none, arbitrated := r.fallback }

/-- R13 step 1: the arbitrated value within the static limits. -/
def Record.limited (r : Record) : Nat :=
  if r.arbitrated < r.staticMin then r.staticMin
  else if r.staticMax < r.arbitrated then r.staticMax
  else r.arbitrated

/-- R13 step 2: a value under a guard bound. -/
def Bound.apply (b : Bound) (v : Nat) : Nat :=
  match b with
  | .none => v
  | .ceiling c => min v c
  | .floor f => max v f

/-- R13: the effective command is computed from the arbitrated value. -/
def Record.settle (r : Record) : Record := { r with effective := r.bound.apply r.limited }

/-- R9: re-arbitration and the recomputation that follows it. -/
def Record.judge (ranks : Bank Seat 4) (standing : Seat → Standing) (r : Record) : Record :=
  (r.rearbitrate ranks standing).settle

/-- R3: the demand of a seat is placed or replaced. -/
def Record.place (r : Record) (seat : Seat) (s : Slot) : Record := { r with slots := r.slots.write seat (some s) }

/-- The demands of the seats that satisfy `p` are removed. -/
def Record.remove (r : Record) (p : Seat → Bool) : Record :=
  { r with slots := Bank.fill fun s => if p s then none else r.slot s }

/-- R15: the state a discrete channel's record requests: ON from 500. -/
def requestedOn (effective : Nat) : Bool := 500 ≤ effective

/-- R4: the hold a SET's hold field, after clamping, places in the slot. -/
def placedHold (r : Record) (hold : Nat) : Hold :=
  if hold = 65535 then .untilReleased
  else if hold = 0 then .counted (10 * r.defaultHold)
  else .counted (10 * hold)

/-- R148: a SET's value field as it is taken. -/
def clampValue (v : Nat) : Nat := if v ≤ 1000 then v else 1000

/-- R148: a SET's hold field as it is taken. -/
def clampHold (seat : Seat) (h : Nat) : Nat :=
  if h ≤ 600 then h else if h = 65535 ∧ seat = serviceSeat then h else 600

/-- R148: the result of a SET that is placed. -/
def setResult (seat : Seat) (v h : Nat) : Code :=
  if clampValue v = v ∧ clampHold seat h = h then .done else .clamped

/-- R4: one tick of the hold time base on one slot. -/
def Slot.tick (s : Slot) : Slot :=
  match s.hold with
  | .counted n => { s with hold := .counted (n - 1) }
  | .untilReleased => s

/-- R4, R5: the slot's hold stands at its last step or has run out, so that its expiry may be taken (assumption 8). -/
def Slot.expiring (s : Slot) : Bool :=
  match s.hold with
  | .counted n => n ≤ 1
  | .untilReleased => false

/-- R4: the slot's hold has reached zero. -/
def Slot.expired (s : Slot) : Bool := s.hold == .counted 0

end Sys2Proof.Machine
end

