-- ==== Sys2Proof/Machine/Drive.lean ====
section
/-! DEFINITION. The output drive unit's channels and pairs, one at a time (chapters 7 and 8): compares and pin levels,
discrete states, and the states of a floating pair. -/

namespace Sys2Proof.Machine

/-! ### Modulated channels (R117, R118, R137) -/

/-- R117: the compare of a held command in a period. -/
def compareFor (held period : Nat) : Nat := held * period / 1000

/-- The level of a pin that is active or not, at a polarity (R118). -/
def levelAt (pol : Polarity) (active : Bool) : Bool :=
  match pol with
  | .activeHigh => active
  | .activeLow => !active

/-- R117: the pin's level when the period counter stands at `counter`. -/
def Modulated.level (m : Modulated) (counter : Nat) : Bool :=
  match m.forced with
  | some l => l
  | none => levelAt m.activePolarity (decide (counter < m.compare))

/-- R117, R118: at a period end a driving channel takes its compare and its polarity, and its pin follows them. -/
def Modulated.atPeriodEnd (m : Modulated) (period : Nat) : Modulated :=
  { m with compare := compareFor m.held period, activePolarity := m.polarity, forced := none }

/-- R137: the level a line safe action holds a pin at, where the pin stands at `now`. -/
def LineAction.pinLevel (a : LineAction) (now : Bool) : Bool :=
  match a with
  | .low => false
  | .high => true
  | .hold => now

/-! ### Period groups (R116) -/

/-- R116: at a period end the buffered period, if there is one, becomes active, and the counter starts from 0. -/
def Group.atPeriodEnd (g : Group) : Group where
  period := g.buffered.getD g.period
  buffered := none
  counter := 0

/-! ### Discrete channels (R129, R130, R138) -/

/-- The minimum time of the present state, in ticks. -/
def Discrete.minimum (d : Discrete) : Nat := 100 * (if d.on then d.minOn else d.minOff)

/-- A change of output: the time in state restarts. An output that already has the state keeps its time. -/
def Discrete.change (d : Discrete) (on : Bool) : Discrete := if on = d.on then d else { d with on := on, time := 0 }

/-- R130, R138: a requested state handed to the channel (assumption 21). -/
def Discrete.request (shutOff : Bool) (want : Bool) (d : Discrete) : Discrete :=
  if want = d.on then { d with held := none }
  else if shutOff then { d with held := some want }
  else if d.minimum ≤ d.time then { d.change want with held := none }
  else { d with held := some want }

/-- R130: the minimum of the present state is met while a change is held. -/
def Discrete.reached (d : Discrete) : Bool := d.held.isSome && decide (d.minimum ≤ d.time)

/-- R130, R142: the held change is applied once the minimum is met. -/
def Discrete.applyHeld (d : Discrete) : Discrete :=
  match d.held with
  | some h => if d.minimum ≤ d.time then { d.change h with held := none } else d
  | none => d

/-- R138: the output state a line safe action gives; a change restarts the time in state. -/
def Discrete.safe (a : LineAction) (d : Discrete) : Discrete := d.change (a.pinLevel d.on)

/-! ### Floating pairs (R122 to R128, R139, R142) -/

/-- The end of a direction. -/
def Dir.limit : Dir → Nat
  | .opening => 1000
  | .closing => 0

/-- R122, R139: the drive a state asserts. At most one: the two drives are never asserted together. -/
def PairState.drive : PairState → Option Dir
  | .moving d | .overdrive d | .safeDriving d | .safeEnd d => some d
  | .syncing => some .closing
  | .idle | .waiting | .safeWaiting _ | .safeRest => none

/-- R122: a drive may be asserted when no dead time runs, or when it is the drive released last. -/
def PairRun.mayAssert (p : PairRun) (d : Dir) : Bool := p.deadLeft.isNone || p.lastReleased == some d

/-- R122: releasing an asserted drive starts the dead-time timer and sets the last released direction; the
accumulator's remainder is discarded (R123). -/
def PairRun.release (q : Pair) (p : PairRun) : PairRun :=
  match p.state.drive with
  | some d => { p with lastReleased := some d, deadLeft := some (q.deadTime / 10), accumulator := 0 }
  | none => p

/-- R123: the pair enters OPENING or CLOSING. -/
def PairRun.startMove (q : Pair) (d : Dir) (p : PairRun) : PairRun :=
  { p with state := .moving d, accumulator := 0, stroke := q.stroke }

/-- R128: the pair enters SYNCING. -/
def PairRun.startSync (q : Pair) (p : PairRun) : PairRun :=
  { p with state := .syncing, left := q.stroke * 110, stroke := q.stroke }

/-- R124, R128: the target is judged against the estimate. -/
def PairRun.judge (q : Pair) (p : PairRun) : PairRun :=
  if max p.target p.estimate - min p.target p.estimate ≤ q.deadband then { p with state := .idle }
  else if p.unsynced then
    if p.mayAssert .closing then p.startSync q else { p with state := .waiting }
  else
    let d : Dir := if p.estimate < p.target then .opening else .closing
    if p.mayAssert d then p.startMove q d else { p with state := .waiting }

/-- R125: a move ends at its target. -/
def PairRun.endMove (q : Pair) (d : Dir) (p : PairRun) : PairRun :=
  if p.target = d.limit then
    { p with state := .overdrive d, left := q.stroke * 10, stroke := q.stroke, accumulator := 0 }
  else { p.release q with state := .idle }

/-- The estimate lies before the target in the drive's direction. -/
def Dir.towards (d : Dir) (estimate target : Nat) : Bool :=
  match d with
  | .opening => estimate < target
  | .closing => target < estimate

/-- R124, R126, R127, R128, R139: a target handed to the pair (assumption 20). -/
def PairRun.takeTarget (q : Pair) (shutOff : Bool) (t : Nat) (p : PairRun) : PairRun :=
  let p' := { p with target := t }
  if shutOff then p'
  else
    match p.state with
    | .idle => p'.judge q
    | .moving d =>
      if t = p.estimate then p'.endMove q d
      else if d.towards p.estimate t then p'
      else { p'.release q with state := .waiting }
    | .overdrive d => if t = d.limit then p' else PairRun.judge q { p'.release q with state := .idle }
    | .waiting | .syncing | .safeWaiting _ | .safeDriving _ | .safeEnd _ | .safeRest => p'

/-- R139: the drive in the safe direction asserts (assumption 29). -/
def PairRun.assertSafe (q : Pair) (d : Dir) (p : PairRun) : PairRun :=
  if p.unsynced then
    { p with state := .safeDriving d, left := q.stroke * 110, stroke := q.stroke, accumulator := 0 }
  else if p.estimate = d.limit then
    { p with state := .safeEnd d, left := q.stroke * 10, stroke := q.stroke, accumulator := 0 }
  else { p with state := .safeDriving d, stroke := q.stroke, accumulator := 0 }

/-- R139: a safe drive with neither drive asserted. -/
def PairRun.startSafe (q : Pair) (d : Dir) (p : PairRun) : PairRun :=
  if p.mayAssert d then p.assertSafe q d else { p with state := .safeWaiting d }

/-- R139: the pair takes a pair safe action, from an ordinary state or from a safe state. -/
def PairRun.takeSafe (q : Pair) (a : PairAction) (p : PairRun) : PairRun :=
  match a with
  | .stop => { p.release q with state := .safeRest }
  | .drive d =>
    match p.state.drive with
    | some d' => if d' = d then p.assertSafe q d else (p.release q).startSafe q d
    | none => p.startSafe q d

/-- R142: an accepted REARM returns the pair to drive. -/
def PairRun.rearm (q : Pair) (p : PairRun) : PairRun :=
  match p.state with
  | .safeWaiting _ => { p with state := .waiting }
  | .idle | .waiting | .moving _ | .overdrive _ | .syncing | .safeDriving _ | .safeEnd _ | .safeRest =>
    PairRun.judge q { p.release q with state := .idle }

/-- R123, R139: the state counts drive time in the accumulator. -/
def PairRun.counts (p : PairRun) : Bool :=
  match p.state with
  | .moving _ => true
  | .safeDriving _ => !p.unsynced
  | .idle | .waiting | .overdrive _ | .syncing | .safeWaiting _ | .safeEnd _ | .safeRest => false

/-- The state lasts for a counted number of ticks. -/
def PairRun.timed (p : PairRun) : Bool :=
  match p.state with
  | .overdrive _ | .syncing | .safeEnd _ => true
  | .safeDriving _ => p.unsynced
  | .idle | .waiting | .moving _ | .safeWaiting _ | .safeRest => false

/-- R123: the accumulator has reached T_stroke milliseconds. -/
def PairRun.permilleDue (p : PairRun) : Bool := p.counts && decide (p.stroke ≤ p.accumulator)

/-- R123: the estimate moved by one in a direction. -/
def stepEstimate (d : Dir) (e : Nat) : Nat :=
  match d with
  | .opening => min 1000 (e + 1)
  | .closing => e - 1

/-- R123, R125, R139: one permille of drive. -/
def PairRun.permilleStep (q : Pair) (p : PairRun) : PairRun :=
  match p.state with
  | .moving d =>
    let p' := { p with estimate := stepEstimate d p.estimate, accumulator := p.accumulator - p.stroke }
    if p'.estimate = p'.target then p'.endMove q d else p'
  | .safeDriving d =>
    let p' := { p with estimate := stepEstimate d p.estimate, accumulator := p.accumulator - p.stroke }
    if p'.estimate = d.limit then
      { p' with state := .safeEnd d, left := q.stroke * 10, stroke := q.stroke, accumulator := 0 }
    else p'
  | .idle | .waiting | .overdrive _ | .syncing | .safeWaiting _ | .safeEnd _ | .safeRest => p

/-- R125, R128, R139: the state's counted time stands at its last tick or has run out (assumption 8). -/
def PairRun.timeUp (p : PairRun) : Bool := p.timed && decide (p.left ≤ 1)

/-- R125: an overdrive ends. -/
def PairRun.endOverdrive (q : Pair) (p : PairRun) : PairRun := { p.release q with state := .idle }

/-- R128: a sync ends. -/
def PairRun.endSync (q : Pair) (p : PairRun) : PairRun :=
  PairRun.judge q { p.release q with state := .idle, estimate := 0, unsynced := false }

/-- R139: SAFE_END, or an UNSYNCED safe drive, ends. -/
def PairRun.endSafe (q : Pair) (p : PairRun) : PairRun := { p.release q with state := .safeRest }

/-- R122: the dead-time timer stands at its last tick or has run out (assumption 8). -/
def PairRun.deadUp (p : PairRun) : Bool :=
  match p.deadLeft with
  | some n => n ≤ 1
  | none => false

/-- R122, R124, R139: the dead-time timer expires. -/
def PairRun.endDeadTime (q : Pair) (p : PairRun) : PairRun :=
  let p' := { p with deadLeft := none }
  match p.state with
  | .waiting => p'.judge q
  | .safeWaiting d => p'.assertSafe q d
  | .idle | .moving _ | .overdrive _ | .syncing | .safeDriving _ | .safeEnd _ | .safeRest => p'

/-- One tick of the ODU time base on a pair (R122, R123). -/
def PairRun.tick (p : PairRun) : PairRun :=
  { p with
    deadLeft := p.deadLeft.map (· - 1)
    accumulator := if p.counts then p.accumulator + 10 else p.accumulator
    left := if p.timed then p.left - 1 else p.left }

/-- R120: a pair just formed, before its target is judged. -/
def PairRun.formed (target stroke : Nat) : PairRun where
  state := .idle
  target := target
  estimate := 0
  unsynced := true
  lastReleased := none
  deadLeft := none
  accumulator := 0
  left := 0
  stroke := stroke

/-- The pair is formed. -/
def Pair.isFormed (q : Pair) : Bool := q.run.isSome

/-- A formed pair's state changed by `f`; a pair not formed has none. -/
def Pair.change (q : Pair) (f : PairRun → PairRun) : Pair := { q with run := q.run.map f }

/-- R121: a move is in flight in every pair state other than IDLE. -/
def Pair.moveInFlight (q : Pair) : Bool :=
  match q.run with
  | some p => p.state != .idle
  | none => false

end Sys2Proof.Machine
end

