-- ==== Sys2Proof/Machine/Flags.lean ====
section
/-! DEFINITION. The event unit (chapter 10): raising, returning and clearing flags, and the attention marker. -/

namespace Sys2Proof.Machine

/-- A flag's bit in a flag set (11.2). -/
def Flag.bit : Flag → Fin 12
  | .stage n => ⟨n.val, by omega⟩
  | .lockout => 4
  | .sensor => 5
  | .flow => 6
  | .shutoff => 7
  | .orphan => 8
  | .standing => 9
  | .dirFault => 10
  | .restart => 11

/-- The flag is SET, reported or not. -/
def FlagState.isSet : FlagState → Bool
  | .clear => false
  | .fresh | .reported => true

/-- R160: a raise leaves the flag SET, not reported, whatever it was. -/
def FlagState.raised (_ : FlagState) : FlagState := .fresh

/-- R163: a returned flag becomes SET, reported. -/
def FlagState.returned : FlagState → FlagState
  | .clear => .clear
  | .fresh | .reported => .reported

/-- R164: a named flag that is SET, reported becomes CLEAR; any other stays. -/
def FlagState.cleared : FlagState → FlagState
  | .clear | .reported => .clear
  | .fresh => .fresh

/-- R160: a raise of one flag in one seat's set. -/
def Evu.raiseIn (e : Evu) (seat : Seat) (f : Flag) : Evu :=
  { e with flags := e.flags.update seat fun b => b.update f.bit FlagState.raised }

/-- R159: a raise of one flag in all four sets. -/
def Evu.raiseAll (e : Evu) (f : Flag) : Evu :=
  { e with flags := Bank.fill fun seat => (e.flags.read seat).update f.bit FlagState.raised }

/-- R163: every returned flag of the seat is marked reported. -/
def Evu.report (e : Evu) (seat : Seat) : Evu :=
  { e with flags := e.flags.update seat fun b => Bank.fill fun i => (b.read i).returned }

/-- R164: the named flags of the seat that are SET, reported become CLEAR. -/
def Evu.clear (e : Evu) (seat : Seat) (named : BitVec 12) : Evu :=
  { e with
    flags := e.flags.update seat fun b =>
      Bank.fill fun i => if named.getLsbD i.val then (b.read i).cleared else b.read i }

/-- R165: every flag of every set CLEAR, and then RESTART raised in all four. -/
def Evu.restarted (e : Evu) : Evu :=
  Evu.raiseAll { e with flags := Bank.fill fun _ => Bank.fill fun _ => .clear } .restart

/-- The flag set of a seat, bit i for flag i (11.2). -/
def Evu.flagNat (e : Evu) (seat : Seat) : Nat :=
  setNat (fun i => match index? 12 i with
    | some j => ((e.flags.read seat).read j).isSet
    | none => false) 12

/-- R162: the attention marker of a reply to a seat. -/
def Evu.marker (e : Evu) (seat : Seat) : Bool :=
  e.attention.read seat &&
    (List.finRange 12).any fun i =>
      ((e.flags.read seat).read i).isSet && !(e.masks.read seat).getLsbD i.val

end Sys2Proof.Machine
end

