-- ==== Sys2Proof/Machine/Measure.lean ====
section
/-! DEFINITION. The arithmetic of sensor measurement and of pulse inputs, one channel at a time (chapters 4 and 5). -/

namespace Sys2Proof.Machine

/-- Saturation to the signed 16-bit range (spec/00_scope.md, Temperatures and margins). -/
def saturate (i : Int) : Int := max (-32768) (min i 32767)

/-! ### Sensor measurement -/

/-- The highest value of the 24-bit time-base counter (R67). -/
def counterTop : Nat := 16777215

/-- R69: the ratio Q, its fraction dropped. -/
def ratioOf (tSens tRef : Nat) : Nat := tSens * 32768 / tRef

/-- R71 step 1: the segment of a ratio, at most 15. -/
def segmentOf (q : Nat) : Fin 16 := ⟨min (q / 4096) 15, by omega⟩

/-- R71: the temperature of a ratio by a table. Int division by 4096 rounds toward negative infinity. -/
def linearize (table : Bank Int 17) (q : Nat) : Int :=
  let k := segmentOf q
  let f : Int := (q : Int) - 4096 * (k.val : Int)
  let lo := table.read k.castSucc
  let hi := table.read k.succ
  saturate (lo + (hi - lo) * f / 4096)

/-- R72: the filtered temperature after a good conversion. -/
def filterStep (was : Validity) (f t : Int) (shift : Fin 5) : Int :=
  match was with
  | .valid => f + (t - f) / 2 ^ shift.val
  | .notYet | .opened | .short => t

/-- The outcomes of a completed conversion (R66, R75). -/
inductive ConversionOutcome
  | good (tRef tSens q : Nat)
  | refFault (tRef : Nat)
  | openOverflow (tRef : Nat)
  | openRatio (tRef tSens : Nat)
  | short (tRef tSens q : Nat)
  deriving DecidableEq, Repr

/-- R67: the reference phase ends the conversion as REF_FAULT (assumption 28). -/
def referenceFault (tRef : Nat) : Bool := decide (tRef < 1000) || tRef == counterTop

/-- R68, R69: the outcome of a conversion whose sensor phase ended. -/
def judgeConversion (tRef tSens : Nat) : ConversionOutcome :=
  if tSens = counterTop then .openOverflow tRef
  else
    let q := ratioOf tSens tRef
    if 65535 < q then .openRatio tRef tSens
    else if q < 2048 then .short tRef tSens q
    else .good tRef tSens q

/-- R74: a bad conversion on the run count and the validity; `kind` is what its kind sets. -/
def SensorResult.bad (r : SensorResult) (kind : Validity) : SensorResult :=
  let n := min 3 (r.badRun + 1)
  { r with badRun := n, validity := if n = 3 then kind else r.validity, samples := (r.samples + 1) % 256 }

/-- R72 to R75: the result entry after a completed conversion, by a table and a filter shift. -/
def SensorResult.complete (table : Bank Int 17) (shift : Fin 5) (o : ConversionOutcome) (r : SensorResult) :
    SensorResult :=
  match o with
  | .good tRef tSens q =>
    let t := linearize table q
    { tRef := tRef, tSens := tSens, ratio := q, temp := t,
      filtered := filterStep r.validity r.filtered t shift,
      validity := .valid, badRun := 0, samples := (r.samples + 1) % 256 }
  | .refFault tRef => { r.bad .opened with tRef := tRef, tSens := 0 }
  | .openOverflow tRef => { r.bad .opened with tRef := tRef, tSens := counterTop }
  | .openRatio tRef tSens => { r.bad .opened with tRef := tRef, tSens := tSens, ratio := 65535 }
  | .short tRef tSens q => { r.bad .short with tRef := tRef, tSens := tSens, ratio := q }

/-- The lowest enabled channel from `lo` to `hi` (R78). -/
def Smu.firstEnabled (m : Smu) (lo hi : Nat) : Option SensorCh :=
  (List.finRange 24).find? fun c => decide (lo ≤ c.val) && decide (c.val ≤ hi) && (m.settings.read c).enabled

/-- R66: a conversion of a channel begins, latching its settings and the N of its reference. -/
def Smu.begin (m : Smu) (c : SensorCh) : Smu :=
  let g := m.settings.read c
  { m with
    conversion := some
      { channel := c, reference := g.reference, table := g.table, shift := g.shift,
        cycles := m.cycles.read g.reference, phase := .reference } }

/-- R78: the choice at the start of a pass, for a scan running in mode `mode`. A CONTINUOUS scan that finds no enabled
channel stays RUNNING; a SINGLE scan stops. -/
def Smu.startPass (m : Smu) (mode : ScanMode) : Smu :=
  match m.firstEnabled m.rangeStart.val m.rangeEnd.val with
  | some c => Smu.begin { m with running := some mode } c
  | none =>
    match mode with
    | .continuous => { m with running := some .continuous, conversion := none }
    | .single => { m with running := none, conversion := none }

/-- R78: the choice after a completed conversion of channel `c`. -/
def Smu.chooseAfter (m : Smu) (mode : ScanMode) (c : SensorCh) : Smu :=
  match m.firstEnabled (max (c.val + 1) m.rangeStart.val) m.rangeEnd.val with
  | some d => m.begin d
  | none =>
    match mode with
    | .continuous => m.startPass .continuous
    | .single => { m with running := none, conversion := none }

/-- R78: a CONTINUOUS scan without a conversion chooses again at an accepted settings or range write. -/
def Smu.wake (m : Smu) : Smu :=
  match m.running, m.conversion with
  | some mode, none => m.startPass mode
  | _, _ => m

/-- R76, R80: the scan stops; the conversion in flight is abandoned. -/
def Smu.stop (m : Smu) : Smu := { m with running := none, conversion := none }

/-- R84: a running scan begins a new pass in the mode it had; a stopped one stays stopped. -/
def Smu.restart (m : Smu) : Smu :=
  match m.running with
  | some mode => m.startPass mode
  | none => { m with conversion := none }

/-! ### Pulse inputs -/

/-- The highest value of the 20-bit period counter (R87). -/
def periodTop : Nat := 1048575

/-- The period counter `us` microseconds on: it counts while timing runs and stops at its highest value (R87). -/
def PulseChannel.counterAfter (p : PulseChannel) (us : Nat) : Nat :=
  if p.timing then min periodTop (p.counter + us) else p.counter

/-- The channel `us` microseconds on. -/
def PulseChannel.advance (p : PulseChannel) (us : Nat) : PulseChannel :=
  { p with counter := p.counterAfter us, sinceTick := p.sinceTick + us }

/-- R86: the glitch filter, on the counter as the edge finds it. An edge on the microsecond of the edge before it is
the same sample, and no edge of its own (assumption 24). -/
def PulseChannel.accepts (p : PulseChannel) : Bool :=
  !p.timing || (decide (0 < p.counter) && decide (p.spacing * 1000 ≤ p.counter))

/-- R87: an accepted edge. -/
def PulseChannel.edge (p : PulseChannel) : PulseChannel :=
  { p with
    period := if p.timing then (if p.counter = periodTop then none else some p.counter) else p.period
    timing := true
    counter := 0
    age := some 0 }

/-- R88: the edge age has reached the no-edge timeout while timing runs. -/
def PulseChannel.timedOut (p : PulseChannel) : Bool :=
  match p.age with
  | some a => p.timing && decide (p.timeout / 10 ≤ a)
  | none => false

/-- R88: the expiry of the no-edge timeout. The age goes on. -/
def PulseChannel.expire (p : PulseChannel) : PulseChannel := { p with period := none, timing := false }

/-- R85: what a settings write does to the measurement when it changes the enabled mark; either way the channel ends
without a period, with timing stopped and no age. The counter goes to 0, as R93 has it, also at a write that disables the
channel, of whose counter R85 says nothing (DESIGN CHOICE, assumption 42). -/
def PulseChannel.clearMeasurement (p : PulseChannel) : PulseChannel :=
  { p with period := none, timing := false, counter := 0, age := none }

/-- R87, R88: one 10 ms tick of the PIU time base. The counter gains what the step's edges have not yet told of. -/
def PulseChannel.tick (p : PulseChannel) : PulseChannel :=
  { p with
    counter := p.counterAfter (10000 - p.sinceTick)
    sinceTick := 0
    age := p.age.map fun a => min 65535 (a + 1) }

/-- R90: the frequency in hundredths of a hertz, from the period as it stands. -/
def PulseChannel.frequency (p : PulseChannel) : Nat :=
  match p.period with
  | some t => 100000000 / t
  | none => 0

end Sys2Proof.Machine
end

