-- ==== Sys2Proof/Machine/Guard.lean ====
section
/-! DEFINITION. The freeze guard, one circuit at a time: evaluation, bounds and timers (chapter 6). -/

namespace Sys2Proof.Machine

/-- The order of the stages, from best to worst (R102). -/
def Level.rank : Level → Nat
  | .clear => 0
  | .watch => 1
  | .act => 2
  | .trip => 3

/-- The worse of two stages. -/
def Level.worst (a b : Level) : Level := if a.rank ≤ b.rank then b else a

/-- R100: the filtered temperatures of the VALID guard channels. -/
def guardTemps (results : Bank SensorResult 24) (set : List SensorCh) : List Int :=
  (set.filter fun c => (results.read c).validity == .valid).map fun c => (results.read c).filtered

/-- R100: the lowest filtered temperature of the VALID guard channels. -/
def guardTempOf (results : Bank SensorResult 24) (set : List SensorCh) : Option Int :=
  match guardTemps results set with
  | [] => none
  | t :: ts => some (ts.foldl min t)

/-- R100: the state of the guard set. -/
def sensorCauseOf (results : Bank SensorResult 24) (set : List SensorCh) : SensorCause :=
  if set.any fun c => (results.read c).validity == .valid then .none
  else if set.any fun c => (results.read c).validity == .notYet then .pending
  else .sensorLost

/-- R101: the margin. -/
def marginOf (guardTemp : Option Int) (freezePoint : Int) : Option Int :=
  guardTemp.map fun t => saturate (t - freezePoint)

/-- R102: the stage a margin calls for. -/
def Circuit.calledFor (c : Circuit) (m : Int) : Level :=
  if m < c.mTrip then .trip else if m < c.mAct then .act else if m < c.mWatch then .watch else .clear

/-- R102: relaxing from the previous margin stage, one stage at a time, while each step's condition holds. -/
def Circuit.relax (c : Circuit) (m : Int) : Level → Level
  | .clear => .clear
  | .watch => if c.mWatch + c.hysteresis ≤ m then .clear else .watch
  | .act =>
    if c.mAct + c.hysteresis ≤ m then (if c.mWatch + c.hysteresis ≤ m then .clear else .watch) else .act
  | .trip =>
    if c.mTrip + c.hysteresis ≤ m then
      (if c.mAct + c.hysteresis ≤ m then (if c.mWatch + c.hysteresis ≤ m then .clear else .watch) else .act)
    else .trip

/-- R102: the margin stage after an evaluation. -/
def Circuit.nextMarginStage (c : Circuit) (m : Option Int) : Level :=
  match m with
  | none => c.marginStage
  | some m => if c.marginStage.rank < (c.calledFor m).rank then c.calledFor m else c.relax m c.marginStage

/-- R103: the flow stage. -/
def flowStageOf (proven graceExpired : Bool) : Level :=
  if proven then .clear else if graceExpired then .trip else .act

/-- R105: the sensor stage. -/
def sensorStageOf : SensorCause → Level
  | .none => .clear
  | .pending => .watch
  | .sensorLost => .trip

/-- R107: the ACT ceiling; with no margin it is 1000. -/
def Circuit.actCeiling (c : Circuit) (m : Option Int) : Nat :=
  match m with
  | none => 1000
  | some m => (max 0 (min 1000 (1000 * (m - c.mTrip) / (c.mAct - c.mTrip)))).toNat

/-- R107: the bounds of a stage; `ceiling` is the ACT ceiling. -/
def boundsOf (stage : Stage) (ceiling pumpMin : Nat) : Bounds :=
  match stage with
  | .disabled | .level .clear => Bounds.unbounded
  | .level .watch =>
    { fanCeiling := some 1000, bypassFloor := some 0, modulatedPump := some pumpMin, discretePump := some 1000 }
  | .level .act =>
    { fanCeiling := some ceiling, bypassFloor := some (1000 - ceiling), modulatedPump := some pumpMin,
      discretePump := some 1000 }
  | .level .trip | .lockout =>
    { fanCeiling := some 0, bypassFloor := some 1000, modulatedPump := some pumpMin, discretePump := some 1000 }

/-- R109: a circuit is in frost trip while its stage is TRIP or LOCKOUT. -/
def Stage.frostTrip : Stage → Bool
  | .level .trip | .lockout => true
  | .disabled | .level .clear | .level .watch | .level .act => false

/-- R106: the trip dwell timer when the stage goes from `was` to `now`: it starts when the stage becomes TRIP from any
other stage, runs on while the stage stays TRIP, and does not run in any other stage. -/
def Circuit.dwellAfter (c : Circuit) (was now : Stage) : Option Nat :=
  if now = .level .trip then (if was = .level .trip then c.dwellLeft else some (c.tripDwell * 100))
  else none

/-- The circuit with its stage set, and with the dwell timer, the ACT ceiling and the bounds that go with it (R106,
R107). -/
def Circuit.withStage (c : Circuit) (stage : Stage) : Circuit :=
  let ceiling := c.actCeiling c.margin
  { c with
    stage := stage
    dwellLeft := c.dwellAfter c.stage stage
    ceiling := if stage = .level .act then some ceiling else none
    bounds := boundsOf stage ceiling c.pumpMin }

/-- R100 to R105: the guard temperature, the margin and the stages of the three causes, found and recorded. -/
def Circuit.findCauses (results : Bank SensorResult 24) (c : Circuit) : Circuit :=
  let t := guardTempOf results c.guardSet
  let m := marginOf t c.freezePoint
  let cause := sensorCauseOf results c.guardSet
  { c with
    guardTemp := t
    margin := m
    sensorCause := cause
    marginStage := c.nextMarginStage m
    flowStage := flowStageOf c.proven c.graceExpired
    sensorStage := sensorStageOf cause }

/-- R105: the worst of the three recorded stages. -/
def Circuit.worstStage (c : Circuit) : Level := (c.marginStage.worst c.flowStage).worst c.sensorStage

/-- R99 to R107: an evaluation. A circuit in LOCKOUT stays there unless LOCKOUT is lifted (R105, R113). -/
def Circuit.evaluate (results : Bank SensorResult 24) (lift : Bool) (c : Circuit) : Circuit :=
  let found := c.findCauses results
  found.withStage (if c.stage = .lockout ∧ lift = false then .lockout else .level found.worstStage)

/-- R99: the circuit is evaluated at events, that is, it is not DISABLED. -/
def Circuit.enabled (c : Circuit) : Bool := c.stage != .disabled

/-- R92, R103: a change of flow proof is recorded; an enabled circuit starts or cancels its flow grace. -/
def Circuit.takeProof (proven : Bool) (c : Circuit) : Circuit :=
  if c.enabled then
    if proven then { c with proven := true, graceLeft := none, graceExpired := false }
    else { c with proven := false, graceLeft := some (c.flowGrace * 100) }
  else { c with proven := proven }

/-- R111 steps 1 and 2: what an enable sets before the evaluation. -/
def Circuit.prepareEnable (c : Circuit) : Circuit :=
  { c with
    marginStage := .clear
    graceExpired := false
    graceLeft := if c.proven then none else some (c.flowGrace * 100) }

/-- R112: a circuit disabled. -/
def Circuit.disable (c : Circuit) : Circuit :=
  { c with
    stage := .disabled
    graceLeft := none
    graceExpired := false
    dwellLeft := none
    guardTemp := none
    margin := none
    ceiling := none
    sensorCause := .none
    marginStage := .clear
    flowStage := .clear
    sensorStage := .clear
    bounds := Bounds.unbounded }

/-- R113: the recorded causes allow a release from LOCKOUT. -/
def Circuit.releasable (c : Circuit) : Bool :=
  c.marginStage == .clear && c.proven && c.sensorCause != .sensorLost

/-- R115: a running timer restarts from its full time. -/
def Circuit.restartTimers (c : Circuit) : Circuit :=
  { c with
    graceLeft := c.graceLeft.map fun _ => c.flowGrace * 100
    dwellLeft := c.dwellLeft.map fun _ => c.tripDwell * 100 }

/-- R98: one tick of the FGU time base. -/
def Circuit.tick (c : Circuit) : Circuit :=
  { c with graceLeft := c.graceLeft.map (· - 1), dwellLeft := c.dwellLeft.map (· - 1) }

/-- A timer stands at its last step or has run out, so that its expiry may be taken (R98) (assumption 8). -/
def lastStep (left : Option Nat) : Bool :=
  match left with
  | some n => n ≤ 1
  | none => false

/-- The circuit lists an output channel (R94). -/
def Circuit.lists (c : Circuit) (ch : OutCh) : Bool := c.fans.contains ch || c.bypass == some ch || c.pumps.contains ch

/-- R14: the role a circuit's lists give a channel. -/
def Circuit.roleOf (c : Circuit) (ch : OutCh) : Role :=
  if c.fans.contains ch then .fan
  else if c.bypass == some ch then .bypass
  else if c.pumps.contains ch then .pump
  else .none

/-- R107, R108: the bound of a channel in a role. A pump is discrete when its channel lies from 24 to 31. -/
def Bounds.forRole (b : Bounds) (role : Role) (ch : OutCh) : Bound :=
  let floor (o : Option Nat) : Bound := match o with
    | some v => .floor v
    | none => .none
  match role with
  | .none => .none
  | .fan => match b.fanCeiling with
    | some v => .ceiling v
    | none => .none
  | .bypass => floor b.bypassFloor
  | .pump => floor (if 24 ≤ ch.val then b.discretePump else b.modulatedPump)

/-- R91: the flow proof of a circuit as its flow channel's period gives it. -/
def proofOf (channels : Bank PulseChannel 8) (c : Circuit) : Bool :=
  match c.flow with
  | none => true
  | some (ch, pMax) =>
    match (channels.read ch).period with
    | some p => p ≤ pMax
    | none => false

end Sys2Proof.Machine
end

