-- ==== Sys2Proof/Machine/Ops.lean ====
section
/-! DEFINITION. The shared operations over the whole state: what one block hands another (records to outputs, causes
to outputs, measurements to the freeze guard, standing to the command table), and the answering of a request. Each is
taken whole within a step (R170). A change that reaches several units is made for all of them at once: R1, R13, R14,
R108 and R135 give their order no effect. -/

namespace Sys2Proof.Machine

/-! ### Reading the state -/

/-- R152: a seat's standing; the service seat is always GOOD. -/
def State.standing (s : State) (seat : Seat) : Standing :=
  match busSeat? seat with
  | some b => standingOf (s.lbi.faults.read b)
  | none => .good

/-- R145: a seat holds editor right; the service seat always does. -/
def State.editor (s : State) (seat : Seat) : Bool :=
  match busSeat? seat with
  | some b => (s.lbi.roster.read b).editor
  | none => true

/-- The command record of a channel. -/
def State.record (s : State) (c : OutCh) : Record := s.cmdt.records.read c

/-- The shutoff record of a channel. -/
def State.shutoff (s : State) (c : OutCh) : Shutoff := s.shu.records.read c

/-- A circuit. -/
def State.circuit (s : State) (n : CircuitNo) : Circuit := s.circuits.read n

/-- A pair is formed. -/
def Odu.formed (o : Odu) (k : PairNo) : Bool := (o.pairs.read k).isFormed

/-- The channel is a member of a formed pair. -/
def Odu.member (o : Odu) (c : OutCh) : Bool :=
  match pairOf c with
  | some k => o.formed k
  | none => false

/-- R45: the channel is the odd member of a formed pair. -/
def Odu.oddMember (o : Odu) (c : OutCh) : Bool := o.member c && c.val % 2 == 1

/-- The pair whose even channel this is, if it is formed. -/
def Odu.evenPair (o : Odu) (c : OutCh) : Option PairNo :=
  if c.val % 2 = 0 then (pairOf c).filter fun k => o.formed k else none

/-- R134, R139: the channel's latch stands at SHUT_OFF. -/
def State.shutOff (s : State) (c : OutCh) : Bool := (s.shutoff c).latched

/-- R135: a cause holds for a channel. -/
def State.causeHolds (s : State) (c : OutCh) : Cause → Bool
  | .frostTrip =>
    match (s.record c).circuit with
    | some n => (s.circuit n).stage.frostTrip
    | none => false
  | .orphan => s.lbi.orphan.holds
  | .emergency => s.shu.emergencyIn

/-- A mask names a cause. -/
def Mask.names (m : Mask) : Cause → Bool
  | .frostTrip => m.frostTrip
  | .orphan => m.orphan
  | .emergency => m.emergency

/-- R141: the causes of a mask that hold for a channel. -/
def State.heldCauses (s : State) (c : OutCh) (m : Mask) : Mask where
  frostTrip := m.frostTrip && s.causeHolds c .frostTrip
  orphan := m.orphan && s.causeHolds c .orphan
  emergency := m.emergency && s.causeHolds c .emergency

/-- A mask is not empty. -/
def Mask.any (m : Mask) : Bool := m.frostTrip || m.orphan || m.emergency

/-- R16: a formed pair the channel belongs to has a move in flight. -/
def State.moveInFlight (s : State) (c : OutCh) : Bool :=
  match pairOf c with
  | some k => (s.odu.pairs.read k).moveInFlight
  | none => false

/-- The level of a modulated channel's pin: in a formed pair its drive's, else its own (R117, R118, R122). A pair's pins
take the polarity last written, also one that still waited for its period end when the pair was formed (assumption
36). -/
def State.pinLevel (s : State) (m : ModCh) : Bool :=
  let mod := s.odu.mods.read m
  match (s.odu.pairs.read (pairOfMod m)).run with
  | some p =>
    levelAt mod.polarity (p.state.drive == some (if m.val % 2 = 0 then Dir.opening else Dir.closing))
  | none => mod.level (s.odu.groups.read (groupOf m)).counter

/-! ### Events -/

/-- R159: a raise in all four sets. -/
def State.raiseAll (s : State) (f : Flag) : State := { s with evu := s.evu.raiseAll f }

/-- A raise in all four sets where `b` holds. -/
def State.raiseIf (s : State) (b : Bool) (f : Flag) : State := if b then s.raiseAll f else s

/-! ### Records to outputs (R15) -/

/-- R15, R117, R126, R130: the outputs take the effective commands that changed. A modulated channel holds its new
command, a formed pair takes its even channel's as its target, a discrete channel takes a changed requested state; the
odd member of a formed pair hands nothing (R1). -/
def Odu.takeCommands (o : Odu) (latched : OutCh → Bool) (was now : Bank Record 32) : Odu :=
  let changed : OutCh → Bool := fun c => (was.read c).effective != (now.read c).effective
  { o with
    mods := Bank.fill fun m =>
      if changed (modCh m) && !o.member (modCh m) then
        { o.mods.read m with held := (now.read (modCh m)).effective }
      else o.mods.read m
    pairs := Bank.fill fun k =>
      let q := o.pairs.read k
      if changed (evenCh k) then
        q.change (PairRun.takeTarget q (latched (evenCh k)) (now.read (evenCh k)).effective)
      else q
    discretes := Bank.fill fun d =>
      let want := requestedOn (now.read (discCh d)).effective
      if requestedOn (was.read (discCh d)).effective = want then o.discretes.read d
      else (o.discretes.read d).request (latched (discCh d)) want }

/-- The records changed by `f`, and the outputs handed what changed. The odd record of a formed pair is unused: it
takes no change and hands nothing (R1). -/
def State.withRecords (s : State) (f : OutCh → Record → Record) : State :=
  let now : Bank Record 32 := Bank.fill fun c => if s.odu.oddMember c then s.record c else f c (s.record c)
  { s with
    cmdt := { s.cmdt with records := now }
    odu := s.odu.takeCommands s.shutOff s.cmdt.records now }

/-- One record changed by `f`. -/
def State.withRecord (s : State) (c : OutCh) (f : Record → Record) : State :=
  s.withRecords fun c' r => if c' = c then f r else r

/-- R9: a record re-arbitrates by the rank table and the standings as they stand. -/
def State.judgeRecord (s : State) (r : Record) : Record := r.judge s.cmdt.ranks s.standing

/-- R3, R9: a demand is placed and its record re-arbitrates. -/
def State.placeDemand (s : State) (c : OutCh) (seat : Seat) (d : Slot) : State :=
  s.withRecord c fun r => s.judgeRecord (r.place seat d)

/-- The demands of the seats that satisfy `p` are removed from every record, and each record that held one
re-arbitrates (R6, R18, R19). -/
def State.removeDemands (s : State) (inChannel : OutCh → Bool) (p : Seat → Bool) : State :=
  s.withRecords fun c r =>
    if inChannel c && (List.finRange 4).any (fun seat => p seat && (r.slot seat).isSome) then
      s.judgeRecord (r.remove p)
    else r

/-! ### Shutting off (R136 to R139) -/

/-- Where the period counters stand at this moment, which the spec does not time (assumption 4). -/
def State.runCounters (s : State) : State :=
  { s with
    odu :=
      { s.odu with
        groups := Bank.fill fun g =>
          let r := s.odu.groups.read g
          { r with counter := Config.countAt s.moment g.val % r.period } }
    moment := s.moment + 1 }

/-- R137: the safe level of a modulated channel whose pin stands at `now`. -/
def Modulated.hold (m : Modulated) (a : LineAction) (now : Bool) : Modulated :=
  { m with forced := some (a.pinLevel now) }

/-- R137 to R139: the outputs of the channels that satisfy `hit` take the safe actions of their records at once. -/
def State.forceOutputs (s : State) (hit : OutCh → Bool) : State :=
  let s := s.runCounters
  { s with
    odu :=
      { s.odu with
        mods := Bank.fill fun m =>
          if hit (modCh m) && !s.odu.member (modCh m) then
            (s.odu.mods.read m).hold (s.shutoff (modCh m)).line (s.pinLevel m)
          else s.odu.mods.read m
        pairs := Bank.fill fun k =>
          let q := s.odu.pairs.read k
          if hit (evenCh k) then q.change (PairRun.takeSafe q (s.shutoff (evenCh k)).pair) else q
        discretes := Bank.fill fun d =>
          if hit (discCh d) then (s.odu.discretes.read d).safe (s.shutoff (discCh d)).line
          else s.odu.discretes.read d } }

/-- R136: the channels that satisfy `p` and drive, but for the odd members of formed pairs, are shut off: their latches
set and their outputs at their safe actions; SHUTOFF is raised once if there is one. -/
def State.shutOffWhere (s : State) (p : OutCh → Bool) : State :=
  let hit : OutCh → Bool := fun c => p c && !s.shutOff c && !s.odu.oddMember c
  if (List.finRange 32).any hit then
    let forced := s.forceOutputs hit
    State.raiseAll
      { forced with
        shu :=
          { forced.shu with
            records := Bank.fill fun c =>
              let r := forced.shu.records.read c
              { r with latched := r.latched || hit c } } }
      .shutoff
  else s

/-- R136: a cause begins for the channels it concerns. -/
def State.causeBegins (s : State) (cause : Cause) (concerns : OutCh → Bool) : State :=
  s.shutOffWhere fun c => concerns c && (s.shutoff c).mask.names cause

/-! ### Freeze guard (R108 to R110) -/

/-- R108: the bounds that changed are handed to the records of the circuit's channels, which recompute (R13). -/
def State.handBounds (s : State) (n : CircuitNo) (was now : Bounds) : State :=
  s.withRecords fun c r =>
    if r.circuit = some n ∧ was.forRole r.role c ≠ now.forRole r.role c then
      Record.settle { r with bound := now.forRole r.role c }
    else r

/-- R108 to R110: a circuit changed from `was` to `now`, with the hand-offs of the change: the stage flag, the start of
frost trip, and the bounds that changed. -/
def State.changeCircuit (s : State) (n : CircuitNo) (now : Circuit) : State :=
  let was := s.circuit n
  let s1 := State.raiseIf { s with circuits := s.circuits.write n now } (was.stage != now.stage) (.stage n)
  let s2 :=
    if !was.stage.frostTrip && now.stage.frostTrip then
      s1.causeBegins .frostTrip fun c => (s1.record c).circuit == some n
    else s1
  s2.handBounds n was.bounds now.bounds

/-- R99: an enabled circuit is evaluated. -/
def State.evaluate (s : State) (n : CircuitNo) : State :=
  if (s.circuit n).enabled then s.changeCircuit n ((s.circuit n).evaluate s.smu.results false) else s

/-- R91, R92, R103: the flow proof of a circuit is judged; a change is recorded and handed on. -/
def State.judgeProof (s : State) (n : CircuitNo) : State :=
  let proof := proofOf s.piu.channels (s.circuit n)
  if proof = s.piu.proven.read n then s
  else
    let s1 := State.raiseAll
      { s with
        piu := { s.piu with proven := s.piu.proven.write n proof }
        circuits := s.circuits.update n (Circuit.takeProof proof) }
      .flow
    s1.evaluate n

/-- R91: the flow proof is judged of the circuit that names a pulse channel as its flow channel. -/
def State.judgeProofOf (s : State) (ch : PulseCh) : State :=
  (List.finRange 4).foldl
    (fun s n => if ((s.circuit n).flow.map (·.1)) = some ch then s.judgeProof n else s) s

/-! ### Standing (R151, R152) -/

/-- R152: on entry to BARRED, each request waiting in the line becomes a refusal BARRED in its place. -/
def IntakeEntry.bar : IntakeEntry → IntakeEntry
  | .request r => .refusal r.header .barred
  | .refusal h c => .refusal h c

/-- R18, R152: what a change of a seat's standing does beyond the count: STANDING is raised in its own set; the records
re-arbitrate, without the seat's demands when it has become BARRED; the waiting requests then become refusals, however
many refusals the line then holds (assumption 38). -/
def State.takeStanding (s : State) (b : BusSeat) (now : Standing) : State :=
  let seat := seatOf b
  let s1 := { s with evu := s.evu.raiseIn seat .standing }
  if now = .barred then
    let s2 := s1.removeDemands (fun _ => true) (fun q => q == seat)
    { s2 with lbi := { s2.lbi with lines := s2.lbi.lines.update seat (List.map IntakeEntry.bar) } }
  else
    s1.withRecords fun _ r => if (r.slot seat).isSome then s1.judgeRecord r else r

/-- R152: a seat's fault count is set and its standing judged. -/
def State.setCount (s : State) (b : BusSeat) (n : Nat) : State :=
  let was := standingOf (s.lbi.faults.read b)
  let s1 := { s with lbi := { s.lbi with faults := s.lbi.faults.write b n } }
  if standingOf n = was then s1 else s1.takeStanding b (standingOf n)

/-- R151: the fault count after an outcome, saturated at 0 and 511. -/
def countAfter (n : Nat) : Code → Nat
  | .badForm => min 511 (n + 8)
  | .busy => min 511 (n + 4)
  | .guarded | .maintOnly => min 511 (n + 2)
  | .done | .clamped => n - 1
  | .noWindow | .absent | .dirFault | .badTarget | .badValue | .barred | .notEditor | .inUse | .stageHolds
  | .causeActive => n

/-- R151: a seat's fault count moves by an outcome. The service seat has no count, and a BARRED seat's stays. -/
def State.applyOutcome (s : State) (seat : Seat) (c : Code) : State :=
  match busSeat? seat with
  | some b =>
    if s.standing seat = .barred then s else s.setCount b (countAfter (s.lbi.faults.read b) c)
  | none => s

/-! ### Replies (R147, R150) -/

/-- R147, R162: a reply is handed to the seat's transmitter, its header word B filled at this moment. -/
def State.handReply (s : State) (seat : Seat) (request : Word) (c : Code) (payload : List Word) (restart : Bool) :
    State :=
  let words := replyHeaderA s.lbi.station request payload.length ::
    replyHeaderB c (s.evu.marker seat) (s.standing seat) :: payload
  let reply : Reply := { words := words, restart := restart }
  if seat = serviceSeat then
    { s with lbi := { s.lbi with port := { s.lbi.port with replies := s.lbi.port.replies ++ [reply] } } }
  else { s with lbi := { s.lbi with bus := { s.lbi.bus with replies := s.lbi.bus.replies ++ [reply] } } }

/-- A handler's request in service set. -/
def State.setService (s : State) (seat : Seat) (i : Option InService) : State :=
  { s with lbi := { s.lbi with service := s.lbi.service.write seat i } }

/-- R147: the result of the request in service is decided: its outcome moves the fault count, its reply is handed to
the transmitter, and it leaves the service. -/
def State.answer (s : State) (seat : Seat) (r : Request) (c : Code) (payload : List Word) : State :=
  ((s.applyOutcome seat c).handReply seat r.header c payload false).setService seat none

/-- The request a seat's handler has taken and not yet begun to execute. -/
def State.taken (s : State) (seat : Seat) : Option Request :=
  match s.lbi.service.read seat with
  | some i => if i.progress = .taken then some i.request else none
  | none => none

/-- A step that executes a request of kind `k`: it acts where the seat's handler has taken such a request, and no such
step can occur where it has not (assumption 5). -/
def State.onRequest (s : State) (seat : Seat) (k : Kind) (f : Request → State) : State :=
  match s.taken seat with
  | some r => if r.kind = some k then f r else s
  | none => s

/-! ### The translation arbiter (R149) -/

/-- The seats in rotating order, beginning after `last`. -/
def seatsAfter (last : Seat) : List Seat := [last + 1, last + 2, last + 3, last]

/-- R149: the waiting seat the rotating order comes to first. -/
def Arbiter.next (a : Arbiter) : Option Seat := (seatsAfter a.last).find? fun q => a.waiting.read q

/-- R149: the free walker is handed to the first waiting seat as soon as one waits; WALK_GRANT then begins its walk
(assumption 22). -/
def State.settleArbiter (s : State) : State :=
  if s.pdir.walk.isNone && s.lbi.arbiter.chosen.isNone then
    { s with lbi := { s.lbi with arbiter := { s.lbi.arbiter with chosen := s.lbi.arbiter.next } } }
  else s

/-- R50, R54: the request in service waits for the walker. -/
def State.awaitWalk (s : State) (seat : Seat) (r : Request) (rewalk : Bool) : State :=
  let s1 := s.setService seat (some { request := r, progress := .awaitingWalk rewalk })
  State.settleArbiter
    { s1 with
      lbi := { s1.lbi with arbiter := { s1.lbi.arbiter with waiting := s1.lbi.arbiter.waiting.write seat true } } }

/-! ### The orphan cause (R154, R155) -/

/-- R155, R19: the orphan cause begins (assumption 9). -/
def State.orphanBegins (s : State) : State :=
  let s1 := { s with lbi := { s.lbi with orphan := { s.lbi.orphan with holds := true } } }
  let s2 := s1.causeBegins .orphan fun _ => true
  (s2.removeDemands (fun _ => true) (fun q => q != serviceSeat)).raiseAll .orphan

/-- R154, R155: a well-formed frame from an enabled bus seat restarts the timer, and ends the cause if it holds. -/
def State.orphanHeard (s : State) : State :=
  let s1 := { s with lbi := { s.lbi with orphan := { s.lbi.orphan with count := 0, holds := false } } }
  s1.raiseIf s.lbi.orphan.holds .orphan

/-- R154: the count has reached the limit while the cause does not hold. -/
def Orphan.expired (o : Orphan) : Bool := !o.holds && decide (o.limit * 100 ≤ o.count)

end Sys2Proof.Machine
end

