-- ==== Sys2Proof/Machine/ConfigRead.lean ====
section
/-! DEFINITION. CONFIG_READ: the fields of each configuration item as section 11.5 lays them out (R169). A field that
is absent, and for which the layout names no word, is sent as 0 (R168). -/

namespace Sys2Proof.Machine

/-- R133: the drive status of a channel, by its kind as it stands. -/
def State.driveStatus (s : State) (ch : OutCh) : List Word :=
  match (pairOf ch).bind fun k => (s.odu.pairs.read k).run with
  | some p =>
    [natWord p.state.number, natWord p.target, natWord p.estimate, markWord p.unsynced,
      natWord (lastReleasedNumber p.lastReleased), optWord p.deadLeft]
  | none =>
    match modOf ch, discOf ch with
    | some m, _ =>
      let mod := s.odu.mods.read m
      [natWord mod.held, natWord mod.compare, natWord (s.odu.groups.read (groupOf m)).period]
    | none, some d =>
      let disc := s.odu.discretes.read d
      [markWord disc.on, optWord (disc.held.map markNat), natWord disc.time]
    | none, none => []

/-- R118, R129: the output item of a channel. A modulated channel's polarity is the one last written, also while it waits
for its period end: R118 does not say which of the two a read returns (DESIGN CHOICE, assumption 40). -/
def State.outputItem (s : State) (ch : OutCh) : List Word :=
  match modOf ch, discOf ch with
  | some m, _ => [natWord (s.odu.mods.read m).polarity.number]
  | none, some d => [natWord (s.odu.discretes.read d).minOn, natWord (s.odu.discretes.read d).minOff]
  | none, none => []

/-- R134: the shutoff item, with the latch and the causes of the mask that hold. -/
def State.shutoffItem (s : State) (c : OutCh) : List Word :=
  let r := s.shutoff c
  [natWord r.mask.number, natWord r.line.number, natWord r.pair.number, markWord r.latched,
    natWord (s.heldCauses c r.mask).number]

/-- R76: the scan status. -/
def Smu.status (m : Smu) : List Word :=
  [markWord m.running.isSome, natWord ((m.running.map ScanMode.number).getD 0),
    optWord (m.conversion.map fun c => c.channel.val)]

/-- R81: the two parts of a result detail. -/
def SensorResult.detail (r : SensorResult) (part : Fin 2) : List Word :=
  if part = 0 then natWords r.tRef ++ natWords r.tSens ++ [natWord r.ratio, natWord r.samples]
  else [intWord r.temp, intWord r.filtered, natWord r.validity.number, natWord r.badRun, natWord r.samples]

/-- R94: the circuit outputs item. -/
def Circuit.outputsItem (c : Circuit) : List Word :=
  natWords (listNat c.fans) ++ optWord (c.bypass.map fun b => b.val) :: natWords (listNat c.pumps)

/-- R94: the circuit flow item. -/
def Circuit.flowItem (c : Circuit) : List Word :=
  match c.flow with
  | some (ch, pMax) => natWord ch.val :: natWords pMax
  | none => [absentWord, 0, 0]

/-- R98: the three parts of a circuit's status. -/
def Circuit.status (c : Circuit) (part : Fin 3) : List Word :=
  if part = 0 then
    [natWord c.stage.number, natWord c.sensorCause.number, natWord c.marginStage.number, optIntZero c.guardTemp,
      optIntZero c.margin, optZero c.ceiling]
  else if part = 1 then
    [markWord (!c.proven), markWord c.graceExpired, natWord c.flowStage.number, natWord c.sensorStage.number,
      optZero c.graceLeft]
  else
    natWords (c.dwellLeft.getD 0) ++
      [optZero c.bounds.fanCeiling, optZero c.bounds.bypassFloor, optZero c.bounds.modulatedPump,
        optZero c.bounds.discretePump]

/-- R7: the rank table as its one word. -/
def Cmdt.rankWord (c : Cmdt) : Word :=
  field (c.ranks.read 0).val 12 ||| field (c.ranks.read 1).val 8 ||| field (c.ranks.read 2).val 4 |||
    natWord (c.ranks.read 3).val

/-- R169: the fields of an item, in the order of the table; a shutoff item of an input channel has none. -/
def State.itemFields (s : State) (i : Item) : Option (List Word) :=
  match i with
  | .rankTable => some [s.cmdt.rankWord]
  | .root seat => some [natWord (s.pdir.roots.read seat).base.toNat, markWord (s.pdir.roots.read seat).valid]
  | .window n =>
    let w := s.pcache.windows.read n
    some [markWord w.enable, natWord w.zoneBase.toNat, natWord w.zoneMask.toNat, natWord w.seats.toNat,
      markWord w.guarded]
  | .rosterEntry b =>
    let e := s.lbi.roster.read b
    some [natWord e.station.toNat, markWord e.enabled, markWord e.editor]
  | .orphanLimit => some [natWord s.lbi.orphan.limit]
  | .eventMask seat => some [natWord (s.evu.masks.read seat).toNat, markWord (s.evu.attention.read seat)]
  | .staticLimits c => some [natWord (s.record c).staticMin, natWord (s.record c).staticMax]
  | .fallback c => some [natWord (s.record c).fallbackMode.number, natWord (s.record c).fallbackValue]
  | .defaultHold c => some [natWord (s.record c).defaultHold]
  | .output c => some (s.outputItem c)
  | .pair k =>
    let q := s.odu.pairs.read k
    some [markWord q.isFormed, natWord q.stroke, natWord q.deadband, natWord q.deadTime]
  | .driveStatus c => some (s.driveStatus c)
  | .shutoff ch => (index? 32 ch.val).map s.shutoffItem
  | .sensorSettings n =>
    let g := s.smu.settings.read n
    some [markWord g.enabled, natWord g.reference.val, natWord g.table.val, natWord g.shift.val]
  | .reference n => some [natWord (s.smu.cycles.read n)]
  | .breakpoint t k => some [intWord ((s.smu.tables.read t).read k)]
  | .scanRange => some [natWord s.smu.rangeStart.val, natWord s.smu.rangeEnd.val]
  | .scanMode => some [natWord s.smu.modeItem.number]
  | .scanStatus => some s.smu.status
  | .resultDetail n part => some ((s.smu.results.read n).detail part)
  | .pulseSettings n =>
    let p := s.piu.channels.read n
    some [markWord p.enabled, natWord p.spacing, natWord p.timeout]
  | .circuitSensors n => some (natWords (listNat (s.circuit n).guardSet))
  | .circuitOutputs n => some (s.circuit n).outputsItem
  | .circuitFlow n => some (s.circuit n).flowItem
  | .circuitThresholds n =>
    let c := s.circuit n
    some [intWord c.freezePoint, intWord c.mWatch, intWord c.mAct, intWord c.mTrip, intWord c.hysteresis]
  | .circuitTimes n =>
    let c := s.circuit n
    some [natWord c.pumpMin, natWord c.tripDwell, natWord c.flowGrace]
  | .circuitStatus n part => some ((s.circuit n).status part)
  | .period g => some [natWord (s.odu.groups.read g).period, optZero (s.odu.groups.read g).buffered]

/-- CONFIG_READ (R169): judged on its selector, and answered with the item's fields (assumption 15). -/
def execConfigRead (seat : Seat) (s : State) : Outcome :=
  .next (s.onRequest seat .configRead fun r =>
    match r.item with
    | none => s.answer seat r .badValue []
    | some i =>
      match s.itemFields i with
      | some fields => s.answer seat r .done fields
      | none => s.answer seat r .badTarget [])

end Sys2Proof.Machine
end

