-- ==== Sys2Proof/Machine/Demand.lean ====
section
/-! DEFINITION. SET, RELEASE and READ: resolving the point, the target checks, the views, and the expiry of a demand
(chapters 1 to 3). -/

namespace Sys2Proof.Machine

/-! ### Views (R22, R82, R90, 11.3) -/

/-- The winner word of a SET or RELEASE reply: 65535 for none (11.2). -/
def winnerWord (r : Record) : Word := optWord (r.winner.map (·.val))

/-- A channel's own record, but the even record for the odd member of a formed pair (R22, R45). -/
def State.viewedChannel (s : State) (c : OutCh) : OutCh :=
  if s.odu.oddMember c then ⟨c.val - 1, by omega⟩ else c

/-- R22: the view of an output channel to the reading seat. -/
def State.outputView (s : State) (seat : Seat) (ch : OutCh) : List Word :=
  let c := s.viewedChannel ch
  let r := s.record c
  let w1 := natWord r.effective ||| field ((r.winner.map (·.val)).getD 7) 12 ||| field (markNat (s.shutOff c)) 15
  let (w2, w3) := match r.slot seat with
    | some d => (field 1 15 ||| natWord d.value, match d.hold with
      | .counted n => natWord n
      | .untilReleased => absentWord)
    | none => (0, 0)
  let w4 := match r.bound with
    | .none => 0
    | .ceiling v => field 1 14 ||| natWord v
    | .floor v => field 2 14 ||| natWord v
  let w5 := match (s.odu.evenPair c).bind fun k => (s.odu.pairs.read k).run with
    | some p => field 1 15 ||| field (markNat p.unsynced) 14 ||| natWord p.estimate
    | none => 0
  [w1, w2, w3, w4, w5]

/-- R82: the view of a sensor channel. -/
def State.sensorView (s : State) (n : SensorCh) : List Word :=
  let r := s.smu.results.read n
  [intWord r.filtered, field r.samples 8 ||| natWord r.validity.number]

/-- R90: the flow proof a pulse channel's view shows: of the circuit that names it, or NOT_NAMED (0). -/
def State.namedProof (s : State) (n : PulseCh) : Nat :=
  match (List.finRange 4).find? fun c => ((s.circuit c).flow.map (·.1)) == some n with
  | some c => if s.piu.proven.read c then 1 else 2
  | none => 0

/-- R90: the view of a pulse channel. -/
def State.pulseView (s : State) (n : PulseCh) : List Word :=
  let p := s.piu.channels.read n
  let period := p.period.getD 0
  [field (markNat p.enabled) 15 ||| field (markNat p.period.isNone) 14 ||| field (markNat p.age.isNone) 13 |||
      field (s.namedProof n) 11 ||| natWord (period / 65536),
    natWord period, natWord (p.frequency / 65536), natWord p.frequency, natWord (p.age.getD 0)]

/-- R45: the view of any channel. -/
def State.view (s : State) (seat : Seat) (ch : Fin 64) : List Word :=
  match index? 32 ch.val with
  | some c => s.outputView seat c
  | none =>
    match index? 24 (ch.val - 32) with
    | some n => s.sensorView n
    | none =>
      match index? 8 (ch.val - 56) with
      | some n => s.pulseView n
      | none => []

/-! ### After a translation (R45, R3, R6, R22) -/

/-- The output channel a SET or RELEASE may be taken to: not an input channel, nor the odd member of a formed pair. -/
def State.target? (s : State) (ch : Fin 64) : Option OutCh :=
  match index? 32 ch.val with
  | some c => if s.odu.oddMember c then none else some c
  | none => none

/-- The payload of a placed SET and of a RELEASE: translation, effective command and winner as they stand (11.2). -/
def State.commandPayload (s : State) (t : Translation) (c : OutCh) : List Word :=
  [t.word, natWord (s.record c).effective, winnerWord (s.record c)]

/-- R3, R18, R45, R148: a translated SET. Its payload stands before its own outcome moves the count (assumption 18). -/
def State.finishSet (s : State) (seat : Seat) (r : Request) (t : Translation) : State :=
  match s.target? t.channel with
  | none => s.answer seat r .badTarget [t.word]
  | some c =>
    if s.standing seat = .barred then s.answer seat r .barred []
    else
      let v := (r.word 1).toNat
      let h := (r.word 2).toNat
      let d : Slot := { value := clampValue v, hold := placedHold (s.record c) (clampHold seat h) }
      let s1 := s.placeDemand c seat d
      s1.answer seat r (setResult seat v h) (s1.commandPayload t c)

/-- R6, R45: a translated RELEASE. Its payload stands after the re-arbitration that the removal brings, and before the
one that its own DONE may bring by moving the seat's standing (assumption 18). -/
def State.finishRelease (s : State) (seat : Seat) (r : Request) (t : Translation) : State :=
  match s.target? t.channel with
  | none => s.answer seat r .badTarget [t.word]
  | some c =>
    let s1 := s.removeDemands (fun c' => c' == c) (fun q => q == seat)
    s1.answer seat r .done (s1.commandPayload t c)

/-- R22, R45: a translated READ. Its view stands before its own DONE moves the count (assumption 18). -/
def State.finishRead (s : State) (seat : Seat) (r : Request) (t : Translation) : State :=
  s.answer seat r .done (t.word :: s.view seat t.channel)

/-- A translated request. -/
def State.finishAccess (s : State) (a : Access) (seat : Seat) (r : Request) (t : Translation) : State :=
  match a with
  | .set => s.finishSet seat r t
  | .release => s.finishRelease seat r t
  | .read => s.finishRead seat r t

/-! ### Resolving a point (R50) -/

/-- R48 to R54: windows, directory state, cache, and then the walker. -/
def State.resolve (s : State) (a : Access) (seat : Seat) (r : Request) : State :=
  let p := wordPoint (r.word 0)
  match s.pcache.window? seat p with
  | some w =>
    let t : Translation := { source := .window w, channel := windowChannel p, link := false }
    if a = .set ∧ (s.pcache.windows.read w).guarded = true then s.answer seat r .guarded [t.word]
    else s.finishAccess a seat r t
  | none =>
    if s.pdir.isOpen then
      match s.pcache.lookup seat p with
      | some e =>
        let s1 := { s with pcache := s.pcache.hit p }
        let t : Translation := { source := .cache, channel := e.channel, link := e.link }
        if a = .set ∧ e.guarded = true then s1.answer seat r .guarded [t.word]
        else if a = .set ∧ e.driven = false then s1.awaitWalk seat r true
        else s1.finishAccess a seat r t
      | none => s.awaitWalk seat r false
    else s.answer seat r .noWindow []

/-! ### Meanings -/

/-- SET (R3, R148): the request in service of kind SET is resolved, and placed unless it must wait for a walk. -/
def execSet (seat : Seat) (s : State) : Outcome := .next (s.onRequest seat .set fun r => s.resolve .set seat r)

/-- RELEASE (R6). -/
def execRelease (seat : Seat) (s : State) : Outcome :=
  .next (s.onRequest seat .release fun r => s.resolve .release seat r)

/-- READ (R22). -/
def execRead (seat : Seat) (s : State) : Outcome := .next (s.onRequest seat .read fun r => s.resolve .read seat r)

/-- DEMAND_HOLD_EXPIRY (R4, R5): a slot whose hold has run out, or stands at its last step, is removed and the record
re-arbitrates. A slot whose hold was restarted, or that is gone, does not expire. -/
def execDemandHoldExpiry (ch : OutCh) (seat : Seat) (s : State) : Outcome :=
  .next
    (if ((s.record ch).slot seat).any Slot.expiring then s.removeDemands (fun c => c == ch) (fun q => q == seat)
    else s)

end Sys2Proof.Machine
end

