-- ==== Sys2Proof/Machine/Events.lean ====
section
/-! DEFINITION. EVENTS and CLEAR (R163, R164). -/

namespace Sys2Proof.Machine

/-- The stage snapshot: circuit n in bits 3n+2 to 3n (11.2). -/
def State.stagesWord (s : State) : Word :=
  field (s.circuit 0).stage.number 0 ||| field (s.circuit 1).stage.number 3 |||
    field (s.circuit 2).stage.number 6 ||| field (s.circuit 3).stage.number 9

/-- The sensor channels whose validity is not VALID, as a set. -/
def State.sensorsNotValid (s : State) : Nat :=
  listNat ((List.finRange 24).filter fun n => (s.smu.results.read n).validity != .valid)

/-- The shut-off channels, as a set. -/
def State.shutOffChannels (s : State) : Nat := listNat ((List.finRange 32).filter fun c => s.shutOff c)

/-- R163: the payload of EVENTS. -/
def State.eventsPayload (s : State) (seat : Seat) : List Word :=
  natWord (s.evu.flagNat seat) :: s.stagesWord :: (natWords s.sensorsNotValid ++ natWords s.shutOffChannels)

/-- EVENTS (R163): the flags and snapshots are returned, and the returned flags marked reported. -/
def execEvents (seat : Seat) (s : State) : Outcome :=
  .next (s.onRequest seat .events fun r =>
    State.answer { s with evu := s.evu.report seat } seat r .done (s.eventsPayload seat))

/-- CLEAR (R164): the named flags; bits 15–12 are spare (11.2). -/
def execClear (seat : Seat) (s : State) : Outcome :=
  .next (s.onRequest seat .clear fun r =>
    State.answer { s with evu := s.evu.clear seat ((r.word 0).extractLsb' 0 12) } seat r .done [])

end Sys2Proof.Machine
end

