-- ==== Sys2Proof/Machine/Freeze.lean ====
section
/-! DEFINITION. The freeze guard's timers and requests (R104, R106, R111 to R113). -/

namespace Sys2Proof.Machine

/-- FLOW_GRACE_EXPIRY (R104): the grace expired mark is set and the circuit evaluated. -/
def execFlowGraceExpiry (n : CircuitNo) (s : State) : Outcome :=
  .next
    (let c := s.circuit n
    if c.enabled && lastStep c.graceLeft then
      State.evaluate { s with circuits := s.circuits.write n { c with graceLeft := none, graceExpired := true } } n
    else s)

/-- TRIP_DWELL_EXPIRY (R106): the circuit enters LOCKOUT, which raises LOCKOUT and STAGE_n, and is then evaluated. -/
def execTripDwellExpiry (n : CircuitNo) (s : State) : Outcome :=
  .next
    (let c := s.circuit n
    if c.stage == .level .trip && lastStep c.dwellLeft then
      ((s.changeCircuit n (c.withStage .lockout)).raiseAll .lockout).evaluate n
    else s)

/-- R111, R168: a CIRCUIT of form `form` (0 ENABLE, 1 DISABLE), judged on editor right and circuit number. A form
without a meaning is refused BAD_VALUE by either step of the kind (assumption 11). -/
def State.onCircuit (s : State) (seat : Seat) (form : Nat) (f : Request → CircuitNo → State) : State :=
  s.onRequest seat .circuit fun r =>
    let named := (r.word 1).toNat
    if named = form ∨ 1 < named then
      if s.editor seat = false then s.answer seat r .notEditor []
      else
        match index? 4 (r.word 0).toNat with
        | none => s.answer seat r .badValue []
        | some n => if named = form then f r n else s.answer seat r .badValue []
    else s

/-- CIRCUIT_ENABLE (R111). -/
def execCircuitEnable (seat : Seat) (s : State) : Outcome :=
  .next (s.onCircuit seat 0 fun r n =>
    let c := s.circuit n
    if c.enabled then s.answer seat r .done []
    else if c.guardSet.isEmpty then s.answer seat r .badValue []
    else (s.changeCircuit n (c.prepareEnable.evaluate s.smu.results false)).answer seat r .done [])

/-- CIRCUIT_DISABLE (R112). -/
def execCircuitDisable (seat : Seat) (s : State) : Outcome :=
  .next (s.onCircuit seat 1 fun r n =>
    let c := s.circuit n
    if c.enabled then
      if c.stage.frostTrip then s.answer seat r .stageHolds []
      else (s.changeCircuit n c.disable).answer seat r .done []
    else s.answer seat r .done [])

/-- RELEASE_LOCKOUT (R113). -/
def execReleaseLockout (seat : Seat) (s : State) : Outcome :=
  .next (s.onRequest seat .releaseLockout fun r =>
    if seat ≠ serviceSeat then s.answer seat r .notEditor []
    else
      match index? 4 (r.word 0).toNat with
      | none => s.answer seat r .badValue []
      | some n =>
        let c := s.circuit n
        if c.stage = .lockout then
          if c.releasable then (s.changeCircuit n (c.evaluate s.smu.results true)).answer seat r .done []
          else s.answer seat r .stageHolds []
        else s.answer seat r .done [])

end Sys2Proof.Machine
end

