-- ==== Sys2Proof/Machine/Link.lean ====
section
/-! DEFINITION. The two links: frames received, intake lines, handlers, HELLO, REINSTATE, the orphan timer and the
transmitters (R144 to R156). -/

namespace Sys2Proof.Machine

/-! ### Frames received (R144, R146) -/

/-- An entry is a request. -/
def IntakeEntry.isRequest : IntakeEntry → Bool
  | .request _ => true
  | .refusal _ _ => false

/-- An entry is appended to a seat's line. -/
def State.append (s : State) (seat : Seat) (e : IntakeEntry) : State :=
  { s with lbi := { s.lbi with lines := s.lbi.lines.update seat fun l => l ++ [e] } }

/-- R146: a refusal decided at arrival. It is not appended when sixteen refusals wait; its change to the fault count is
applied either way (assumption 10). -/
def State.refuseAtArrival (s : State) (seat : Seat) (r : Request) (c : Code) : State :=
  let waiting := ((s.lbi.lines.read seat).filter fun e => !e.isRequest).length
  State.applyOutcome (if waiting < 16 then s.append seat (.refusal r.header c) else s) seat c

/-- R146: a frame of a seat is entered into its line. -/
def State.enter (s : State) (seat : Seat) (r : Request) : State :=
  let barred := s.standing seat == .barred
  if r.malformed then s.refuseAtArrival seat r (if barred then .barred else .badForm)
  else if barred && r.kind != some .events && r.kind != some .hello then s.refuseAtArrival seat r .barred
  else if ((s.lbi.lines.read seat).filter IntakeEntry.isRequest).length < 4 then s.append seat (.request r)
  else s.refuseAtArrival seat r .busy

/-- R144: the bus seat whose enabled entry holds a station. -/
def Lbi.seatOfStation (l : Lbi) (station : BitVec 4) : Option BusSeat :=
  (List.finRange 3).find? fun b => (l.roster.read b).enabled && (l.roster.read b).station == station

/-- BUS_FRAME_RECEIVE (R144, R146, R154): CRC, destination, source, seat, form. A well-formed frame restarts the orphan
timer, or ends the orphan cause, before its entry is appended. -/
def execBusFrameReceive (frame : Frame) (s : State) : Outcome :=
  .next
    (match receivedFrame frame with
    | none => s
    | some r =>
      if headerDest r.header ≠ s.lbi.station then s
      else
        match s.lbi.seatOfStation (headerSource r.header) with
        | none => s
        | some b => State.enter (if r.malformed then s else s.orphanHeard) (seatOf b) r)

/-- SERVICE_FRAME_RECEIVE (R144, R146): every frame on the service port belongs to seat 3. -/
def execServiceFrameReceive (frame : Frame) (s : State) : Outcome :=
  .next
    (match receivedFrame frame with
    | none => s
    | some r => s.enter serviceSeat r)

/-- FRAME_RECEPTION_CUT_SHORT (R144): the frame fails its CRC and is discarded; no seat is charged. -/
def execFrameReceptionCutShort (_words : List Word) (s : State) : Outcome := .next s

/-! ### Handlers (R147) -/

/-- HANDLER_TAKE_HEAD (R147): a request goes into service; a refusal's reply is handed to the transmitter at once. -/
def execHandlerTakeHead (seat : Seat) (s : State) : Outcome :=
  .next
    (match s.lbi.service.read seat, s.lbi.lines.read seat with
    | none, e :: rest =>
      let s1 := { s with lbi := { s.lbi with lines := s.lbi.lines.write seat rest } }
      match e with
      | .request r => s1.setService seat (some { request := r, progress := .taken })
      | .refusal h c => s1.handReply seat h c [] false
    | none, [] | some _, _ => s)

/-- R156: the payload of HELLO. -/
def State.helloPayload (s : State) (seat : Seat) : List Word :=
  [natWord s.lbi.station.toNat ||| field seat.val 4 ||| field (s.standing seat).number 6 |||
    field (markNat s.pdir.isOpen) 8]

/-- HELLO (R156) (assumption 18). -/
def execHello (seat : Seat) (s : State) : Outcome :=
  .next (s.onRequest seat .hello fun r => s.answer seat r .done (s.helloPayload seat))

/-- R153: the service seat, or a bus seat with editor right and standing GOOD (assumption 32). -/
def State.mayReinstate (s : State) (seat : Seat) : Bool := s.editor seat && s.standing seat == .good

/-- REINSTATE (R153). -/
def execReinstate (seat : Seat) (s : State) : Outcome :=
  .next (s.onRequest seat .reinstate fun r =>
    if s.mayReinstate seat = false then s.answer seat r .notEditor []
    else
      match index? 3 (r.word 0).toNat with
      | none => s.answer seat r .badValue []
      | some b =>
        State.answer (if s.standing (seatOf b) = .barred then s.setCount b 0 else s) seat r .done [])

/-! ### Orphan timer (R154, R155) -/

/-- ORPHAN_TIMER_EXPIRY (R154, R155). -/
def execOrphanTimerExpiry (s : State) : Outcome := .next (if s.lbi.orphan.expired then s.orphanBegins else s)

/-! ### Transmitters (R150, R166) -/

/-- R150, R166: an idle transmitter takes its oldest reply and puts it on the wire, followed by its CRC. -/
def Transmitter.begin (t : Transmitter) : Transmitter :=
  match t.sending, t.replies with
  | none, r :: _ => { t with sending := some (r.words ++ [crc16 r.words]) }
  | none, [] | some _, _ => t

/-- R150: the reply being sent, sent whole or abandoned, leaves the list. -/
def Transmitter.finish (t : Transmitter) : Transmitter :=
  match t.sending with
  | some _ => { replies := t.replies.tail, sending := none }
  | none => t

/-- The reply being sent answers an accepted RESTART (R157). -/
def Transmitter.sendsRestart (t : Transmitter) : Bool :=
  t.sending.isSome && t.replies.head?.any fun r => r.restart

/-- REPLY_TRANSMIT (R150): the bus has been idle for 12 bit times (assumption 34). -/
def execReplyTransmit (s : State) : Outcome := .next { s with lbi := { s.lbi with bus := s.lbi.bus.begin } }

/-- REPLY_READBACK_ABANDON (R150). -/
def execReplyReadbackAbandon (s : State) : Outcome := .next { s with lbi := { s.lbi with bus := s.lbi.bus.finish } }

/-- SERVICE_REPLY_TRANSMIT (R150). -/
def execServiceReplyTransmit (s : State) : Outcome := .next { s with lbi := { s.lbi with port := s.lbi.port.begin } }

/-- REPLY_SENT_WHOLE (R150, R157): the reply leaves its list; when it answers a RESTART, the restart is then due. -/
def execReplySentWhole (link : Link) (s : State) : Outcome :=
  .next
    (match link with
    | .bus => { s with lbi := { s.lbi with bus := s.lbi.bus.finish } }
    | .service =>
      { s with
        lbi :=
          { s.lbi with
            port := s.lbi.port.finish
            restartDue := s.lbi.restartDue || s.lbi.port.sendsRestart } })

end Sys2Proof.Machine
end

