-- ==== Sys2Proof/Machine/Output.lean ====
section
/-! DEFINITION. The events of the output drive unit (R116, R117, R122 to R130, R139). -/

namespace Sys2Proof.Machine

/-- R116, R117: a group's period end: the buffered period is loaded, and each driving channel of the group that is no
member of a formed pair takes its compare. -/
def State.endPeriod (s : State) (g : GroupNo) : State :=
  let gr := (s.odu.groups.read g).atPeriodEnd
  { s with
    odu :=
      { s.odu with
        groups := s.odu.groups.write g gr
        mods := Bank.fill fun m =>
          let mod := s.odu.mods.read m
          if groupOf m = g ∧ s.shutOff (modCh m) = false ∧ s.odu.member (modCh m) = false then mod.atPeriodEnd gr.period
          else mod } }

/-- PERIOD_END (R116, R117). -/
def execPeriodEnd (g : GroupNo) (s : State) : Outcome := .next (s.endPeriod g)

/-- An event of a formed pair: `f` takes it where `p` says it can come. -/
def State.onPair (s : State) (k : PairNo) (p : PairRun → Bool) (f : Pair → PairRun → PairRun) : State :=
  let q := s.odu.pairs.read k
  if q.run.any p then { s with odu := { s.odu with pairs := s.odu.pairs.write k (q.change (f q)) } } else s

/-- PAIR_PERMILLE_STEP (R123). -/
def execPairPermilleStep (k : PairNo) (s : State) : Outcome :=
  .next (s.onPair k PairRun.permilleDue PairRun.permilleStep)

/-- R125: an overdrive stands at its last tick or has run out. -/
def PairRun.overdriveDone (p : PairRun) : Bool :=
  match p.state with
  | .overdrive _ => p.timeUp
  | .idle | .waiting | .moving _ | .syncing | .safeWaiting _ | .safeDriving _ | .safeEnd _ | .safeRest => false

/-- OVERDRIVE_END (R125). -/
def execOverdriveEnd (k : PairNo) (s : State) : Outcome :=
  .next (s.onPair k PairRun.overdriveDone PairRun.endOverdrive)

/-- R128: a sync stands at its last tick or has run out. -/
def PairRun.syncDone (p : PairRun) : Bool := p.state == .syncing && p.timeUp

/-- SYNC_END (R128). -/
def execSyncEnd (k : PairNo) (s : State) : Outcome := .next (s.onPair k PairRun.syncDone PairRun.endSync)

/-- DEAD_TIME_EXPIRY (R122, R124, R139). -/
def execDeadTimeExpiry (k : PairNo) (s : State) : Outcome := .next (s.onPair k PairRun.deadUp PairRun.endDeadTime)

/-- R139: SAFE_END stands at its last tick or has run out. -/
def PairRun.safeEndDone (p : PairRun) : Bool :=
  match p.state with
  | .safeEnd _ => p.timeUp
  | .idle | .waiting | .moving _ | .overdrive _ | .syncing | .safeWaiting _ | .safeDriving _ | .safeRest => false

/-- SAFE_END_EXPIRY (R139). -/
def execSafeEndExpiry (k : PairNo) (s : State) : Outcome := .next (s.onPair k PairRun.safeEndDone PairRun.endSafe)

/-- R139: an UNSYNCED safe drive stands at its last tick or has run out. -/
def PairRun.unsyncedDriveDone (p : PairRun) : Bool :=
  match p.state with
  | .safeDriving _ => p.timeUp
  | .idle | .waiting | .moving _ | .overdrive _ | .syncing | .safeWaiting _ | .safeEnd _ | .safeRest => false

/-- UNSYNCED_SAFE_DRIVE_END (R139). -/
def execUnsyncedSafeDriveEnd (k : PairNo) (s : State) : Outcome :=
  .next (s.onPair k PairRun.unsyncedDriveDone PairRun.endSafe)

/-- R130, R138: a held change can be applied: the minimum is met and the channel is not shut off. -/
def State.minimumDue (s : State) (d : DiscCh) : Bool :=
  (s.odu.discretes.read d).reached && !s.shutOff (discCh d)

/-- DISCRETE_MINIMUM_REACHED (R130). -/
def execDiscreteMinimumReached (d : DiscCh) (s : State) : Outcome :=
  .next
    (if s.minimumDue d then
      { s with odu := { s.odu with discretes := s.odu.discretes.update d Discrete.applyHeld } }
    else s)

end Sys2Proof.Machine
end

