-- ==== Sys2Proof/Machine/Pulse.lean ====
section
/-! DEFINITION. Edges and timeouts of the pulse inputs (R86 to R89). -/

namespace Sys2Proof.Machine

/-- A pulse channel replaced. -/
def State.setChannel (s : State) (ch : PulseCh) (p : PulseChannel) : State :=
  { s with piu := { s.piu with channels := s.piu.channels.write ch p } }

/-- PULSE_RISING_EDGE (R86, R87): a disabled channel ignores its input; the glitch filter ignores an edge that comes
too soon; an accepted edge closes the period, and the proof is judged of the circuit that the channel decides
(assumption 7). -/
def execPulseRisingEdge (ch : PulseCh) (us : Nat) (s : State) : Outcome :=
  .next
    (let p := s.piu.channels.read ch
    if p.enabled then
      let p1 := p.advance us
      if p1.accepts then (s.setChannel ch p1.edge).judgeProofOf ch else s.setChannel ch p1
    else s)

/-- PULSE_TIMEOUT_EXPIRY (R88). -/
def execPulseTimeoutExpiry (ch : PulseCh) (s : State) : Outcome :=
  .next
    (let p := s.piu.channels.read ch
    if p.timedOut then (s.setChannel ch p.expire).judgeProofOf ch else s)

end Sys2Proof.Machine
end

