-- ==== Sys2Proof/Machine/Restart.lean ====
section
/-! DEFINITION. RESTART and the power-on reset (R20, R21, R46, R63, R84, R93, R115, R132, R143, R157, R165). -/

namespace Sys2Proof.Machine

/-- R46: a mark write begun is completed, the walk abandoned, the directory CLOSED and the port's pointers returned to
their power-on values. -/
def Pdir.restart (p : Pdir) : Pdir where
  memory :=
    match p.walk with
    | some w =>
      match w.step with
      | .mark addr word _ => memWrite p.memory addr.toNat word
      | .zone | .group _ | .point _ | .link _ => p.memory
    | none => p.memory
  roots := p.roots
  isOpen := false
  walk := none
  lastSide := .seats
  lastSeat := 3

/-- R157: lines, requests in service and both transmitters are emptied, and the arbiter returns to its power-on
state; the roster, the fault counts and the orphan timer and cause are kept. -/
def Lbi.restart (l : Lbi) : Lbi :=
  { l with
    lines := Bank.fill fun _ => []
    service := Bank.fill fun _ => none
    bus := Transmitter.idle
    port := Transmitter.idle
    arbiter := Arbiter.powerOn
    restartDue := false }

/-- R20: every slot removed, no winner, the arbitrated value from the fallback. The effective command waits for the
bounds that the freeze guard hands. -/
def Record.clearDemands (r : Record) : Record :=
  { r.remove (fun _ => true) with winner := none, arbitrated := r.fallback }

/-- What each block does at a RESTART before the freeze guard re-evaluates: R165, R46, R157, R20, R84, R115. -/
def State.restartBlocks (s : State) : State :=
  { s with
    evu := s.evu.restarted
    pdir := s.pdir.restart
    lbi := s.lbi.restart
    cmdt :=
      { s.cmdt with
        records := Bank.fill fun c => if s.odu.oddMember c then s.record c else (s.record c).clearDemands }
    smu := s.smu.restart
    circuits := Bank.fill fun n => (s.circuit n).restartTimers }

/-- R115: each enabled circuit is evaluated. -/
def State.evaluateAll (s : State) : State := (List.finRange 4).foldl State.evaluate s

/-- R20: every record recomputes its effective command and hands it on if it changed. -/
def State.settleAll (s : State) : State := s.withRecords fun _ r => r.settle

/-- R143: each driving channel whose mask names a holding cause is shut off. -/
def State.shutOffHeld (s : State) : State := s.shutOffWhere fun c => (s.heldCauses c (s.shutoff c).mask).any

/-- R157: the warm restart of the whole part (assumption 25). -/
def State.warmRestart (s : State) : State := s.restartBlocks.evaluateAll.settleAll.shutOffHeld

/-- RESTART (R157): the service seat's request is answered DONE, and its reply carries the restart with it. -/
def execRestart (seat : Seat) (s : State) : Outcome :=
  .next (s.onRequest seat .restart fun r =>
    if seat ≠ serviceSeat then s.answer seat r .notEditor []
    else (s.handReply seat r.header .done [] true).setService seat none)

/-- RESTART_TAKE (R157): the last word of the RESTART reply has been sent, or is the one being sent (assumption 6). -/
def execRestartTake (s : State) : Outcome :=
  .next (if s.lbi.restartDue || s.lbi.port.sendsRestart then s.warmRestart else s)

/-- RESTART_IN (R157): a change of the pin to asserted takes a warm restart without a reply. -/
def execRestartIn (s : State) : Outcome := .next s.warmRestart

/-- POWER_ON_RESET (R21 and the reset rule of each block): every block at its power-on state, the straps sampled. The
queue of commands and the EMERGENCY_IN pin belong to the outside (assumption 27). -/
def execPowerOnReset (straps : Straps) (s : State) : Outcome :=
  .next (State.powerOn straps s.shu.emergencyIn s.pending s.moment)

end Sys2Proof.Machine
end

