-- ==== Sys2Proof/Machine/Scan.lean ====
section
/-! DEFINITION. The scan and the conversions of the sensor measurement unit (R66 to R80). -/

namespace Sys2Proof.Machine

/-- R76, R168: a SCAN of form `form` (0 START, 1 SINGLE, 2 STOP), judged on editor right. A form without a meaning is
refused BAD_VALUE by any of the three steps of the kind (assumption 11). -/
def State.onScan (s : State) (seat : Seat) (form : Nat) (f : Request → State) : State :=
  s.onRequest seat .scan fun r =>
    let named := (r.word 0).toNat
    if named = form ∨ 2 < named then
      if s.editor seat = false then s.answer seat r .notEditor []
      else if named = form then f r
      else s.answer seat r .badValue []
    else s

/-- R76, R78: a stopped scan becomes RUNNING in a mode; a running one is left as it is. -/
def State.startScan (s : State) (seat : Seat) (mode : ScanMode) (r : Request) : State :=
  if s.smu.running.isSome then s.answer seat r .inUse []
  else State.answer { s with smu := s.smu.startPass mode } seat r .done []

/-- SCAN_START (R76). -/
def execScanStart (seat : Seat) (s : State) : Outcome :=
  .next (s.onScan seat 0 fun r => s.startScan seat s.smu.modeItem r)

/-- SCAN_SINGLE (R76). -/
def execScanSingle (seat : Seat) (s : State) : Outcome := .next (s.onScan seat 1 fun r => s.startScan seat .single r)

/-- SCAN_STOP (R80). -/
def execScanStop (seat : Seat) (s : State) : Outcome :=
  .next (s.onScan seat 2 fun r => State.answer { s with smu := s.smu.stop } seat r .done [])

/-- R78: the choice after a completed conversion, in the mode the scan runs in. -/
def Smu.next (m : Smu) (c : SensorCh) : Smu :=
  match m.running with
  | some mode => m.chooseAfter mode c
  | none => m.stop

/-- R99: the circuits whose guard set holds a channel are evaluated. -/
def State.evaluateGuarding (s : State) (c : SensorCh) : State :=
  (List.finRange 4).foldl (fun s n => if (s.circuit n).guardSet.contains c then s.evaluate n else s) s

/-- R75: a conversion completes. The result entry is updated as a whole, a change of validity raises SENSOR, the scan
chooses, and the freeze guard evaluates the circuits that the channel guards. -/
def State.completeConversion (s : State) (v : Conversion) (o : ConversionOutcome) : State :=
  let was := s.smu.results.read v.channel
  let now := was.complete (s.smu.tables.read v.table) v.shift o
  let s1 := { s with smu := { s.smu with results := s.smu.results.write v.channel now } }
  let s2 := s1.raiseIf (was.validity != now.validity) .sensor
  State.evaluateGuarding { s2 with smu := s2.smu.next v.channel } v.channel

/-- REFERENCE_PHASE_END (R67): a reference fault completes the conversion; otherwise the sensor phase begins
(assumption 7). -/
def execReferencePhaseEnd (count : BitVec 24) (s : State) : Outcome :=
  .next
    (match s.smu.conversion with
    | some v =>
      match v.phase with
      | .reference =>
        if referenceFault count.toNat then s.completeConversion v (.refFault count.toNat)
        else { s with smu := { s.smu with conversion := some { v with phase := .sensor count.toNat } } }
      | .sensor _ => s
    | none => s)

/-- SENSOR_PHASE_END (R68, R69). -/
def execSensorPhaseEnd (count : BitVec 24) (s : State) : Outcome :=
  .next
    (match s.smu.conversion with
    | some v =>
      match v.phase with
      | .sensor tRef => s.completeConversion v (judgeConversion tRef count.toNat)
      | .reference => s
    | none => s)

end Sys2Proof.Machine
end

