-- ==== Sys2Proof/Machine/Shutoff.lean ====
section
/-! DEFINITION. The emergency input and REARM (R135, R136, R141, R142). -/

namespace Sys2Proof.Machine

/-- EMERGENCY_IN_ASSERT (R135, R136): the cause begins for every channel whose mask names it (assumption 31). -/
def execEmergencyInAssert (s : State) : Outcome :=
  .next
    (if s.shu.emergencyIn then s
    else State.causeBegins { s with shu := { s.shu with emergencyIn := true } } .emergency fun _ => true)

/-- EMERGENCY_IN_DEASSERT (R135): the cause ends; no latch changes. -/
def execEmergencyInDeassert (s : State) : Outcome := .next { s with shu := { s.shu with emergencyIn := false } }

/-- R142: the channel is returned to drive. A modulated pin keeps its safe level until the next period end. -/
def State.rearmChannel (s : State) (c : OutCh) : State :=
  { s with
    shu := { s.shu with records := s.shu.records.update c fun sh => { sh with latched := false } }
    odu :=
      { s.odu with
        pairs := Bank.fill fun k =>
          let q := s.odu.pairs.read k
          if evenCh k = c then q.change (PairRun.rearm q) else q
        discretes := Bank.fill fun d =>
          let disc := s.odu.discretes.read d
          if discCh d = c then disc.applyHeld else disc } }

/-- REARM (R141): the rows of its table, in order. -/
def execRearm (seat : Seat) (s : State) : Outcome :=
  .next (s.onRequest seat .rearm fun r =>
    if s.editor seat = false then s.answer seat r .notEditor []
    else if 63 < (r.word 0).toNat then s.answer seat r .badValue []
    else
      match index? 32 (r.word 0).toNat with
      | none => s.answer seat r .badTarget []
      | some c =>
        if s.odu.oddMember c then s.answer seat r .badTarget []
        else if s.shutOff c = false then s.answer seat r .done []
        else if (s.heldCauses c (s.shutoff c).mask).any then s.answer seat r .causeActive []
        else (s.rearmChannel c).answer seat r .done [])

end Sys2Proof.Machine
end

