-- ==== Sys2Proof/Machine/Walk.lean ====
section
/-! DEFINITION. The Directory Walker, the memory port, FLUSH, DIR_READ, DIR_WRITE and the directory state (chapters 2
and 3). -/

namespace Sys2Proof.Machine

/-! ### No-load marks (R60) -/

/-- R60: the walk in flight is marked no-load where `p` holds of it. -/
def State.markNoLoad (s : State) (p : Walk → Bool) : State :=
  { s with
    pdir := { s.pdir with walk := s.pdir.walk.map fun w => { w with noLoad := w.noLoad || p w } } }

/-! ### The memory port (R25, R26) -/

/-- R26: the access a seat has waiting that the lock does not hold back. -/
def State.portAccess (s : State) (seat : Seat) : Option (InService × DirAddr × Option DirWord) :=
  match s.lbi.service.read seat with
  | some i =>
    match i.progress with
    | .awaitingPort addr data =>
      if (s.pdir.walk.bind Walk.lockedWord) = some addr then none else some (i, addr, data)
    | .taken | .awaitingWalk _ | .walking => none
  | none => none

/-- R25: a seat has an access the port could take. -/
def State.seatsWait (s : State) : Bool := (List.finRange 4).any fun q => (s.portAccess q).isSome

/-- R25: the walker has an access waiting. -/
def State.walkerWaits (s : State) : Bool := s.pdir.walk.any Walk.wantsPort

/-- R25: the port goes to the walker: no seat waits, or the seats were granted last. -/
def State.portToWalker (s : State) : Bool := !s.seatsWait || s.pdir.lastSide == .seats

/-- R25: the port goes to a seat: the walker does not wait, or it was granted last. -/
def State.portToSeats (s : State) : Bool := !s.walkerWaits || s.pdir.lastSide == .walker

/-- R25: the seat the rotating order comes to first after the one served last. -/
def State.portSeat (s : State) : Option Seat :=
  (seatsAfter s.pdir.lastSeat).find? fun q => (s.portAccess q).isSome

/-- The port has granted the walker. -/
def State.grantWalker (s : State) : State := { s with pdir := { s.pdir with lastSide := .walker } }

/-! ### The end of a walk (R36, R54, R55) -/

/-- The result code of a walk that found no translation. -/
def WalkOutcome.code : WalkOutcome → Code
  | .found _ => .done
  | .guarded => .guarded
  | .maintOnly => .maintOnly
  | .absent => .absent
  | .dirFault => .dirFault

/-- R54, R55, R61: what the cache takes from a walk's end. -/
def Pcache.takeWalk (c : Pcache) (w : Walk) (o : WalkOutcome) : Pcache :=
  match o with
  | .found f =>
    if w.noLoad then (if w.rewalk then c.invalidate w.seat w.point else c)
    else c.load (entryOf w.seat w.point f)
  | .guarded | .maintOnly | .absent | .dirFault => if w.rewalk then c.invalidate w.seat w.point else c

/-- R36: the seat's handler takes a walk's outcome: it goes on with the translation, or answers the outcome (assumption
12). -/
def State.deliver (s : State) (w : Walk) (o : WalkOutcome) : State :=
  match s.lbi.service.read w.seat with
  | none => s
  | some i =>
    match o with
    | .found f =>
      s.finishAccess w.access w.seat i.request { source := .walk, channel := f.channel, link := f.link }
    | .guarded | .maintOnly | .absent | .dirFault => s.answer w.seat i.request o.code []

/-- R36: the walk ends. The walker is free, the cache takes the result, a directory fault raises DIRFAULT, the handler
takes the outcome, and the arbiter turns to the next waiting seat. DESIGN CHOICE: DIRFAULT is raised before the reply of
the same walk is handed, so that reply's own marker shows it. R162 lets a raise that meets the handing of a reply fall
on either side of it, and R170 fixes the side for SET and RELEASE only (assumption 39). -/
def State.endWalk (s : State) (w : Walk) (o : WalkOutcome) : State :=
  let s1 := { s with pdir := { s.pdir with walk := none }, pcache := s.pcache.takeWalk w o }
  let s2 := s1.raiseIf (o == .dirFault) .dirFault
  (s2.deliver w o).settleArbiter

/-! ### Reading a descriptor (R32 to R41) -/

/-- The levels at which a walk meets a word (R30). -/
inductive DirLevel
  | zone
  | group
  | point
  | target
  deriving DecidableEq, Repr

/-- What a read word does to the walk: the walk with its write-guard and through-link marks brought up to date, the word
as the walk leaves it, and where the walk goes. -/
structure Judgement where
  walk : Walk
  word : DirWord
  next : WalkNext
  deriving DecidableEq, Repr

/-- R34, R35, R38, R41: the walk meets its leaf, R37 having let it pass. -/
def judgeLeaf (w : Walk) (word : DirWord) : Judgement :=
  if descServiceOnly word ∧ w.seat ≠ serviceSeat then
    { walk := w, word := withTouched word, next := .finish .maintOnly }
  else
    let left := if w.access = .set then withDriven (withTouched word) else withTouched word
    { walk := w
      word := left
      next := .finish (.found
        { channel := descChannel word, guarded := w.guarded, serviceOnly := descServiceOnly word,
          global := descGlobal word, driven := descDriven left, link := w.throughLink }) }

/-- R29 to R41: the word a walk reads at a level. An ABSENT word is left as read. For any other kind W is accumulated
first; a SET walk that meets the write-guard ends there, the word unwritten; otherwise the word is touched. -/
def judgeWord (level : DirLevel) (w : Walk) (word : DirWord) : Judgement :=
  if descKind word = .absent then { walk := w, word := word, next := .finish .absent }
  else
    let w1 := { w with guarded := w.guarded || descGuarded word }
    if w1.access = .set ∧ w1.guarded = true then { walk := w1, word := word, next := .finish .guarded }
    else
      match level, descKind word with
      | .zone, .table => { walk := w1, word := withTouched word, next := .toGroup (descBase word) }
      | .group, .table => { walk := w1, word := withTouched word, next := .toPoint (descBase word) }
      | .point, .leaf | .target, .leaf => judgeLeaf w1 word
      | .point, .link =>
        { walk := { w1 with throughLink := true }, word := withTouched word, next := .toLink (descBase word) }
      | .zone, _ | .group, _ | .point, _ | .target, _ =>
        { walk := w1, word := withTouched word, next := .finish .dirFault }

/-- The walk goes on to its next step, or ends. -/
def State.walkOn (s : State) (w : Walk) (next : WalkNext) : State :=
  let on (step : WalkStep) : State := { s with pdir := { s.pdir with walk := some { w with step := step } } }
  match next with
  | .toGroup base => on (.group base)
  | .toPoint base => on (.point base)
  | .toLink target => on (.link target)
  | .finish o => s.endWalk w o

/-- R43: a seat has a DIR_WRITE of the word waiting (assumption 19). -/
def State.writeWaits (s : State) (addr : DirAddr) : Bool :=
  (List.finRange 4).any fun q =>
    match s.lbi.service.read q with
    | some i =>
      match i.progress with
      | .awaitingPort a (some _) => a == addr
      | .awaitingPort _ none | .taken | .awaitingWalk _ | .walking => false
    | none => false

/-- R26, R40: the walker's locked read. A word that needs no mark is released at once and the walk goes on; a word that
needs one stays locked until its mark write. A DIR_WRITE waiting for the word is then held, and marks the walk no-load
(R43). -/
def State.walkRead (s : State) (w : Walk) (level : DirLevel) (addr : DirAddr) : State :=
  let word := memRead s.pdir.memory addr.toNat
  let j := judgeWord level { w with readWords := addr :: w.readWords } word
  let s1 := s.grantWalker
  if j.word = word then s1.walkOn j.walk j.next
  else
    { s1 with
      pdir :=
        { s1.pdir with
          walk := some
            { j.walk with
              noLoad := j.walk.noLoad || s.writeWaits addr
              step := .mark addr j.word j.next } } }

/-- WALK_GRANT (R31, R44, R149): the seat the free walker was handed to leaves the waiting set. With the directory
CLOSED no walk takes place; with its root not valid the walk ends at once. -/
def execWalkGrant (s : State) : Outcome :=
  .next
    (match s.pdir.walk with
    | some _ => s
    | none =>
      match s.lbi.arbiter.chosen.or s.lbi.arbiter.next with
      | none => s
      | some seat =>
        let arbiter : Arbiter :=
          { waiting := s.lbi.arbiter.waiting.write seat false, last := seat, chosen := none }
        let s1 := { s with lbi := { s.lbi with arbiter := arbiter } }
        match s.lbi.service.read seat with
        | none => s1.settleArbiter
        | some i =>
          match i.progress, i.request.kind with
          | .awaitingWalk rewalk, some kind =>
            if s.pdir.isOpen then
              let root := s.pdir.roots.read seat
              let w : Walk :=
                { seat := seat, point := wordPoint (i.request.word 0),
                  access := if kind = .set then .set else if kind = .release then .release else .read,
                  rewalk := rewalk, rootBase := root.base, guarded := false, throughLink := false, noLoad := false,
                  readWords := [], step := .zone }
              if root.valid then
                let s2 := s1.setService seat (some { request := i.request, progress := .walking })
                { s2 with pdir := { s2.pdir with walk := some w } }
              else s1.endWalk w .absent
            else (s1.answer seat i.request .noWindow []).settleArbiter
          | .awaitingWalk _, none | .taken, _ | .walking, _ | .awaitingPort _ _, _ => s1.settleArbiter)

/-- WALK_ZONE_READ (R32): the locked read of the zone-table word, once the port goes to the walker. -/
def execWalkZoneRead (s : State) : Outcome :=
  .next
    (match s.pdir.walk with
    | some w =>
      match w.step with
      | .zone => if s.portToWalker then s.walkRead w .zone (zoneAddr w.rootBase w.point) else s
      | .group _ | .point _ | .link _ | .mark _ _ _ => s
    | none => s)

/-- WALK_GROUP_READ (R33): a base off its multiple of 32 ends the walk with no read. -/
def execWalkGroupRead (s : State) : Outcome :=
  .next
    (match s.pdir.walk with
    | some w =>
      match w.step with
      | .group base =>
        if base.toNat % 32 ≠ 0 then s.endWalk w .dirFault
        else if s.portToWalker then s.walkRead w .group (groupAddr base w.point)
        else s
      | .zone | .point _ | .link _ | .mark _ _ _ => s
    | none => s)

/-- WALK_POINT_READ (R34): a base off its multiple of 16 ends the walk with no read. -/
def execWalkPointRead (s : State) : Outcome :=
  .next
    (match s.pdir.walk with
    | some w =>
      match w.step with
      | .point base =>
        if base.toNat % 16 ≠ 0 then s.endWalk w .dirFault
        else if s.portToWalker then s.walkRead w .point (pointAddr base w.point)
        else s
      | .zone | .group _ | .link _ | .mark _ _ _ => s
    | none => s)

/-- WALK_LINK_TARGET_READ (R35): no alignment applies to a target. -/
def execWalkLinkTargetRead (s : State) : Outcome :=
  .next
    (match s.pdir.walk with
    | some w =>
      match w.step with
      | .link target => if s.portToWalker then s.walkRead w .target target else s
      | .zone | .group _ | .point _ | .mark _ _ _ => s
    | none => s)

/-- R40, R41: the word is written back with its marks, and its lock released. -/
def State.writeMark (s : State) (addr : DirAddr) (word : DirWord) : State :=
  { s with pdir := { s.pdir with memory := memWrite s.pdir.memory addr.toNat word } }

/-- WALK_MARK_WRITE (R40): the locked write-back, once the port goes to the walker; then the walk goes on or ends. -/
def execWalkMarkWrite (s : State) : Outcome :=
  .next
    (match s.pdir.walk with
    | some w =>
      match w.step with
      | .mark addr word next => if s.portToWalker then ((s.writeMark addr word).grantWalker).walkOn w next else s
      | .zone | .group _ | .point _ | .link _ => s
    | none => s)

/-! ### DIR_READ and DIR_WRITE (R42, R43) -/

/-- R42: an access judged on editor right and address, and put to the port. A DIR_WRITE of the locked word is held, and
marks the walk no-load as it is held (R43). -/
def State.directoryAccess (s : State) (seat : Seat) (r : Request) (data : Option DirWord) : State :=
  if s.editor seat = false then s.answer seat r .notEditor []
  else if 4095 < (r.word 0).toNat then s.answer seat r .badValue []
  else
    let addr : DirAddr := (r.word 0).setWidth 12
    let s1 := s.setService seat (some { request := r, progress := .awaitingPort addr data })
    if data.isSome then s1.markNoLoad fun w => w.lockedWord == some addr else s1

/-- DIR_READ (R42). -/
def execDirRead (seat : Seat) (s : State) : Outcome :=
  .next (s.onRequest seat .dirRead fun r => s.directoryAccess seat r none)

/-- DIR_WRITE (R42). -/
def execDirWrite (seat : Seat) (s : State) : Outcome :=
  .next (s.onRequest seat .dirWrite fun r => s.directoryAccess seat r (some (r.word 1 ++ r.word 2)))

/-- DIR_PORT_GRANT (R25, R42, R43): the port takes the access of the seat next in its rotating order, where the port
goes to the seats. A write to a word the walk in flight has read marks the walk no-load. -/
def execDirPortGrant (s : State) : Outcome :=
  .next
    (if s.portToSeats then
      match s.portSeat with
      | none => s
      | some seat =>
        match s.portAccess seat with
        | none => s
        | some (i, addr, data) =>
          let s1 := { s with pdir := { s.pdir with lastSide := .seats, lastSeat := seat } }
          match data with
          | none =>
            let word := memRead s.pdir.memory addr.toNat
            s1.answer seat i.request .done [word.extractLsb' 16 16, word.extractLsb' 0 16]
          | some word =>
            State.answer (State.markNoLoad (s1.writeMark addr word) fun w => w.readWords.contains addr)
              seat i.request .done []
    else s)

/-! ### FLUSH (R57, R58) -/

/-- The form a FLUSH names, bits 15–14 of its first word. -/
def flushForm (r : Request) : Nat := ((r.word 0).extractLsb' 14 2).toNat

/-- The seat a FLUSH names, bits 3–0 of its first word. -/
def flushSeatNamed (r : Request) : Nat := ((r.word 0).extractLsb' 0 4).toNat

/-- R57, R168: a FLUSH of form `form`. A request whose form code has no meaning is refused BAD_VALUE by any of the
three steps of its kind (assumption 11). -/
def State.onFlush (s : State) (seat : Seat) (form : Nat) (f : Request → State) : State :=
  s.onRequest seat .flush fun r =>
    if flushForm r = form then f r
    else if flushForm r = 3 then s.answer seat r .badValue []
    else s

/-- R57: a FLUSH that names a seat: a bus seat names itself, the service seat any seat (assumption 11). -/
def State.flushNamed (s : State) (seat : Seat) (r : Request) (f : Seat → State) : State :=
  if seat ≠ serviceSeat ∧ flushSeatNamed r ≠ seat.val then s.answer seat r .notEditor []
  else
    match index? 4 (flushSeatNamed r) with
    | none => s.answer seat r .badValue []
    | some named => (f named).answer seat r .done []

/-- FLUSH_POINT (R58, R60). -/
def execFlushPoint (seat : Seat) (s : State) : Outcome :=
  .next (s.onFlush seat 0 fun r => s.flushNamed seat r fun named =>
    State.markNoLoad { s with pcache := s.pcache.flushPoint named (wordPoint (r.word 1)) }
      fun w => w.point == wordPoint (r.word 1))

/-- FLUSH_SEAT (R58, R60). -/
def execFlushSeat (seat : Seat) (s : State) : Outcome :=
  .next (s.onFlush seat 1 fun r => s.flushNamed seat r fun named =>
    State.markNoLoad { s with pcache := s.pcache.flushSeat named } fun w => w.seat == named)

/-- FLUSH_ALL (R57, R58, R60): the service seat's alone. -/
def execFlushAll (seat : Seat) (s : State) : Outcome :=
  .next (s.onFlush seat 2 fun r =>
    if seat ≠ serviceSeat then s.answer seat r .notEditor []
    else State.answer (State.markNoLoad { s with pcache := s.pcache.flushAll } fun _ => true) seat r .done [])

/-! ### Directory state (R44) -/

/-- R44: the service seat sets the directory state. -/
def State.setDirectory (s : State) (seat : Seat) (r : Request) (isOpen : Bool) : State :=
  if seat ≠ serviceSeat then s.answer seat r .notEditor []
  else State.answer { s with pdir := { s.pdir with isOpen := isOpen } } seat r .done []

/-- OPEN_DIRECTORY (R44). -/
def execOpenDirectory (seat : Seat) (s : State) : Outcome :=
  .next (s.onRequest seat .openDirectory fun r => s.setDirectory seat r true)

/-- CLOSE_DIRECTORY (R44). -/
def execCloseDirectory (seat : Seat) (s : State) : Outcome :=
  .next (s.onRequest seat .closeDirectory fun r => s.setDirectory seat r false)

end Sys2Proof.Machine
end

