-- ==== Sys2Proof/Machine/Write.lean ====
section
/-! DEFINITION. What every CONFIG_WRITE shares: the selector, the rights, the field words and the channel-settings
refusals (R16, R147, R168, R169). -/

namespace Sys2Proof.Machine

/-- What the judging of a CONFIG_WRITE gives: a refusal, or the state the accepted write leaves. -/
inductive Verdict
  | refused (c : Code)
  | accepted (s : State)
  deriving DecidableEq, Repr

/-- A refusal changes nothing and is answered with its code; an accepted write is answered DONE. -/
def State.conclude (s : State) (seat : Seat) (r : Request) (v : Verdict) : State :=
  match v with
  | .refused c => s.answer seat r c []
  | .accepted t => t.answer seat r .done []

/-- R169: a CONFIG_WRITE in service whose selector names an item that `pick` takes. The rows of the other items leave
the request to theirs. -/
def State.onWrite (s : State) (seat : Seat) (pick : Item → Request → Option Verdict) : State :=
  s.onRequest seat .configWrite fun r =>
    match r.item.bind fun i => pick i r with
    | some v => s.conclude seat r v
    | none => s

/-- R147 step 1: a service-seat item. -/
def asService (seat : Seat) (v : Verdict) : Verdict := if seat = serviceSeat then v else .refused .notEditor

/-- R147 step 2: an item that needs editor right. -/
def State.asEditor (s : State) (seat : Seat) (v : Verdict) : Verdict :=
  if s.editor seat then v else .refused .notEditor

/-- R167, R168: the item's fields, or BAD_VALUE where there are too few or one is outside its values. -/
def Verdict.fields {α : Type} (p : Option α) (f : α → Verdict) : Verdict :=
  match p with
  | some a => f a
  | none => .refused .badValue

/-- R16: the channel is in use, and is not shut off. -/
def State.settingsHeld (s : State) (c : OutCh) : Bool := !s.shutOff c && ((s.record c).live || s.moveInFlight c)

/-- R16: a channel-settings write that has passed the value checks. -/
def State.settingsWrite (s : State) (c : OutCh) (t : State) : Verdict :=
  if s.odu.oddMember c then .refused .badTarget
  else if s.settingsHeld c then .refused .inUse
  else .accepted t

/-- The request carries `n` field words, or more (R167). -/
def Request.has (r : Request) (n : Nat) : Bool := n + 1 ≤ r.payload.length

/-- Field word `i` of a CONFIG_WRITE. -/
def Request.field (r : Request) (i : Nat) : Word := r.word (i + 1)

/-- The value of a field from `lo` to `hi`. -/
def inRange? (lo hi : Nat) (w : Word) : Option Nat :=
  if lo ≤ w.toNat ∧ w.toNat ≤ hi then some w.toNat else none

/-- CONFIG_WRITE_OTHER (R169): a selector that names no item, or a read-only one, is refused BAD_VALUE, whoever sends
it: the selector comes before the rights (R147), also where R145's table puts NOT_EDITOR first (assumption 37). -/
def execConfigWriteOther (seat : Seat) (s : State) : Outcome :=
  .next (s.onRequest seat .configWrite fun r =>
    match r.item with
    | none => s.answer seat r .badValue []
    | some i => if i.readOnly then s.answer seat r .badValue [] else s)

end Sys2Proof.Machine
end

