-- ==== Sys2Proof/Machine/WriteCircuit.lean ====
section
/-! DEFINITION. CONFIG_WRITE of the five items of a circuit record (R94 to R97). -/

namespace Sys2Proof.Machine

/-- R95: a write to the record of a circuit whose stage is not DISABLED is refused STAGE_HOLDS, whatever its content
(assumption 13). -/
def State.circuitWrite (s : State) (seat : Seat) (n : CircuitNo) (v : Verdict) : Verdict :=
  s.asEditor seat (if (s.circuit n).enabled then .refused .stageHolds else v)

/-- R96: another circuit satisfies `p`. -/
def State.otherCircuit (s : State) (n : CircuitNo) (p : Circuit → Bool) : Bool :=
  (List.finRange 4).any fun o => o != n && p (s.circuit o)

/-- The circuit replaced. -/
def State.setCircuit (s : State) (n : CircuitNo) (c : Circuit) : State :=
  { s with circuits := s.circuits.write n c }

/-! ### Circuit sensors (R96) -/

/-- R96: one to four sensor channels, each in no other circuit's guard set. -/
def State.sensorsFields (s : State) (n : CircuitNo) (r : Request) : Option (List SensorCh) :=
  let v := wordsNat (r.field 0) (r.field 1)
  let set := setMembers 24 v
  if r.has 2 ∧ v < 2 ^ 24 ∧ set ≠ [] ∧ set.length ≤ 4 ∧
      set.all (fun c => !s.otherCircuit n fun o => o.guardSet.contains c) then some set
  else none

/-- CONFIG_WRITE_CIRCUIT_SENSORS (R95, R96). -/
def execConfigWriteCircuitSensors (seat : Seat) (s : State) : Outcome :=
  .next (s.onWrite seat fun i r =>
    match i with
    | .circuitSensors n =>
      some (s.circuitWrite seat n (Verdict.fields (s.sensorsFields n r) fun set =>
        .accepted (s.setCircuit n { s.circuit n with guardSet := set })))
    | _ => none)

/-! ### Circuit outputs (R14, R96) -/

/-- The fields of a circuit outputs item (R94). -/
structure OutputFields where
  fans : List OutCh
  bypass : Option OutCh
  pumps : List OutCh
  deriving DecidableEq, Repr

/-- The channels an outputs item lists, each as often as it lists it. -/
def OutputFields.all (f : OutputFields) : List OutCh := f.fans ++ f.bypass.toList ++ f.pumps

/-- The bypass word: absent, or a channel 0 to 23. -/
def bypassField (w : Word) : Option (Option OutCh) :=
  if w = absentWord then some none else (index? 24 w.toNat).map fun m => some (modCh m)

/-- R94: the lists as the words give them; fans and the bypass lie from 0 to 23. -/
def outputWords (r : Request) : Option OutputFields :=
  let fans := wordsNat (r.field 0) (r.field 1)
  if r.has 5 ∧ fans < 2 ^ 24 then
    (bypassField (r.field 2)).map fun b =>
      { fans := setMembers 32 fans, bypass := b,
        pumps := setMembers 32 (wordsNat (r.field 3) (r.field 4)) }
  else none

/-- R96: the checks of an outputs write. -/
def State.outputsAllowed (s : State) (n : CircuitNo) (f : OutputFields) : Bool :=
  decide (f.fans.length ≤ 6) && decide (f.pumps.length ≤ 2) &&
    f.fans.all (fun c => !s.odu.member c && (s.shutoff c).mask.frostTrip) &&
    f.bypass.toList.all (fun c => !s.odu.oddMember c) &&
    f.pumps.all (fun c => !s.odu.member c) &&
    decide f.all.Nodup &&
    f.all.all (fun c => !s.otherCircuit n fun o => o.lists c)

/-- R96: the fields of an outputs write that passes its checks. -/
def State.outputsFields (s : State) (n : CircuitNo) (r : Request) : Option OutputFields :=
  (outputWords r).filter (s.outputsAllowed n)

/-- R14: a record listed by the circuit takes its role and circuit; one no longer listed returns to NONE. The circuit
is DISABLED, so no bound applies. -/
def Record.takeRole (n : CircuitNo) (c : Circuit) (ch : OutCh) (r : Record) : Record :=
  if c.lists ch then Record.settle { r with role := c.roleOf ch, circuit := some n, bound := .none }
  else if r.circuit = some n then Record.settle { r with role := .none, circuit := none, bound := .none }
  else r

/-- R95: the lists are replaced and the records take their roles. -/
def State.setOutputs (s : State) (n : CircuitNo) (f : OutputFields) : State :=
  let c := { s.circuit n with fans := f.fans, bypass := f.bypass, pumps := f.pumps }
  (s.setCircuit n c).withRecords fun ch r => r.takeRole n c ch

/-- CONFIG_WRITE_CIRCUIT_OUTPUTS (R95, R96). -/
def execConfigWriteCircuitOutputs (seat : Seat) (s : State) : Outcome :=
  .next (s.onWrite seat fun i r =>
    match i with
    | .circuitOutputs n =>
      some (s.circuitWrite seat n (Verdict.fields (s.outputsFields n r) fun f => .accepted (s.setOutputs n f)))
    | _ => none)

/-! ### Circuit flow (R91, R96) -/

/-- R96: no flow channel, or one that no other circuit names, with its P_max. A word of P_max may be 65535 (DESIGN CHOICE,
assumption 41). -/
def State.flowFields (s : State) (n : CircuitNo) (r : Request) : Option (Option (PulseCh × Nat)) :=
  if r.has 3 then
    if r.field 0 = absentWord then some none
    else do
      let ch ← index? 8 (r.field 0).toNat
      let p := wordsNat (r.field 1) (r.field 2)
      if 1 ≤ p ∧ p ≤ 1048575 ∧ s.otherCircuit n (fun o => (o.flow.map (·.1)) == some ch) = false then some (some (ch, p))
      else none
  else none

/-- R95: the flow field is replaced and the proof judged anew. -/
def State.setFlow (s : State) (n : CircuitNo) (f : Option (PulseCh × Nat)) : State :=
  (s.setCircuit n { s.circuit n with flow := f }).judgeProof n

/-- CONFIG_WRITE_CIRCUIT_FLOW (R95, R96). -/
def execConfigWriteCircuitFlow (seat : Seat) (s : State) : Outcome :=
  .next (s.onWrite seat fun i r =>
    match i with
    | .circuitFlow n =>
      some (s.circuitWrite seat n (Verdict.fields (s.flowFields n r) fun f => .accepted (s.setFlow n f)))
    | _ => none)

/-! ### Circuit thresholds and times (R97) -/

/-- The fields of a circuit thresholds item (R94). -/
structure ThresholdFields where
  freezePoint : Int
  mWatch : Int
  mAct : Int
  mTrip : Int
  hysteresis : Int
  deriving DecidableEq, Repr

/-- R97: the checks of a thresholds write. -/
def ThresholdFields.allowed (f : ThresholdFields) : Bool :=
  decide (-6000 ≤ f.freezePoint ∧ f.freezePoint ≤ 0) && decide (0 ≤ f.mWatch ∧ f.mWatch ≤ 3000) &&
    decide (0 ≤ f.mAct ∧ f.mAct ≤ 3000) && decide (0 ≤ f.mTrip ∧ f.mTrip ≤ 3000) &&
    decide (f.mAct < f.mWatch) && decide (f.mTrip < f.mAct) && decide (50 ≤ f.mAct - f.mTrip) &&
    decide (0 ≤ f.hysteresis ∧ f.hysteresis ≤ 300)

/-- R97: the five fields of a thresholds write that passes its checks. A freeze point of 65535 is −1 (DESIGN CHOICE,
assumption 41). -/
def thresholdFields (r : Request) : Option ThresholdFields :=
  if r.has 5 then
    (some
      { freezePoint := (r.field 0).toInt, mWatch := (r.field 1).toInt, mAct := (r.field 2).toInt,
        mTrip := (r.field 3).toInt, hysteresis := (r.field 4).toInt }).filter ThresholdFields.allowed
  else none

/-- The circuit with its thresholds replaced. -/
def Circuit.takeThresholds (c : Circuit) (f : ThresholdFields) : Circuit :=
  { c with
    freezePoint := f.freezePoint
    mWatch := f.mWatch
    mAct := f.mAct
    mTrip := f.mTrip
    hysteresis := f.hysteresis }

/-- CONFIG_WRITE_CIRCUIT_THRESHOLDS (R95, R97). -/
def execConfigWriteCircuitThresholds (seat : Seat) (s : State) : Outcome :=
  .next (s.onWrite seat fun i r =>
    match i with
    | .circuitThresholds n =>
      some (s.circuitWrite seat n (Verdict.fields (thresholdFields r) fun f =>
        .accepted (s.setCircuit n ((s.circuit n).takeThresholds f))))
    | _ => none)

/-- The fields of a circuit times item (R94). -/
structure TimeFields where
  pumpMin : Nat
  tripDwell : Nat
  flowGrace : Nat
  deriving DecidableEq, Repr

/-- R97: pump_min, trip dwell and flow grace, in their ranges. -/
def timeFields (r : Request) : Option TimeFields :=
  if r.has 3 then do
    let pumpMin ← inRange? 0 1000 (r.field 0)
    let tripDwell ← inRange? 10 3600 (r.field 1)
    let flowGrace ← inRange? 1 600 (r.field 2)
    some { pumpMin := pumpMin, tripDwell := tripDwell, flowGrace := flowGrace }
  else none

/-- The circuit with its times replaced. -/
def Circuit.takeTimes (c : Circuit) (f : TimeFields) : Circuit :=
  { c with pumpMin := f.pumpMin, tripDwell := f.tripDwell, flowGrace := f.flowGrace }

/-- CONFIG_WRITE_CIRCUIT_TIMES (R95, R97). -/
def execConfigWriteCircuitTimes (seat : Seat) (s : State) : Outcome :=
  .next (s.onWrite seat fun i r =>
    match i with
    | .circuitTimes n =>
      some (s.circuitWrite seat n (Verdict.fields (timeFields r) fun f =>
        .accepted (s.setCircuit n ((s.circuit n).takeTimes f))))
    | _ => none)

end Sys2Proof.Machine
end

