-- ==== Sys2Proof/Machine/WriteCommand.lean ====
section
/-! DEFINITION. CONFIG_WRITE of the items of the command table, the directory roots, the windows, the loop bus and the
event unit (R7, R10, R12, R16, R28, R47, R145, R154, R161). -/

namespace Sys2Proof.Machine

/-! ### Rank table (R7) -/

/-- R7: the four seats of a rank word, if they are a permutation of 0 to 3. -/
def rankFields (r : Request) : Option (Bank Seat 4) :=
  if r.has 1 then do
    let w := r.field 0
    let a ← index? 4 (w.extractLsb' 12 4).toNat
    let b ← index? 4 (w.extractLsb' 8 4).toNat
    let c ← index? 4 (w.extractLsb' 4 4).toNat
    let d ← index? 4 (w.extractLsb' 0 4).toNat
    if a ≠ b ∧ a ≠ c ∧ a ≠ d ∧ b ≠ c ∧ b ≠ d ∧ c ≠ d then some ⟨#v[a, b, c, d]⟩ else none
  else none

/-- R7: the table is replaced and every record re-arbitrates. -/
def State.setRanks (s : State) (ranks : Bank Seat 4) : State :=
  let s1 := { s with cmdt := { s.cmdt with ranks := ranks } }
  s1.withRecords fun _ r => s1.judgeRecord r

/-- CONFIG_WRITE_RANK_TABLE (R7). -/
def execConfigWriteRankTable (seat : Seat) (s : State) : Outcome :=
  .next (s.onWrite seat fun i r =>
    match i with
    | .rankTable => some (asService seat (Verdict.fields (rankFields r) fun ranks => .accepted (s.setRanks ranks)))
    | _ => none)

/-! ### Root (R28, R59, R60) -/

/-- R28: base and valid mark; the base is even. -/
def rootFields (r : Request) : Option Root :=
  if r.has 2 then do
    let base ← inRange? 0 255 (r.field 0)
    let valid ← mark? (r.field 1)
    if base % 2 = 0 then some { base := BitVec.ofNat 8 base, valid := valid } else none
  else none

/-- R28, R59, R60: the root is replaced, the seat's non-global entries invalidated, and its walk marked no-load. -/
def State.setRoot (s : State) (named : Seat) (root : Root) : State :=
  State.markNoLoad
    { s with
      pdir := { s.pdir with roots := s.pdir.roots.write named root }
      pcache := s.pcache.flushSeat named }
    fun w => w.seat == named

/-- CONFIG_WRITE_ROOT (R28). -/
def execConfigWriteRoot (seat : Seat) (s : State) : Outcome :=
  .next (s.onWrite seat fun i r =>
    match i with
    | .root named => some (asService seat (Verdict.fields (rootFields r) fun root => .accepted (s.setRoot named root)))
    | _ => none)

/-! ### Window (R47) -/

/-- R47: the five fields of a window. -/
def windowFields (r : Request) : Option Window :=
  if r.has 5 then do
    let enable ← mark? (r.field 0)
    let base ← inRange? 0 31 (r.field 1)
    let mask ← inRange? 0 31 (r.field 2)
    let seats ← inRange? 0 15 (r.field 3)
    let guarded ← mark? (r.field 4)
    some { enable := enable, zoneBase := BitVec.ofNat 5 base, zoneMask := BitVec.ofNat 5 mask,
           seats := BitVec.ofNat 4 seats, guarded := guarded }
  else none

/-- CONFIG_WRITE_WINDOW (R47). -/
def execConfigWriteWindow (seat : Seat) (s : State) : Outcome :=
  .next (s.onWrite seat fun i r =>
    match i with
    | .window n =>
      some (asService seat (Verdict.fields (windowFields r) fun w =>
        .accepted { s with pcache := { s.pcache with windows := s.pcache.windows.write n w } }))
    | _ => none)

/-! ### Roster (R145) -/

/-- R145: station, enabled mark and editor right. -/
def rosterFields (r : Request) : Option RosterEntry :=
  if r.has 3 then do
    let station ← inRange? 0 15 (r.field 0)
    let enabled ← mark? (r.field 1)
    let editor ← mark? (r.field 2)
    some { station := BitVec.ofNat 4 station, enabled := enabled, editor := editor }
  else none

/-- R145: an entry would be enabled with the part's own station, or with that of another enabled entry. -/
def Lbi.rosterClash (l : Lbi) (b : BusSeat) (e : RosterEntry) : Bool :=
  e.enabled && (e.station == l.station ||
    (List.finRange 3).any fun o => o != b && (l.roster.read o).enabled && (l.roster.read o).station == e.station)

/-- R145: the seat holds a live demand, an entry in its line, or a request in service. -/
def State.seatInUse (s : State) (seat : Seat) : Bool :=
  (List.finRange 32).any (fun c => ((s.record c).slot seat).isSome) ||
    !(s.lbi.lines.read seat).isEmpty || (s.lbi.service.read seat).isSome

/-- R145: the rows of its table, in order. -/
def State.rosterWrite (s : State) (b : BusSeat) (e : RosterEntry) : Verdict :=
  if s.lbi.rosterClash b e then .refused .badValue
  else if s.seatInUse (seatOf b) then .refused .inUse
  else .accepted { s with lbi := { s.lbi with roster := s.lbi.roster.write b e } }

/-- CONFIG_WRITE_ROSTER_ENTRY (R145). -/
def execConfigWriteRosterEntry (seat : Seat) (s : State) : Outcome :=
  .next (s.onWrite seat fun i r =>
    match i with
    | .rosterEntry b => some (asService seat (Verdict.fields (rosterFields r) fun e => s.rosterWrite b e))
    | _ => none)

/-! ### Orphan limit (R154) -/

/-- R154: a limit in seconds. -/
def limitField (r : Request) : Option Nat := if r.has 1 then inRange? 1 600 (r.field 0) else none

/-- R154: the limit applies to the running count; where the count has reached it, the cause begins at the write. -/
def State.setOrphanLimit (s : State) (limit : Nat) : State :=
  let s1 := { s with lbi := { s.lbi with orphan := { s.lbi.orphan with limit := limit } } }
  if s1.lbi.orphan.expired then s1.orphanBegins else s1

/-- CONFIG_WRITE_ORPHAN_LIMIT (R154). -/
def execConfigWriteOrphanLimit (seat : Seat) (s : State) : Outcome :=
  .next (s.onWrite seat fun i r =>
    match i with
    | .orphanLimit => some (asService seat (Verdict.fields (limitField r) fun l => .accepted (s.setOrphanLimit l)))
    | _ => none)

/-! ### Event mask (R161) -/

/-- R161: the mask and the attention enable; bits 15–12 of a flag set are spare (11.2), so 65535 names every flag (DESIGN
CHOICE, assumption 41). -/
def eventMaskFields (r : Request) : Option (BitVec 12 × Bool) :=
  if r.has 2 then (mark? (r.field 1)).map fun enable => ((r.field 0).extractLsb' 0 12, enable) else none

/-- R161: the mask and the enable of a seat are replaced. -/
def State.setEventMask (s : State) (named : Seat) (mask : BitVec 12) (enable : Bool) : State :=
  { s with
    evu :=
      { s.evu with
        masks := s.evu.masks.write named mask
        attention := s.evu.attention.write named enable } }

/-- CONFIG_WRITE_EVENT_MASK (R161): a seat writes its own item, the service seat any. -/
def execConfigWriteEventMask (seat : Seat) (s : State) : Outcome :=
  .next (s.onWrite seat fun i r =>
    match i with
    | .eventMask named =>
      some (if seat ≠ serviceSeat ∧ named ≠ seat then .refused .notEditor
        else Verdict.fields (eventMaskFields r) fun f => .accepted (s.setEventMask named f.1 f.2))
    | _ => none)

/-! ### Static limits, fallback and default hold (R10, R12, R16) -/

/-- R169: a field in which 65535 keeps the present value. -/
def keepOr (now : Nat) (w : Word) : Option Nat := if w = absentWord then some now else inRange? 0 1000 w

/-- R12: the limits as they would stand. -/
def limitFields (rec : Record) (r : Request) : Option (Nat × Nat) :=
  if r.has 2 then do
    let lo ← keepOr rec.staticMin (r.field 0)
    let hi ← keepOr rec.staticMax (r.field 1)
    if lo ≤ hi then some (lo, hi) else none
  else none

/-- R12: the limits are replaced and the effective command recomputed. -/
def State.setLimits (s : State) (c : OutCh) (lo hi : Nat) : State :=
  s.withRecord c fun rec => Record.settle { rec with staticMin := lo, staticMax := hi }

/-- CONFIG_WRITE_STATIC_LIMITS (R12, R16). -/
def execConfigWriteStaticLimits (seat : Seat) (s : State) : Outcome :=
  .next (s.onWrite seat fun i r =>
    match i with
    | .staticLimits c =>
      some (s.asEditor seat (Verdict.fields (limitFields (s.record c) r) fun f =>
        s.settingsWrite c (s.setLimits c f.1 f.2)))
    | _ => none)

/-- R10: the fallback mode and value as they would stand. -/
def fallbackFields (rec : Record) (r : Request) : Option (FallbackMode × Nat) :=
  if r.has 2 then do
    let mode ← if r.field 0 = absentWord then some rec.fallbackMode else fallbackMode? (r.field 0)
    let value ← keepOr rec.fallbackValue (r.field 1)
    some (mode, value)
  else none

/-- R10: the fallback is replaced and the record re-arbitrates. -/
def State.setFallback (s : State) (c : OutCh) (mode : FallbackMode) (value : Nat) : State :=
  s.withRecord c fun rec => s.judgeRecord { rec with fallbackMode := mode, fallbackValue := value }

/-- CONFIG_WRITE_FALLBACK (R10, R16). -/
def execConfigWriteFallback (seat : Seat) (s : State) : Outcome :=
  .next (s.onWrite seat fun i r =>
    match i with
    | .fallback c =>
      some (s.asEditor seat (Verdict.fields (fallbackFields (s.record c) r) fun f =>
        s.settingsWrite c (s.setFallback c f.1 f.2)))
    | _ => none)

/-- R16: the default hold is replaced; slots already placed keep their hold remaining. -/
def State.setDefaultHold (s : State) (c : OutCh) (hold : Nat) : State :=
  s.withRecord c fun rec => { rec with defaultHold := hold }

/-- CONFIG_WRITE_DEFAULT_HOLD (R16). -/
def execConfigWriteDefaultHold (seat : Seat) (s : State) : Outcome :=
  .next (s.onWrite seat fun i r =>
    match i with
    | .defaultHold c =>
      some (s.asEditor seat (Verdict.fields (limitField r) fun hold => s.settingsWrite c (s.setDefaultHold c hold)))
    | _ => none)

end Sys2Proof.Machine
end

