-- ==== Sys2Proof/Machine/WriteField.lean ====
section
/-! DEFINITION. CONFIG_WRITE of the items of sensor measurement and of the pulse inputs (R64, R65, R70, R77, R85). -/

namespace Sys2Proof.Machine

/-! ### Sensor settings, references and breakpoints (R64, R65, R70) -/

/-- R64: the four settings. -/
def sensorFields (r : Request) : Option SensorSettings :=
  if r.has 4 then do
    let enabled ← mark? (r.field 0)
    let reference ← index? 2 (r.field 1).toNat
    let table ← index? 2 (r.field 2).toNat
    let shift ← index? 5 (r.field 3).toNat
    some { enabled := enabled, reference := reference, table := table, shift := shift }
  else none

/-- R64, R78: the settings are replaced; a CONTINUOUS scan without a conversion chooses again. -/
def Smu.setSettings (m : Smu) (n : SensorCh) (g : SensorSettings) : Smu :=
  Smu.wake { m with settings := m.settings.write n g }

/-- CONFIG_WRITE_SENSOR_SETTINGS (R64). -/
def execConfigWriteSensorSettings (seat : Seat) (s : State) : Outcome :=
  .next (s.onWrite seat fun i r =>
    match i with
    | .sensorSettings n =>
      some (s.asEditor seat (Verdict.fields (sensorFields r) fun g =>
        .accepted { s with smu := s.smu.setSettings n g }))
    | _ => none)

/-- R65: a cycle count. -/
def cyclesField (r : Request) : Option Nat :=
  let n := (r.field 0).toNat
  if r.has 1 ∧ (n = 256 ∨ n = 1024 ∨ n = 4096) then some n else none

/-- CONFIG_WRITE_REFERENCE (R65). -/
def execConfigWriteReference (seat : Seat) (s : State) : Outcome :=
  .next (s.onWrite seat fun i r =>
    match i with
    | .reference n =>
      some (s.asEditor seat (Verdict.fields (cyclesField r) fun c =>
        .accepted { s with smu := { s.smu with cycles := s.smu.cycles.write n c } }))
    | _ => none)

/-- R70: a temperature, any signed word: 65535 is −1, although R169 calls that word out of range in a field the table
does not give it a meaning in (DESIGN CHOICE, assumption 41). -/
def breakpointField (r : Request) : Option Int := if r.has 1 then some (r.field 0).toInt else none

/-- CONFIG_WRITE_BREAKPOINT (R70): refused IN_USE while the scan runs. -/
def execConfigWriteBreakpoint (seat : Seat) (s : State) : Outcome :=
  .next (s.onWrite seat fun i r =>
    match i with
    | .breakpoint t k =>
      some (s.asEditor seat (Verdict.fields (breakpointField r) fun v =>
        if s.smu.running.isSome then .refused .inUse
        else .accepted { s with smu := { s.smu with tables := s.smu.tables.update t fun b => b.write k v } }))
    | _ => none)

/-! ### Scan range and mode (R77) -/

/-- R77: start and end, start not above end. -/
def rangeFields (r : Request) : Option (SensorCh × SensorCh) :=
  if r.has 2 then do
    let lo ← index? 24 (r.field 0).toNat
    let hi ← index? 24 (r.field 1).toNat
    if lo.val ≤ hi.val then some (lo, hi) else none
  else none

/-- R77, R78: the range is replaced; a CONTINUOUS scan without a conversion chooses again. -/
def Smu.setRange (m : Smu) (lo hi : SensorCh) : Smu := Smu.wake { m with rangeStart := lo, rangeEnd := hi }

/-- CONFIG_WRITE_SCAN_RANGE (R77). -/
def execConfigWriteScanRange (seat : Seat) (s : State) : Outcome :=
  .next (s.onWrite seat fun i r =>
    match i with
    | .scanRange =>
      some (s.asEditor seat (Verdict.fields (rangeFields r) fun f =>
        .accepted { s with smu := s.smu.setRange f.1 f.2 }))
    | _ => none)

/-- R77: the scan mode. -/
def scanModeField (r : Request) : Option ScanMode := if r.has 1 then scanMode? (r.field 0) else none

/-- CONFIG_WRITE_SCAN_MODE (R77). -/
def execConfigWriteScanMode (seat : Seat) (s : State) : Outcome :=
  .next (s.onWrite seat fun i r =>
    match i with
    | .scanMode =>
      some (s.asEditor seat (Verdict.fields (scanModeField r) fun m =>
        .accepted { s with smu := { s.smu with modeItem := m } }))
    | _ => none)

/-! ### Pulse settings (R85, R88) -/

/-- The fields of a pulse settings item (R85). -/
structure PulseFields where
  enabled : Bool
  spacing : Nat
  timeout : Nat
  deriving DecidableEq, Repr

/-- R85: the three settings, in their ranges; the timeout is a multiple of 10 ms. -/
def pulseFields (r : Request) : Option PulseFields :=
  if r.has 3 then do
    let enabled ← mark? (r.field 0)
    let spacing ← inRange? 0 50 (r.field 1)
    let timeout ← inRange? 100 10000 (r.field 2)
    if timeout % 10 = 0 then some { enabled := enabled, spacing := spacing, timeout := timeout } else none
  else none

/-- R85, R88: the settings are replaced. A changed enabled mark clears the measurement; a timeout at or below the age
while timing runs expires at the write. -/
def PulseChannel.take (p : PulseChannel) (f : PulseFields) : PulseChannel :=
  let p' := { p with enabled := f.enabled, spacing := f.spacing, timeout := f.timeout }
  if p.enabled ≠ f.enabled then p'.clearMeasurement else if p'.timedOut then p'.expire else p'

/-- R85, R88, R91: the settings of a channel are replaced, and the proof that the channel decides is judged where the
write disabled it or its timeout expired. -/
def State.setPulse (s : State) (n : PulseCh) (f : PulseFields) : State :=
  let was := s.piu.channels.read n
  let now := was.take f
  let s1 := { s with piu := { s.piu with channels := s.piu.channels.write n now } }
  if (was.enabled && !f.enabled) || (was.timing && !now.timing) then s1.judgeProofOf n else s1

/-- CONFIG_WRITE_PULSE_SETTINGS (R85). -/
def execConfigWritePulseSettings (seat : Seat) (s : State) : Outcome :=
  .next (s.onWrite seat fun i r =>
    match i with
    | .pulseSettings n =>
      some (s.asEditor seat (Verdict.fields (pulseFields r) fun f => .accepted (s.setPulse n f)))
    | _ => none)

end Sys2Proof.Machine
end

