-- ==== Sys2Proof/Machine/WriteOutput.lean ====
section
/-! DEFINITION. CONFIG_WRITE of the items of the output drive and of the shutoff unit: polarity, minimum times,
periods, floating pairs and shutoff records (R116, R118 to R121, R129, R134, R140). -/

namespace Sys2Proof.Machine

/-! ### Polarity, minimum times and periods (R116, R118, R129) -/

/-- R118: the polarity. -/
def polarityField (r : Request) : Option Polarity := if r.has 1 then polarity? (r.field 0) else none

/-- R118: a modulated channel takes the polarity at its next period end, a member of a formed pair at once. -/
def State.setPolarity (s : State) (m : ModCh) (p : Polarity) : State :=
  { s with
    odu :=
      { s.odu with
        mods := s.odu.mods.update m fun mod =>
          { mod with
            polarity := p
            activePolarity := if s.odu.member (modCh m) then p else mod.activePolarity } } }

/-- CONFIG_WRITE_OUTPUT_POLARITY (R118): the output item of a channel 0 to 23. -/
def execConfigWriteOutputPolarity (seat : Seat) (s : State) : Outcome :=
  .next (s.onWrite seat fun i r =>
    match i with
    | .output c =>
      (modOf c).map fun m =>
        s.asEditor seat (Verdict.fields (polarityField r) fun p => s.settingsWrite c (s.setPolarity m p))
    | _ => none)

/-- R129: minimum on and minimum off. -/
def minimumFields (r : Request) : Option (Nat × Nat) :=
  if r.has 2 then do
    let on ← inRange? 0 600 (r.field 0)
    let off ← inRange? 0 600 (r.field 1)
    some (on, off)
  else none

/-- R129: both times are replaced; a held change whose minimum is then met is applied, but while the channel is shut
off (R138). -/
def State.setMinimums (s : State) (d : DiscCh) (on off : Nat) : State :=
  { s with
    odu :=
      { s.odu with
        discretes := s.odu.discretes.update d fun disc =>
          let disc := { disc with minOn := on, minOff := off }
          if s.shutOff (discCh d) then disc else disc.applyHeld } }

/-- CONFIG_WRITE_MINIMUM_TIMES (R129): the output item of a channel 24 to 31. -/
def execConfigWriteMinimumTimes (seat : Seat) (s : State) : Outcome :=
  .next (s.onWrite seat fun i r =>
    match i with
    | .output c =>
      (discOf c).map fun d =>
        s.asEditor seat (Verdict.fields (minimumFields r) fun f => s.settingsWrite c (s.setMinimums d f.1 f.2))
    | _ => none)

/-- R116: the period. -/
def periodField (r : Request) : Option Nat := if r.has 1 then inRange? 100 4000 (r.field 0) else none

/-- R116: the period is placed in the buffer. -/
def State.bufferPeriod (s : State) (g : GroupNo) (p : Nat) : State :=
  { s with odu := { s.odu with groups := s.odu.groups.update g fun gr => { gr with buffered := some p } } }

/-- CONFIG_WRITE_PERIOD (R116). -/
def execConfigWritePeriod (seat : Seat) (s : State) : Outcome :=
  .next (s.onWrite seat fun i r =>
    match i with
    | .period g =>
      some (s.asEditor seat (Verdict.fields (periodField r) fun p => .accepted (s.bufferPeriod g p)))
    | _ => none)

/-! ### Floating pairs (R17, R119 to R121, R140) -/

/-- The fields of a pair item (R119). -/
structure PairFields where
  formed : Bool
  stroke : Nat
  deadband : Nat
  deadTime : Nat
  deriving DecidableEq, Repr

/-- R119: the four settings, in their ranges; the dead time is a multiple of 10 ms. -/
def pairFields (r : Request) : Option PairFields :=
  if r.has 4 then do
    let formed ← mark? (r.field 0)
    let stroke ← inRange? 10 600 (r.field 1)
    let deadband ← inRange? 1 50 (r.field 2)
    let deadTime ← inRange? 100 10000 (r.field 3)
    if deadTime % 10 = 0 then
      some { formed := formed, stroke := stroke, deadband := deadband, deadTime := deadTime }
    else none
  else none

/-- What a pair write asks of the formed mark. -/
inductive PairChange
  | settings
  | form
  | dissolve
  deriving DecidableEq, Repr

/-- Whether a pair write changes the formed mark (R119). A write whose formed field is no mark changes nothing. -/
def pairChange (q : Pair) (r : Request) : PairChange :=
  match r.has 1, mark? (r.field 0), q.isFormed with
  | true, some true, false => .form
  | true, some false, true => .dissolve
  | _, _, _ => .settings

/-- R119: the settings of a pair replaced; the run is `run`. -/
def Pair.withFields (f : PairFields) (run : Option PairRun) : Pair where
  stroke := f.stroke
  deadband := f.deadband
  deadTime := f.deadTime
  run := run

/-- R119: a write that leaves the formed mark as it was. -/
def State.setPair (s : State) (k : PairNo) (f : PairFields) : State :=
  { s with odu := { s.odu with pairs := s.odu.pairs.update k fun q => Pair.withFields f q.run } }

/-- A pair item write of one sort (R119): the others are taken by their own rows. -/
def State.onPairWrite (s : State) (seat : Seat) (sort : PairChange) (f : PairNo → PairFields → Verdict) : State :=
  s.onWrite seat fun i r =>
    match i with
    | .pair k =>
      if pairChange (s.odu.pairs.read k) r = sort then
        some (s.asEditor seat (Verdict.fields (pairFields r) (f k)))
      else none
    | _ => none

/-- CONFIG_WRITE_PAIR (R119): the formed mark stays as it is. -/
def execConfigWritePair (seat : Seat) (s : State) : Outcome :=
  .next (s.onPairWrite seat .settings fun k f =>
    if s.settingsHeld (evenCh k) then .refused .inUse else .accepted (s.setPair k f))

/-- R119: a circuit record lists the channel. -/
def State.listed (s : State) (c : OutCh) : Bool := (List.finRange 4).any fun n => (s.circuit n).lists c

/-- R17: both channels are shut off, or neither record holds a live demand. -/
def State.formHeld (s : State) (k : PairNo) : Bool :=
  !(s.shutOff (evenCh k) && s.shutOff (oddCh k)) &&
    ((s.record (evenCh k)).live || (s.record (oddCh k)).live || s.moveInFlight (evenCh k))

/-- R120, R140: the pair's state at its forming: it judges its target, or takes its safe action if it is shut off. -/
def formedRun (q : Pair) (target : Nat) (shutOff : Bool) (a : PairAction) : PairRun :=
  let p := PairRun.formed target q.stroke
  if shutOff then p.takeSafe q a else p.judge q

/-- R17, R120, R140: the pair is formed. Its target is the even record's effective command; the odd record is unused
and holds no slot; the pair is shut off if either channel was, and the odd latch is DRIVING. -/
def State.formPair (s : State) (k : PairNo) (f : PairFields) : State :=
  let off := s.shutOff (evenCh k) || s.shutOff (oddCh k)
  let q := Pair.withFields f none
  let run := formedRun q (s.record (evenCh k)).effective off (s.shutoff (evenCh k)).pair
  { s with
    odu := { s.odu with pairs := s.odu.pairs.write k (Pair.withFields f (some run)) }
    cmdt :=
      { s.cmdt with
        records := s.cmdt.records.update (oddCh k) fun rec => { rec.remove (fun _ => true) with winner := none } }
    shu :=
      { s.shu with
        records := Bank.fill fun c =>
          let sh := s.shu.records.read c
          if c = evenCh k then { sh with latched := off }
          else if c = oddCh k then { sh with latched := false }
          else sh } }

/-- PAIR_FORM (R119, R120, R140). -/
def execPairForm (seat : Seat) (s : State) : Outcome :=
  .next (s.onPairWrite seat .form fun k f =>
    if s.listed (evenCh k) || s.listed (oddCh k) then .refused .badValue
    else if s.formHeld k then .refused .inUse
    else .accepted (s.formPair k f))

/-- R121: a channel that leaves a pair: its pin at the inactive level until the next period end, its held command the
effective command of its record (assumption 30). -/
def Modulated.leavePair (m : Modulated) (effective : Nat) : Modulated :=
  { m with
    held := effective
    activePolarity := m.polarity
    forced := some (levelAt m.polarity false) }

/-- R1: the odd record resumes: no slot, no winner, its value from the fallback. -/
def Record.resume (r : Record) : Record :=
  Record.settle { r.remove (fun _ => true) with winner := none, arbitrated := r.fallback }

/-- R121: both drives released and the pair's state discarded; both channels are modulated channels again. -/
def State.partPair (s : State) (k : PairNo) (f : PairFields) : State :=
  let odd := (s.record (oddCh k)).resume
  { s with
    cmdt := { s.cmdt with records := s.cmdt.records.write (oddCh k) odd }
    odu :=
      { s.odu with
        pairs := s.odu.pairs.write k (Pair.withFields f none)
        mods := Bank.fill fun m =>
          let mod := s.odu.mods.read m
          if modCh m = evenCh k then mod.leavePair (s.record (evenCh k)).effective
          else if modCh m = oddCh k then mod.leavePair odd.effective
          else mod } }

/-- The channel is one of the pair's two. -/
def ofPair (k : PairNo) (c : OutCh) : Bool := c == evenCh k || c == oddCh k

/-- R121, R140: the pair is dissolved. If it was shut off, both channels are, each pin at its own line safe action; if
it was driving, each channel is judged on its own mask. -/
def State.dissolvePair (s : State) (k : PairNo) (f : PairFields) : State :=
  let parted := s.partPair k f
  if s.shutOff (evenCh k) then
    let forced := parted.forceOutputs (ofPair k)
    { forced with
      shu :=
        { forced.shu with
          records := Bank.fill fun c =>
            let sh := forced.shu.records.read c
            { sh with latched := sh.latched || ofPair k c } } }
  else parted.shutOffWhere fun c => ofPair k c && (parted.heldCauses c (parted.shutoff c).mask).any

/-- PAIR_DISSOLVE (R17, R121, R140). -/
def execPairDissolve (seat : Seat) (s : State) : Outcome :=
  .next (s.onPairWrite seat .dissolve fun k f =>
    if s.settingsHeld (evenCh k) then .refused .inUse else .accepted (s.dissolvePair k f))

/-! ### Shutoff records (R134, R136) -/

/-- The fields of a shutoff item (R134). -/
structure ShutoffFields where
  mask : Mask
  line : LineAction
  pair : PairAction
  deriving DecidableEq, Repr

/-- R134: the mask and the two actions. Bits above the mask's three are spare (assumption 14), so 65535 names every cause
(DESIGN CHOICE, assumption 41). -/
def shutoffFields (r : Request) : Option ShutoffFields :=
  if r.has 3 then do
    let line ← lineAction? (r.field 1)
    let pair ← pairAction? (r.field 2)
    some { mask := wordMask (r.field 0), line := line, pair := pair }
  else none

/-- R134: an odd channel or a discrete channel takes no pair safe action but STOP. -/
def evenPairChannel (c : OutCh) : Bool := decide (c.val < 24) && c.val % 2 == 0

/-- R134: a circuit record lists the channel as a fan. -/
def State.isFan (s : State) (c : OutCh) : Bool := (List.finRange 4).any fun n => (s.circuit n).fans.contains c

/-- R134: the safe action in use: of a formed pair its pair safe action, of any other channel its line safe action. -/
def State.actionChanged (s : State) (c : OutCh) (f : ShutoffFields) : Bool :=
  if (s.odu.evenPair c).isSome then (s.shutoff c).pair != f.pair else (s.shutoff c).line != f.line

/-- R134: the three fields are replaced. A driving channel whose new mask names a holding cause is shut off; the
output of a shut-off channel goes to a changed safe action at once. -/
def State.setShutoff (s : State) (c : OutCh) (f : ShutoffFields) : State :=
  let s1 :=
    { s with
      shu :=
        { s.shu with
          records := s.shu.records.update c fun sh => { sh with mask := f.mask, line := f.line, pair := f.pair } } }
  if s.shutOff c then (if s.actionChanged c f then s1.forceOutputs (fun c' => c' == c) else s1)
  else s1.shutOffWhere fun c' => c' == c && (s1.heldCauses c f.mask).any

/-- R134: the checks of a write, in the order of the rule (assumption 16). -/
def State.shutoffWrite (s : State) (ch : Fin 64) (f : ShutoffFields) : Verdict :=
  match index? 32 ch.val with
  | none => .refused .badTarget
  | some c =>
    if !evenPairChannel c && f.pair != .stop then .refused .badValue
    else if s.isFan c && !f.mask.frostTrip then .refused .badValue
    else if s.odu.oddMember c then .refused .badTarget
    else .accepted (s.setShutoff c f)

/-- CONFIG_WRITE_SHUTOFF (R134, R136). -/
def execConfigWriteShutoff (seat : Seat) (s : State) : Outcome :=
  .next (s.onWrite seat fun i r =>
    match i with
    | .shutoff ch => some (s.asEditor seat (Verdict.fields (shutoffFields r) fun f => s.shutoffWrite ch f))
    | _ => none)

end Sys2Proof.Machine
end

