-- ==== Sys2Proof/Machine/Dispatch.lean ====
section
/-! DEFINITION. The one table from commands to their meanings: one arm per constructor of `Instr`, in the order of
spec/opcode_table.json. -/

namespace Sys2Proof.Machine

def exec (i : Instr) (s : State) : Host.Outcome State Fault Refusal :=
  match i with
  | .busFrameReceive frame => Sys2Proof.Machine.execBusFrameReceive frame s
  | .serviceFrameReceive frame => Sys2Proof.Machine.execServiceFrameReceive frame s
  | .handlerTakeHead seat => Sys2Proof.Machine.execHandlerTakeHead seat s
  | .hello seat => Sys2Proof.Machine.execHello seat s
  | .set seat => Sys2Proof.Machine.execSet seat s
  | .release seat => Sys2Proof.Machine.execRelease seat s
  | .read seat => Sys2Proof.Machine.execRead seat s
  | .demandHoldExpiry ch seat => Sys2Proof.Machine.execDemandHoldExpiry ch seat s
  | .flushPoint seat => Sys2Proof.Machine.execFlushPoint seat s
  | .flushSeat seat => Sys2Proof.Machine.execFlushSeat seat s
  | .flushAll seat => Sys2Proof.Machine.execFlushAll seat s
  | .dirRead seat => Sys2Proof.Machine.execDirRead seat s
  | .dirWrite seat => Sys2Proof.Machine.execDirWrite seat s
  | .dirPortGrant => Sys2Proof.Machine.execDirPortGrant s
  | .configRead seat => Sys2Proof.Machine.execConfigRead seat s
  | .configWriteRankTable seat => Sys2Proof.Machine.execConfigWriteRankTable seat s
  | .configWriteRoot seat => Sys2Proof.Machine.execConfigWriteRoot seat s
  | .configWriteWindow seat => Sys2Proof.Machine.execConfigWriteWindow seat s
  | .configWriteRosterEntry seat => Sys2Proof.Machine.execConfigWriteRosterEntry seat s
  | .configWriteOrphanLimit seat => Sys2Proof.Machine.execConfigWriteOrphanLimit seat s
  | .configWriteEventMask seat => Sys2Proof.Machine.execConfigWriteEventMask seat s
  | .configWriteStaticLimits seat => Sys2Proof.Machine.execConfigWriteStaticLimits seat s
  | .configWriteFallback seat => Sys2Proof.Machine.execConfigWriteFallback seat s
  | .configWriteDefaultHold seat => Sys2Proof.Machine.execConfigWriteDefaultHold seat s
  | .configWriteOutputPolarity seat => Sys2Proof.Machine.execConfigWriteOutputPolarity seat s
  | .configWriteMinimumTimes seat => Sys2Proof.Machine.execConfigWriteMinimumTimes seat s
  | .configWritePeriod seat => Sys2Proof.Machine.execConfigWritePeriod seat s
  | .configWritePair seat => Sys2Proof.Machine.execConfigWritePair seat s
  | .pairForm seat => Sys2Proof.Machine.execPairForm seat s
  | .pairDissolve seat => Sys2Proof.Machine.execPairDissolve seat s
  | .configWriteShutoff seat => Sys2Proof.Machine.execConfigWriteShutoff seat s
  | .configWriteSensorSettings seat => Sys2Proof.Machine.execConfigWriteSensorSettings seat s
  | .configWriteReference seat => Sys2Proof.Machine.execConfigWriteReference seat s
  | .configWriteBreakpoint seat => Sys2Proof.Machine.execConfigWriteBreakpoint seat s
  | .configWriteScanRange seat => Sys2Proof.Machine.execConfigWriteScanRange seat s
  | .configWriteScanMode seat => Sys2Proof.Machine.execConfigWriteScanMode seat s
  | .configWritePulseSettings seat => Sys2Proof.Machine.execConfigWritePulseSettings seat s
  | .configWriteCircuitSensors seat => Sys2Proof.Machine.execConfigWriteCircuitSensors seat s
  | .configWriteCircuitOutputs seat => Sys2Proof.Machine.execConfigWriteCircuitOutputs seat s
  | .configWriteCircuitFlow seat => Sys2Proof.Machine.execConfigWriteCircuitFlow seat s
  | .configWriteCircuitThresholds seat => Sys2Proof.Machine.execConfigWriteCircuitThresholds seat s
  | .configWriteCircuitTimes seat => Sys2Proof.Machine.execConfigWriteCircuitTimes seat s
  | .configWriteOther seat => Sys2Proof.Machine.execConfigWriteOther seat s
  | .openDirectory seat => Sys2Proof.Machine.execOpenDirectory seat s
  | .closeDirectory seat => Sys2Proof.Machine.execCloseDirectory seat s
  | .scanStart seat => Sys2Proof.Machine.execScanStart seat s
  | .scanSingle seat => Sys2Proof.Machine.execScanSingle seat s
  | .scanStop seat => Sys2Proof.Machine.execScanStop seat s
  | .referencePhaseEnd count => Sys2Proof.Machine.execReferencePhaseEnd count s
  | .sensorPhaseEnd count => Sys2Proof.Machine.execSensorPhaseEnd count s
  | .pulseRisingEdge ch us => Sys2Proof.Machine.execPulseRisingEdge ch us s
  | .pulseTimeoutExpiry ch => Sys2Proof.Machine.execPulseTimeoutExpiry ch s
  | .flowGraceExpiry circuit => Sys2Proof.Machine.execFlowGraceExpiry circuit s
  | .tripDwellExpiry circuit => Sys2Proof.Machine.execTripDwellExpiry circuit s
  | .circuitEnable seat => Sys2Proof.Machine.execCircuitEnable seat s
  | .circuitDisable seat => Sys2Proof.Machine.execCircuitDisable seat s
  | .releaseLockout seat => Sys2Proof.Machine.execReleaseLockout seat s
  | .periodEnd group => Sys2Proof.Machine.execPeriodEnd group s
  | .pairPermilleStep pair => Sys2Proof.Machine.execPairPermilleStep pair s
  | .overdriveEnd pair => Sys2Proof.Machine.execOverdriveEnd pair s
  | .syncEnd pair => Sys2Proof.Machine.execSyncEnd pair s
  | .deadTimeExpiry pair => Sys2Proof.Machine.execDeadTimeExpiry pair s
  | .safeEndExpiry pair => Sys2Proof.Machine.execSafeEndExpiry pair s
  | .unsyncedSafeDriveEnd pair => Sys2Proof.Machine.execUnsyncedSafeDriveEnd pair s
  | .discreteMinimumReached d => Sys2Proof.Machine.execDiscreteMinimumReached d s
  | .emergencyInAssert => Sys2Proof.Machine.execEmergencyInAssert s
  | .emergencyInDeassert => Sys2Proof.Machine.execEmergencyInDeassert s
  | .rearm seat => Sys2Proof.Machine.execRearm seat s
  | .events seat => Sys2Proof.Machine.execEvents seat s
  | .clear seat => Sys2Proof.Machine.execClear seat s
  | .reinstate seat => Sys2Proof.Machine.execReinstate seat s
  | .orphanTimerExpiry => Sys2Proof.Machine.execOrphanTimerExpiry s
  | .replyTransmit => Sys2Proof.Machine.execReplyTransmit s
  | .replyReadbackAbandon => Sys2Proof.Machine.execReplyReadbackAbandon s
  | .serviceReplyTransmit => Sys2Proof.Machine.execServiceReplyTransmit s
  | .walkGrant => Sys2Proof.Machine.execWalkGrant s
  | .walkZoneRead => Sys2Proof.Machine.execWalkZoneRead s
  | .walkGroupRead => Sys2Proof.Machine.execWalkGroupRead s
  | .walkPointRead => Sys2Proof.Machine.execWalkPointRead s
  | .walkLinkTargetRead => Sys2Proof.Machine.execWalkLinkTargetRead s
  | .walkMarkWrite => Sys2Proof.Machine.execWalkMarkWrite s
  | .restart seat => Sys2Proof.Machine.execRestart seat s
  | .restartTake => Sys2Proof.Machine.execRestartTake s
  | .restartIn => Sys2Proof.Machine.execRestartIn s
  | .powerOnReset straps => Sys2Proof.Machine.execPowerOnReset straps s
  | .frameReceptionCutShort words => Sys2Proof.Machine.execFrameReceptionCutShort words s
  | .replySentWhole link => Sys2Proof.Machine.execReplySentWhole link s

end Sys2Proof.Machine
end

