-- ==== Sys2Proof/Machine/Tick.lean ====
section
/-! DEFINITION. Time: what 10 ms do to the counters of every block, and which expiry is then due. No row of the
opcode table is a tick; `step` takes one where no command waits and no expiry is due (assumption 2). -/

namespace Sys2Proof.Machine

/-- R4: one tick of the hold time base. -/
def Record.tick (r : Record) : Record :=
  { r with slots := Bank.fill fun q => (r.slot q).map Slot.tick }

/-- R4: the hold time base ticks at every tenth 10 ms tick. -/
def Cmdt.tick (c : Cmdt) : Cmdt :=
  if c.holdPhase + 1 < 10 then { c with holdPhase := c.holdPhase + 1 }
  else { c with holdPhase := 0, records := Bank.fill fun ch => (c.records.read ch).tick }

/-- R129: one tick of a discrete channel's time in state. -/
def Discrete.tick (d : Discrete) : Discrete := { d with time := min 60000 (d.time + 1) }

/-- R122, R123, R129: one tick of the ODU time base. -/
def Odu.tick (o : Odu) : Odu :=
  { o with
    pairs := Bank.fill fun k => (o.pairs.read k).change PairRun.tick
    discretes := Bank.fill fun d => (o.discretes.read d).tick }

/-- R154: the timer counts while the cause does not hold. -/
def Orphan.tick (o : Orphan) : Orphan := if o.holds then o else { o with count := o.count + 1 }

/-- R116, R117: the period ends of the three groups: every period is shorter than 10 ms. -/
def State.endPeriods (s : State) : State := ((s.endPeriod 0).endPeriod 1).endPeriod 2

/-- R4, R88, R98, R122, R129, R154: one tick of every time base. -/
def State.tick (s : State) : State :=
  State.endPeriods
    { s with
      cmdt := s.cmdt.tick
      piu := { s.piu with channels := Bank.fill fun n => (s.piu.channels.read n).tick }
      circuits := Bank.fill fun n => (s.circuit n).tick
      odu := s.odu.tick
      lbi := { s.lbi with orphan := s.lbi.orphan.tick } }

/-- The first unit of `l` that satisfies `p`, as the command that `f` makes of it. -/
def firstDue {α : Type} (l : List α) (p : α → Bool) (f : α → Instr) : Option Instr := (l.find? p).map f

/-- R4: a slot of a seat has run out. -/
def State.holdDue (s : State) (c : OutCh) (seat : Seat) : Bool :=
  !s.odu.oddMember c && ((s.record c).slot seat).any Slot.expired

/-- A formed pair satisfies `p`. -/
def State.pairDue (s : State) (p : PairRun → Bool) (k : PairNo) : Bool := (s.odu.pairs.read k).run.any p

/-- The time of the state has run out. -/
def PairRun.ranOut (p : PairRun) : Bool := p.left == 0

/-- The expiry that time has made due, in a fixed order: the unit order, and within it the order of the table. -/
def State.dueExpiry (s : State) : Option Instr :=
  ((List.finRange 32).findSome? fun c =>
    firstDue (List.finRange 4) (s.holdDue c) fun seat => .demandHoldExpiry c seat) <|>
  firstDue (List.finRange 8) (fun n => (s.piu.channels.read n).timedOut) .pulseTimeoutExpiry <|>
  firstDue (List.finRange 4) (fun n => (s.circuit n).enabled && (s.circuit n).graceLeft == some 0) .flowGraceExpiry <|>
  firstDue (List.finRange 4) (fun n => (s.circuit n).stage == .level .trip && (s.circuit n).dwellLeft == some 0)
    .tripDwellExpiry <|>
  firstDue (List.finRange 12) (s.pairDue PairRun.permilleDue) .pairPermilleStep <|>
  firstDue (List.finRange 12) (s.pairDue fun p => p.overdriveDone && p.ranOut) .overdriveEnd <|>
  firstDue (List.finRange 12) (s.pairDue fun p => p.syncDone && p.ranOut) .syncEnd <|>
  firstDue (List.finRange 12) (s.pairDue fun p => p.deadLeft == some 0) .deadTimeExpiry <|>
  firstDue (List.finRange 12) (s.pairDue fun p => p.safeEndDone && p.ranOut) .safeEndExpiry <|>
  firstDue (List.finRange 12) (s.pairDue fun p => p.unsyncedDriveDone && p.ranOut) .unsyncedSafeDriveEnd <|>
  firstDue (List.finRange 8) s.minimumDue .discreteMinimumReached <|>
  (if s.lbi.orphan.expired then some .orphanTimerExpiry else none)

end Sys2Proof.Machine
end

