-- ==== Sys2Proof/Machine/Idle.lean ====
section
/-! DEFINITION. What a step does when no command waits (assumption 2). -/

namespace Sys2Proof.Machine

/-- With no command waiting, the expiry that time has made due is taken; where none is due, 10 ms pass
(assumption 2). -/
def State.idle (s : State) : Host.Outcome State Fault Refusal :=
  match s.dueExpiry with
  | some i => exec i s
  | none => .next s.tick

end Sys2Proof.Machine
end

