-- ==== Sys2Proof/Safety.lean ====
section
/-! DEFINITION. What holds of the part at every moment, in the terms the statements use: invariants that every step is
to keep, from whatever state they hold in. -/

namespace Sys2Proof.Machine

/-! ### Requests in service -/

/-- The seat's handler has taken a request of kind `k`, which is not yet executed. -/
def State.serves (s : State) (seat : Seat) (k : Kind) (r : Request) : Prop := s.taken seat = some r ∧ r.kind = some k

/-- The seat's handler has taken a CONFIG_WRITE that names item `i`. -/
def State.servesWrite (s : State) (seat : Seat) (i : Item) (r : Request) : Prop :=
  s.serves seat .configWrite r ∧ r.item = some i

/-- The transmitter that sends a seat's replies (R150). -/
def State.transmitterOf (s : State) (seat : Seat) : Transmitter := if seat = serviceSeat then s.lbi.port else s.lbi.bus

/-- A flag of a seat's set. -/
def State.flag (s : State) (seat : Seat) (f : Flag) : FlagState := (s.evu.flags.read seat).read f.bit

/-- The translation word (11.3) of a source (1 and 2 for the windows, 3 for the cache, 4 for the walk). -/
def translationWord (source : Nat) (link : Bool) (ch : Fin 64) : Word :=
  BitVec.ofNat 16 (source * 8192 + (if link then 4096 else 0) + ch.val)

/-! ### Demands placed and withdrawn -/

/-- R3, R4, R148: the demand a SET places in the record of a channel, its value and hold clamped. -/
def setDemand (s : State) (c : OutCh) (seat : Seat) (r : Request) : Slot where
  value := min (r.word 1).toNat 1000
  hold :=
    let h := (r.word 2).toNat
    if h = 0 then .counted (10 * (s.record c).defaultHold)
    else if h = 65535 ∧ seat = serviceSeat then .untilReleased
    else .counted (10 * min h 600)

/-- R148: DONE, or CLAMPED where the value or the hold was cut. -/
def setCode (seat : Seat) (r : Request) : Code :=
  let h := (r.word 2).toNat
  if (r.word 1).toNat ≤ 1000 ∧ (h ≤ 600 ∨ (h = 65535 ∧ seat = serviceSeat)) then .done else .clamped

/-- The command table has changed in the record of channel `c` alone, and nothing beside it but the outputs. -/
def onlyRecord (s t : State) (c : OutCh) : Prop :=
  (∀ c', c' ≠ c → t.record c' = s.record c') ∧
    t = { s with cmdt := { s.cmdt with records := t.cmdt.records }, odu := t.odu }

/-- R9, R13, R15: from `s` to `t` the slot of a seat in the record of channel `c` has become `d`, the record has been
judged, and the outputs have been handed what changed. -/
def slotJudged (s t : State) (c : OutCh) (seat : Seat) (d : Option Slot) : Prop :=
  let judged (rec : Record) : Record := s.judgeRecord { rec with slots := rec.slots.write seat d }
  t.record c = judged (s.record c) ∧ t = s.withRecords fun c' rec => if c' = c then judged rec else rec

/-- R3, R9: from `s` to `t` the demand of a SET has been placed and its record judged; every other slot stays. -/
def demandPlaced (s t : State) (c : OutCh) (seat : Seat) (r : Request) : Prop :=
  slotJudged s t c seat (some (setDemand s c seat r)) ∧ (t.record c).slot seat = some (setDemand s c seat r) ∧
    (∀ q, q ≠ seat → (t.record c).slot q = (s.record c).slot q) ∧
    (t.record c).winner = chooseWinner s.cmdt.ranks s.standing (t.record c) ∧
    (t.record c).effective = (t.record c).bound.apply (t.record c).limited ∧ onlyRecord s t c

/-- R6, R9: from `s` to `t` the seat's own slot has gone, if there was one, its record being judged; every other slot
stays. -/
def demandWithdrawn (s t : State) (c : OutCh) (seat : Seat) : Prop :=
  (∀ q, (t.record c).slot q = if q = seat then none else (s.record c).slot q) ∧
    ((s.record c).slot seat = none → t = s) ∧
    ((s.record c).slot seat ≠ none →
      slotJudged s t c seat none ∧
      (t.record c).winner = chooseWinner s.cmdt.ranks s.standing (t.record c) ∧
      (t.record c).effective = (t.record c).bound.apply (t.record c).limited) ∧
    onlyRecord s t c

/-- The payload of a placed SET and of a RELEASE (11.2): the translation, and the effective command and the winner that
result. -/
def commandWords (t : State) (c : OutCh) (translation : Word) : List Word :=
  [translation, natWord (t.record c).effective, winnerWord (t.record c)]

/-- R45: the channel is an input, or the odd member of a formed pair. -/
def State.noTarget (s : State) (ch : Fin 64) : Prop :=
  32 ≤ ch.val ∨ ∃ c : OutCh, ch.val = c.val ∧ s.odu.oddMember c = true

/-! ### The scan -/

/-- R78: `c` is the lowest enabled channel of the scan range from channel `lo` on. -/
def Smu.lowestEnabled (m : Smu) (lo : Nat) (c : SensorCh) : Prop :=
  let inRange (d : SensorCh) : Prop := lo ≤ d.val ∧ m.rangeStart ≤ d ∧ d ≤ m.rangeEnd
  inRange c ∧ (m.settings.read c).enabled = true ∧ ∀ d, inRange d → d < c → (m.settings.read d).enabled = false

/-- R78: no channel of the scan range from channel `lo` on is enabled. -/
def Smu.noneEnabled (m : Smu) (lo : Nat) : Prop :=
  ∀ d : SensorCh, lo ≤ d.val → m.rangeStart ≤ d → d ≤ m.rangeEnd → (m.settings.read d).enabled = false

/-- R66: the scan runs in a mode, and a conversion of channel `c` has begun, latching its settings and its count of
cycles. -/
def Smu.converting (m : Smu) (mode : ScanMode) (c : SensorCh) : Smu :=
  let g := m.settings.read c
  { m with
    running := some mode
    conversion := some
      { channel := c, reference := g.reference, table := g.table, shift := g.shift,
        cycles := m.cycles.read g.reference, phase := .reference } }

/-- R78: from `m` to `t` a pass has begun in a mode: with the lowest enabled channel of the range, or, where there is
none, without a conversion, a SINGLE scan being stopped. -/
def Smu.passBegun (m t : Smu) (mode : ScanMode) : Prop :=
  (∀ c, m.lowestEnabled 0 c → t = m.converting mode c) ∧
    (m.noneEnabled 0 → t = { m with
      running := if mode = .continuous then some .continuous else none, conversion := none })

/-- R78: from `m` to `t` a scan that runs in a mode has chosen after the conversion of channel `c`: the next enabled
channel of the range; with none left a CONTINUOUS scan begins a new pass and a SINGLE one stops. -/
def Smu.chosenAfter (m t : Smu) (mode : ScanMode) (c : SensorCh) : Prop :=
  (∀ d, m.lowestEnabled (c.val + 1) d → t = m.converting mode d) ∧
    (m.noneEnabled (c.val + 1) → (mode = .continuous → m.passBegun t .continuous) ∧
      (mode = .single → t = { m with running := none, conversion := none }))

/-! ### Floating pairs -/

/-- R122, R123: a drive in direction `d` has been released: the dead time starts, the direction is recorded and the
accumulator's remainder is gone. -/
def PairRun.afterRelease (q : Pair) (d : Dir) (p : PairRun) : PairRun :=
  { p with lastReleased := some d, deadLeft := some (q.deadTime / 10), accumulator := 0 }

/-- R122, R124, R128: `p'` is pair `p` after its target is judged: IDLE within the deadband; beyond it a move toward the
target, or the sync of an UNSYNCED pair, where no dead time runs or the drive is the one released last, and else
WAITING. -/
def PairRun.judgedAs (q : Pair) (p p' : PairRun) : Prop :=
  let off := max p.target p.estimate - min p.target p.estimate
  let d : Dir := if p.unsynced = true ∨ p.target < p.estimate then .closing else .opening
  let free := p.deadLeft = none ∨ p.lastReleased = some d
  (off ≤ q.deadband → p' = { p with state := .idle }) ∧
  (q.deadband < off → ¬free → p' = { p with state := .waiting }) ∧
  (q.deadband < off → free → p.unsynced = true →
    p' = { p with state := .syncing, left := 110 * q.stroke, stroke := q.stroke }) ∧
  (q.deadband < off → free → p.unsynced = false →
    p' = { p with state := .moving d, accumulator := 0, stroke := q.stroke })

/-- R139: from `p` to `p'` the drive in the safe direction `d` has been asserted (assumption 29). -/
def PairRun.safeAsserted (q : Pair) (d : Dir) (p p' : PairRun) : Prop :=
  let limit : Nat := match d with | .opening => 1000 | .closing => 0
  (p.unsynced = true →
    p' = { p with state := .safeDriving d, left := 110 * q.stroke, stroke := q.stroke, accumulator := 0 }) ∧
  (p.unsynced = false → p.estimate = limit →
    p' = { p with state := .safeEnd d, left := 10 * q.stroke, stroke := q.stroke, accumulator := 0 }) ∧
  (p.unsynced = false → p.estimate ≠ limit →
    p' = { p with state := .safeDriving d, stroke := q.stroke, accumulator := 0 })

/-- R139: from `p` to `p'` a formed pair has taken its pair safe action. STOP releases an asserted drive. A drive that
is asserted in the safe direction goes on as the safe drive; one in the other direction is released, and the safe drive
waits for the dead time; with none asserted it starts where the dead time allows and else waits. -/
def PairRun.safeTaken (q : Pair) (a : PairAction) (p p' : PairRun) : Prop :=
  (a = .stop →
    (p.state.drive = none → p' = { p with state := .safeRest }) ∧
    ∀ d, p.state.drive = some d → p' = { (p.afterRelease q d) with state := .safeRest }) ∧
  ∀ d, a = .drive d →
    (p.state.drive = some d → p.safeAsserted q d p') ∧
    (∀ d', p.state.drive = some d' → d' ≠ d → p' = { (p.afterRelease q d') with state := .safeWaiting d }) ∧
    (p.state.drive = none →
      ((p.deadLeft = none ∨ p.lastReleased = some d) → p.safeAsserted q d p') ∧
      (¬(p.deadLeft = none ∨ p.lastReleased = some d) → p' = { p with state := .safeWaiting d }))

/-! ### Shutting off -/

/-- R137: the level a struck modulated channel's pin takes by its line safe action, where the period counter of its
group stands at `place`. -/
def struckLevel (x : Modulated) (a : LineAction) (place : Nat) : Bool :=
  match a with
  | .low => false
  | .high => true
  | .hold => x.forced.getD (levelAt x.activePolarity (decide (place < x.compare)))

/-- R138: a discrete channel with the state of its line safe action; where that is a change, its time in state starts
again. -/
def struckDiscrete (x : Discrete) (a : LineAction) : Discrete :=
  let on := match a with | .low => false | .high => true | .hold => x.on
  if on = x.on then x else { x with on := on, time := 0 }

/-- R137, R138, R139: the outputs `o` are those of `s` after the channels that `struck` names, one of them at least,
have taken the safe actions of their shutoff records. Every other channel and pair stays, and so do the periods. Where
the period counters stand at that moment is free (assumption 4). -/
def outputsStruck (s : State) (o : Odu) (struck : OutCh → Prop) : Prop :=
  (∃ place : GroupNo → Nat,
    (∀ g, (0 < (s.odu.groups.read g).period → place g < (s.odu.groups.read g).period) ∧
      o.groups.read g = { s.odu.groups.read g with counter := place g }) ∧
    ∀ (m : ModCh) (g : GroupNo), g.val = m.val / 8 → struck (modCh m) → s.odu.member (modCh m) = false →
      let x := s.odu.mods.read m
      let level := struckLevel x (s.shutoff (modCh m)).line (place g)
      o.mods.read m = { x with forced := some level } ∧ State.pinLevel { s with odu := o } m = level) ∧
  (∀ m : ModCh, ¬struck (modCh m) ∨ s.odu.member (modCh m) = true → o.mods.read m = s.odu.mods.read m) ∧
  (∀ d : DiscCh, let x := s.odu.discretes.read d
    (struck (discCh d) → o.discretes.read d = struckDiscrete x (s.shutoff (discCh d)).line) ∧
    (¬struck (discCh d) → o.discretes.read d = x)) ∧
  ∀ k : PairNo, let q := s.odu.pairs.read k
    (struck (evenCh k) → ∀ p, q.run = some p → ∃ p', o.pairs.read k = { q with run := some p' } ∧
      PairRun.safeTaken q (s.shutoff (evenCh k)).pair p p') ∧
    (¬struck (evenCh k) ∨ q.run = none → o.pairs.read k = q)

/-- R136 to R139: from `s` to `t` the channels that `struck` names have been shut off: their latches are set, their
outputs are at their safe actions, and SHUTOFF is raised in all four sets; nothing else changes. Where it names none,
nothing does. -/
def shutDown (s t : State) (struck : OutCh → Prop) : Prop :=
  ((∀ c, ¬struck c) → t = s) ∧
  ((∃ c, struck c) →
    outputsStruck s t.odu struck ∧
    (∀ c, (t.shutOff c = true ↔ s.shutOff c = true ∨ struck c) ∧
      t.shutoff c = { s.shutoff c with latched := t.shutOff c }) ∧
    t = { s with
      odu := t.odu, shu := { s.shu with records := t.shu.records }, evu := s.evu.raiseAll .shutoff
      moment := t.moment })

/-! ### The freeze guard -/

/-- R107, R108: the bound that a circuit with bounds `b` hands the record of channel `c` in a role. -/
def boundFor (b : Bounds) (role : Role) (c : OutCh) : Bound :=
  match role with
  | .none => .none
  | .fan => (b.fanCeiling.map Bound.ceiling).getD .none
  | .bypass => (b.bypassFloor.map Bound.floor).getD .none
  | .pump => ((if 24 ≤ c.val then b.discretePump else b.modulatedPump).map Bound.floor).getD .none

/-- R108, R109, R110: circuit `n` has become `now`, taking the part from `s` to `t`. Its flag is raised exactly where
its stage changed; where its frost trip begins, each driving channel of its records whose mask names FROST_TRIP is shut
off, with SHUTOFF raised where there is one; and each bound that changed is handed to the records of its channels,
which recompute and hand their outputs what changed. The shut-offs come before the hand-over (assumption 9). -/
def circuitChanged (s t : State) (n : CircuitNo) (now : Circuit) : Prop :=
  let was := s.circuit n
  let inTrip (c : Circuit) : Prop := c.stage = .level .trip ∨ c.stage = .lockout
  let ofCircuit (c : OutCh) : Prop := s.odu.oddMember c = false ∧ (s.record c).circuit = some n
  let handed (b : Bounds) (c : OutCh) : Bound := boundFor b (s.record c).role c
  let reached (c : OutCh) : Prop := ofCircuit c ∧ handed was.bounds c ≠ handed now.bounds c
  let caught (c : OutCh) : Prop := ofCircuit c ∧ (s.shutoff c).mask.frostTrip = true ∧ s.shutOff c = false ∧
    ¬inTrip was ∧ inTrip now
  (∃ u : State, shutDown { s with
        circuits := s.circuits.write n now
        evu := if now.stage = was.stage then s.evu else s.evu.raiseAll (.stage n) } u caught ∧
      t = u.withRecords fun c rec =>
        if rec.circuit = some n ∧ boundFor was.bounds rec.role c ≠ boundFor now.bounds rec.role c then
          { rec with
            bound := boundFor now.bounds rec.role c
            effective := (boundFor now.bounds rec.role c).apply rec.limited }
        else rec) ∧
    t.circuits = s.circuits.write n now ∧
    (∀ c, (t.shutOff c = true ↔ s.shutOff c = true ∨ caught c) ∧
      t.shutoff c = { s.shutoff c with latched := t.shutOff c }) ∧
    (∀ c, (reached c → t.record c = { s.record c with
        bound := handed now.bounds c, effective := (handed now.bounds c).apply (s.record c).limited }) ∧
      (¬reached c → t.record c = s.record c)) ∧
    (∀ q f, ((f = .stage n ∧ now.stage ≠ was.stage ∨ f = .shutoff ∧ ∃ c, caught c) → t.flag q f = .fresh) ∧
      (¬(f = .stage n ∧ now.stage ≠ was.stage ∨ f = .shutoff ∧ ∃ c, caught c) → t.flag q f = s.flag q f)) ∧
    t.cmdt.ranks = s.cmdt.ranks ∧ t.pdir = s.pdir ∧ t.pcache = s.pcache ∧ t.smu = s.smu ∧ t.piu = s.piu ∧ t.lbi = s.lbi

/-! ### Walks -/

/-- R36, R54, R55, R61: what the cache takes from the end of walk `w`: a translation is loaded, as global only where G
is set and neither write-guard nor S is; a no-load mark, or a failed walk, loads nothing; and where a re-walk loads
nothing, every entry that matches its seat and point goes. -/
def cacheTakes (c d : Pcache) (w : Walk) (o : WalkOutcome) : Prop :=
  (∀ f, o = .found f → w.noLoad = false →
    d = c.load
      { seat := w.seat, global := f.global && !f.guarded && !f.serviceOnly, point := w.point, channel := f.channel,
        guarded := f.guarded, driven := f.driven, link := f.link }) ∧
  (((∀ f, o ≠ .found f) ∨ w.noLoad = true) →
    (w.rewalk = false → d = c) ∧
    (w.rewalk = true → d.windows = c.windows ∧ ∀ i, (d.sets.read i).victim = (c.sets.read i).victim ∧
      ∀ way, (d.sets.read i).ways.read way = ((c.sets.read i).ways.read way).filter fun e =>
        !(i == cacheSetOf w.point && e.point == w.point && (e.seat == w.seat || e.global))))

/-- R36, R45: the request of the walk's seat has been served with the walk's translation `f`, from `u` to `t`, and the
arbiter has turned to the next waiting seat. -/
def walkServes (u t : State) (w : Walk) (f : Found) (r : Request) : Prop :=
  let word := translationWord 4 f.link f.channel
  let answered (v : State) (c : Code) (payload : List Word) : Prop := t = (v.answer w.seat r c payload).settleArbiter
  (w.access = .read → answered u .done (word :: u.view w.seat f.channel)) ∧
  (w.access ≠ .read → u.noTarget f.channel → answered u .badTarget [word]) ∧
  ∀ c : OutCh, f.channel.val = c.val → u.odu.oddMember c = false →
    (w.access = .set → u.standing w.seat = .barred → answered u .barred []) ∧
    (w.access = .set → u.standing w.seat ≠ .barred → ∃ v, demandPlaced u v c w.seat r ∧
      answered v (setCode w.seat r) (commandWords v c word)) ∧
    (w.access = .release → ∃ v, demandWithdrawn u v c w.seat ∧ answered v .done (commandWords v c word))

/-- R36: walk `w` of a request in service has ended with `o`, taking the part from `s` to `t`, its last access having
left the directory as `p`. The walker is free, the cache takes the result, a directory fault raises DIRFAULT in all
four sets, the request is served with the translation or answered with the outcome, and the arbiter turns to the next
waiting seat. -/
def walkEnded (s t : State) (p : Pdir) (w : Walk) (o : WalkOutcome) : Prop :=
  ∀ i, s.lbi.service.read w.seat = some i → ∃ u : State,
    u = { s with
      pdir := { p with walk := none }, pcache := u.pcache
      evu := if o = .dirFault then s.evu.raiseAll .dirFault else s.evu } ∧
    cacheTakes s.pcache u.pcache w o ∧
    (match o with
    | .found f => walkServes u t w f i.request
    | .guarded => t = (u.answer w.seat i.request .guarded []).settleArbiter
    | .maintOnly => t = (u.answer w.seat i.request .maintOnly []).settleArbiter
    | .absent => t = (u.answer w.seat i.request .absent []).settleArbiter
    | .dirFault => t = (u.answer w.seat i.request .dirFault []).settleArbiter)

/-- R26, R40, R43: a walk's locked read of `word` at `addr`, the walk's marks leaving `left` there, has taken the part
from `s` to `t`. Where the word needs no mark the walk goes on to `next` at once. Else the word is locked until its
mark write; the walk is then no-load if it was, or if a seat's DIR_WRITE of the word waits (the latter is the model's
reading, assumption 19). -/
def walkedOn (s t : State) (w : Walk) (addr : DirAddr) (word left : DirWord) (next : WalkNext) : Prop :=
  let read : Walk := { w with guarded := w.guarded || descGuarded word, readWords := addr :: w.readWords }
  let granted : Pdir := { s.pdir with lastSide := .walker }
  let at_ (w : Walk) (step : WalkStep) : Prop := t = { s with pdir := { granted with walk := some { w with step := step } } }
  (left = word →
    match next with
    | .toGroup b => at_ read (.group b)
    | .toPoint b => at_ read (.point b)
    | .toLink b => at_ read (.link b)
    | .finish o => walkEnded s t granted read o) ∧
  (left ≠ word → ∃ n : Bool, at_ { read with noLoad := n } (.mark addr left next) ∧
    (n = true ↔ w.noLoad = true ∨ ∃ q r d, s.lbi.service.read q =
      some { request := r, progress := .awaitingPort addr (some d) }))

/-! ### Time -/

/-- R122, R123, R139: what 10 ms do to a formed pair: a running dead time and the time of a counted state are one step
shorter, and the accumulator of a move, or of a synced pair's safe drive, gains 10 ms. -/
def PairRun.ticked (p : PairRun) : PairRun :=
  let drives : Bool := match p.state with
    | .moving _ => true
    | .safeDriving _ => !p.unsynced
    | .idle | .waiting | .overdrive _ | .syncing | .safeWaiting _ | .safeEnd _ | .safeRest => false
  let counted : Bool := match p.state with
    | .overdrive _ | .syncing | .safeEnd _ => true
    | .safeDriving _ => p.unsynced
    | .idle | .waiting | .moving _ | .safeWaiting _ | .safeRest => false
  { p with
    deadLeft := p.deadLeft.map fun n => n - 1
    accumulator := if drives then p.accumulator + 10 else p.accumulator
    left := if counted then p.left - 1 else p.left }

/-- R4, R87, R88, R98, R122, R123, R129, R139, R154: from `s` to `t` the time bases have gone on by 10 ms, and nothing
else. At a tenth of a second every counted hold has lost a step. A counter of a pulse channel that times has gained
what the tick's edges have not told of yet (assumption 7). -/
def State.ticked (s t : State) : Prop :=
  t = { s with
    cmdt := t.cmdt, piu := { s.piu with channels := t.piu.channels }, circuits := t.circuits
    odu := { s.odu with pairs := t.odu.pairs, discretes := t.odu.discretes }
    lbi := { s.lbi with orphan := t.lbi.orphan } } ∧
  (s.cmdt.holdPhase < 9 → t.cmdt = { s.cmdt with holdPhase := s.cmdt.holdPhase + 1 }) ∧
  (9 ≤ s.cmdt.holdPhase →
    t.cmdt = { s.cmdt with holdPhase := 0, records := t.cmdt.records } ∧
    ∀ c, t.record c = { s.record c with slots := (t.record c).slots } ∧
      ∀ q, (t.record c).slot q = match (s.record c).slot q with
        | some { value := v, hold := .counted n } => some { value := v, hold := .counted (n - 1) }
        | d => d) ∧
  (∀ n, let x := s.piu.channels.read n
    t.piu.channels.read n = { x with
      counter := if x.timing = true then min 1048575 (x.counter + (10000 - x.sinceTick)) else x.counter
      sinceTick := 0
      age := x.age.map fun a => min 65535 (a + 1) }) ∧
  (∀ n, t.circuit n = { s.circuit n with
    graceLeft := (s.circuit n).graceLeft.map fun left => left - 1
    dwellLeft := (s.circuit n).dwellLeft.map fun left => left - 1 }) ∧
  (∀ k, t.odu.pairs.read k = { s.odu.pairs.read k with run := (s.odu.pairs.read k).run.map PairRun.ticked }) ∧
  (∀ d, t.odu.discretes.read d = { s.odu.discretes.read d with time := min 60000 ((s.odu.discretes.read d).time + 1) }) ∧
  t.lbi.orphan = if s.lbi.orphan.holds = true then s.lbi.orphan
    else { s.lbi.orphan with count := s.lbi.orphan.count + 1 }

/-- R4, R88, R104, R106, R122, R123, R125, R128, R130, R139, R154: the time of expiry `i` has run out in `s`. -/
def State.expires (s : State) (i : Instr) : Prop :=
  let pair (k : PairNo) (due : PairRun → Prop) : Prop := ∃ p, (s.odu.pairs.read k).run = some p ∧ due p
  (∃ c q v, i = .demandHoldExpiry c q ∧ s.odu.oddMember c = false ∧
    (s.record c).slot q = some { value := v, hold := .counted 0 }) ∨
  (∃ n a, i = .pulseTimeoutExpiry n ∧ (s.piu.channels.read n).timing = true ∧ (s.piu.channels.read n).age = some a ∧
    (s.piu.channels.read n).timeout / 10 ≤ a) ∨
  (∃ n, i = .flowGraceExpiry n ∧ (s.circuit n).stage ≠ .disabled ∧ (s.circuit n).graceLeft = some 0) ∨
  (∃ n, i = .tripDwellExpiry n ∧ (s.circuit n).stage = .level .trip ∧ (s.circuit n).dwellLeft = some 0) ∨
  (∃ k, i = .pairPermilleStep k ∧ pair k fun p => p.stroke ≤ p.accumulator ∧
    ∃ d, p.state = .moving d ∨ p.state = .safeDriving d ∧ p.unsynced = false) ∨
  (∃ k, i = .overdriveEnd k ∧ pair k fun p => p.left = 0 ∧ ∃ d, p.state = .overdrive d) ∨
  (∃ k, i = .syncEnd k ∧ pair k fun p => p.left = 0 ∧ p.state = .syncing) ∨
  (∃ k, i = .deadTimeExpiry k ∧ pair k fun p => p.deadLeft = some 0) ∨
  (∃ k, i = .safeEndExpiry k ∧ pair k fun p => p.left = 0 ∧ ∃ d, p.state = .safeEnd d) ∨
  (∃ k, i = .unsyncedSafeDriveEnd k ∧ pair k fun p => p.left = 0 ∧ p.unsynced = true ∧ ∃ d, p.state = .safeDriving d) ∨
  (∃ d, i = .discreteMinimumReached d ∧ s.shutOff (discCh d) = false ∧ (s.odu.discretes.read d).held ≠ none ∧
    let x := s.odu.discretes.read d
    100 * (if x.on = true then x.minOn else x.minOff) ≤ x.time) ∨
  (i = .orphanTimerExpiry ∧ s.lbi.orphan.holds = false ∧ 100 * s.lbi.orphan.limit ≤ s.lbi.orphan.count)

/-! ### Invariants -/

/-- R24: directory memory is in its canonical form. -/
def State.memoryCanonical (s : State) : Bool := memWf s.pdir.memory

/-- R52, R55, R56: each valid entry of the cache stands in the set of its point, no two of a set serve one seat and
point, and no global entry carries the write-guard. -/
def State.cacheUnambiguous (s : State) : Prop :=
  ∀ i way e, (s.pcache.sets.read i).ways.read way = some e →
    cacheSetOf e.point = i ∧ (e.global = true → e.guarded = false) ∧
    ∀ way' e' seat p, (s.pcache.sets.read i).ways.read way' = some e' → e.serves seat p = true →
      e'.serves seat p = true → way = way'

/-- R8: in every record but that of a formed pair's odd channel, the winner is the one the live demands, the rank table
and the standings give. -/
def State.winnersRight (s : State) : Prop :=
  ∀ c, s.odu.oddMember c = false → (s.record c).winner = chooseWinner s.cmdt.ranks s.standing (s.record c)

/-- R2: no record holds a slot of a BARRED seat. R1: the odd record of a formed pair holds no slot. -/
def State.slotsAllowed (s : State) : Prop :=
  (∀ c seat, s.standing seat = .barred → (s.record c).slot seat = none) ∧
    ∀ c seat, s.odu.oddMember c = true → (s.record c).slot seat = none

/-- R123, R128, R139: the estimate lies from 0 to 1000, and of an UNSYNCED pair it is 0; such a pair neither moves nor
overdrives. -/
def PairRun.estimateSound (p : PairRun) : Bool :=
  decide (p.estimate ≤ 1000) &&
    (!p.unsynced || p.estimate == 0 &&
      match p.state with
      | .moving _ | .overdrive _ => false
      | .idle | .waiting | .syncing | .safeWaiting _ | .safeDriving _ | .safeEnd _ | .safeRest => true)

/-- R122: while a dead time runs, an asserted drive is the one released last. -/
def PairRun.deadTimeKept (p : PairRun) : Bool :=
  match p.state.drive with
  | some d => p.mayAssert d
  | none => true

/-- R122, R123: every formed pair has a sound estimate and keeps its dead time. -/
def State.pairsSafe (s : State) : Prop :=
  ∀ k p, (s.odu.pairs.read k).run = some p → p.estimateSound = true ∧ p.deadTimeKept = true

/-- R151: no fault count exceeds 511. R146: no line holds more than four requests. -/
def State.linesBounded (s : State) : Prop :=
  (∀ b, s.lbi.faults.read b ≤ 511) ∧
    ∀ seat, ((s.lbi.lines.read seat).filter IntakeEntry.isRequest).length ≤ 4

/-- The fields of a record lie in their ranges (the table of section 1.1), and so does its effective command (R13). -/
def Record.inRange (r : Record) : Prop :=
  (∀ seat d, r.slot seat = some d → d.value ≤ 1000) ∧ r.arbitrated ≤ 1000 ∧ (∀ v, r.lastWon = some v → v ≤ 1000) ∧
    r.fallbackValue ≤ 1000 ∧ r.staticMin ≤ r.staticMax ∧ r.staticMax ≤ 1000 ∧
    (∀ v, r.bound = .ceiling v → v ≤ 1000) ∧ (∀ v, r.bound = .floor v → v ≤ 1000) ∧ r.effective ≤ 1000

/-- A set of bounds lies in range (R98). -/
def Bounds.inRange (b : Bounds) : Prop :=
  (∀ v, b.fanCeiling = some v → v ≤ 1000) ∧ (∀ v, b.bypassFloor = some v → v ≤ 1000) ∧
    (∀ v, b.modulatedPump = some v → v ≤ 1000) ∧ ∀ v, b.discretePump = some v → v ≤ 1000

/-- R13: every record is in range, and so are the bounds its circuit can hand it. -/
def State.commandsInRange (s : State) : Prop :=
  (∀ c, (s.record c).inRange) ∧ ∀ n, (s.circuit n).pumpMin ≤ 1000 ∧ (s.circuit n).bounds.inRange

/-- R13: in every record but that of a formed pair's odd channel, the effective command is the arbitrated value
within the static limits and under the guard bound last taken. -/
def State.commandsSettled (s : State) : Prop :=
  ∀ c, s.odu.oddMember c = false → (s.record c).effective = (s.record c).bound.apply (s.record c).limited

/-- R8, R10, R11: in every record but that of a formed pair's odd channel, the arbitrated value and the last-won value
are the winner's; with no winner, the arbitrated value is the fallback value, or under HOLD_LAST the last-won value if
there is one. -/
def State.valuesRight (s : State) : Prop :=
  ∀ c, s.odu.oddMember c = false → let x := s.record c
    (∀ q, x.winner = some q → ∃ d, x.slot q = some d ∧ x.arbitrated = d.value ∧ x.lastWon = some d.value) ∧
    (x.winner = none → x.arbitrated = match x.fallbackMode, x.lastWon with
      | .holdLast, some v => v
      | .holdLast, none => x.fallbackValue
      | .fixed, _ => x.fallbackValue)

/-- R13, R14, R107: every record stands under the bound that its circuit has for its role, and under none without a
circuit; the bounds of a DISABLED circuit are none; and, which this rests on, a record that names a circuit is in that
circuit's lists, and the odd record of a formed pair names none. -/
def State.boundsHanded (s : State) : Prop :=
  (∀ c, (s.record c).bound = match (s.record c).circuit with
    | some n => boundFor (s.circuit n).bounds (s.record c).role c
    | none => .none) ∧
  (∀ n, (s.circuit n).stage = .disabled → (s.circuit n).bounds = Bounds.unbounded) ∧
  ∀ c n, (s.record c).circuit = some n → s.odu.oddMember c = false ∧
    (c ∈ (s.circuit n).fans ∨ (s.circuit n).bypass = some c ∨ c ∈ (s.circuit n).pumps)

end Sys2Proof.Machine
end

