-- ==== Sys2Proof/Certificates/Slice0/Obligations.lean ====
section
/-! DEFINITION. The statements for the provers: what each command does, and what every step keeps. -/

open Sys2Proof Sys2Proof.Machine

/-! ### The queue, the tick and the power-on reset -/

/-- For every command `c` and state `s`, a step of `s` with `c` at the front of its queue is `exec c` on `s` with the
queue's rest. -/
def Obligations.QueueFrontIsTaken : Prop :=
  ∀ (c : Instr) (s : State), step { s with pending := c :: s.pending } = exec c s

/-- Every step answers a next state, whatever the command and the state: no request and no event stops the part; and no
command touches the queue of those that wait behind it. With no command waiting, the step is the meaning of an expiry
whose time has run out. Where there is none it is one tick of 10 ms: every time base goes on (R4, R87, R88, R98, R122,
R123, R129, R139, R154), each counted hold losing a step at a tenth of a second, then each group's period ends (R116),
and nothing else happens; the queue stays empty. That such a step is an expiry or a tick, which of several expiries
comes first, and that all time bases share one phase, is the model's choice (assumption 2). -/
def Obligations.EveryStepGoesOn : Prop :=
  ∀ s : State, (∃ t, step s = .next t) ∧ (∀ c t, exec c s = .next t → t.pending = s.pending) ∧
    (s.pending = [] →
      (∀ i, s.dueExpiry = some i → s.expires i ∧ step s = exec i s) ∧
      (s.dueExpiry = none → (∀ i, ¬s.expires i) ∧ step s = .next s.tick ∧ s.tick.pending = [] ∧
        ∃ u v w, s.ticked u ∧ exec (.periodEnd 0) u = .next v ∧ exec (.periodEnd 1) v = .next w ∧
          exec (.periodEnd 2) w = .next s.tick))

/-- R21, R25, R46, R63, R83, R93, R114, R131, R134, R149, R158, R165: what POWER_ON_RESET leaves in each block, for
every level of the straps. The waiting commands and the EMERGENCY_IN level stay (the model's choice, assumption 27). -/
def Obligations.PowerOnSetsEveryBlock : Prop :=
  ∀ (st : Straps) (s : State), ∃ t, exec (.powerOnReset st) s = .next t ∧
    t.pending = s.pending ∧ t.shu.emergencyIn = s.shu.emergencyIn ∧
    -- the command table (R7, R21)
    t.cmdt.ranks = ⟨#v[3, 0, 1, 2]⟩ ∧
    (∀ c : OutCh,
      let v := if st.pumpPosture = true ∧ 24 ≤ c.val ∧ c.val ≤ 27 then 1000 else 0
      (∀ seat, (t.record c).slot seat = none) ∧ (t.record c).winner = none ∧ (t.record c).lastWon = none ∧
        (t.record c).arbitrated = v ∧ (t.record c).bound = .none ∧
        (t.record c).staticMin = 0 ∧ (t.record c).staticMax = 1000 ∧ (t.record c).fallbackMode = .fixed ∧
        (t.record c).fallbackValue = v ∧ (t.record c).effective = v ∧ (t.record c).defaultHold = 10 ∧
        (t.record c).role = .none ∧ (t.record c).circuit = none) ∧
    -- the directory, its port, the windows and the cache (R25, R46, R63)
    (∀ a, memRead t.pdir.memory a = 0) ∧ (∀ seat, t.pdir.roots.read seat = { base := 0, valid := false }) ∧
    t.pdir.isOpen = false ∧ t.pdir.walk = none ∧ t.pdir.lastSide = .seats ∧ t.pdir.lastSeat = 3 ∧
    (∀ n, t.pcache.windows.read n = { enable := false, zoneBase := 0, zoneMask := 0, seats := 0, guarded := false }) ∧
    (∀ i, (t.pcache.sets.read i).victim = 0 ∧ ∀ way, (t.pcache.sets.read i).ways.read way = none) ∧
    -- measurement (R83, R93)
    t.smu.running = none ∧ t.smu.conversion = none ∧ t.smu.rangeStart = 0 ∧ t.smu.rangeEnd = 23 ∧
    t.smu.modeItem = .continuous ∧ (∀ n, t.smu.cycles.read n = 1024) ∧ (∀ n k, (t.smu.tables.read n).read k = 0) ∧
    (∀ n, t.smu.settings.read n = { enabled := false, reference := 0, table := 0, shift := 0 } ∧
      t.smu.results.read n =
        { tRef := 0, tSens := 0, ratio := 0, temp := 0, filtered := 0, validity := .notYet, badRun := 0,
          samples := 0 }) ∧
    (∀ n, (t.piu.channels.read n).enabled = false ∧ (t.piu.channels.read n).spacing = 0 ∧
      (t.piu.channels.read n).timeout = 1000 ∧ (t.piu.channels.read n).period = none ∧
      (t.piu.channels.read n).timing = false ∧ (t.piu.channels.read n).counter = 0 ∧
      (t.piu.channels.read n).age = none) ∧
    (∀ n, t.piu.proven.read n = true) ∧
    -- the freeze guard (R114)
    (∀ n, (t.circuit n).stage = .disabled ∧ (t.circuit n).guardSet = [] ∧ (t.circuit n).fans = [] ∧
      (t.circuit n).bypass = none ∧ (t.circuit n).pumps = [] ∧ (t.circuit n).flow = none ∧
      (t.circuit n).freezePoint = 0 ∧ (t.circuit n).mWatch = 300 ∧ (t.circuit n).mAct = 200 ∧
      (t.circuit n).mTrip = 100 ∧ (t.circuit n).hysteresis = 0 ∧ (t.circuit n).pumpMin = 0 ∧
      (t.circuit n).tripDwell = 600 ∧ (t.circuit n).flowGrace = 60 ∧ (t.circuit n).guardTemp = none ∧
      (t.circuit n).margin = none ∧ (t.circuit n).ceiling = none ∧ (t.circuit n).sensorCause = .none ∧
      (t.circuit n).marginStage = .clear ∧ (t.circuit n).flowStage = .clear ∧ (t.circuit n).sensorStage = .clear ∧
      (t.circuit n).proven = true ∧ (t.circuit n).graceExpired = false ∧ (t.circuit n).graceLeft = none ∧
      (t.circuit n).dwellLeft = none ∧ (t.circuit n).bounds = Bounds.unbounded) ∧
    -- the outputs and the shutoff unit (R131, R134)
    (∀ g, t.odu.groups.read g = { period := 400, buffered := none, counter := 0 }) ∧
    (∀ m, t.pinLevel m = false ∧ (t.odu.mods.read m).held = 0 ∧ (t.odu.mods.read m).compare = 0 ∧
      (t.odu.mods.read m).polarity = .activeHigh) ∧
    (∀ k, t.odu.pairs.read k = { stroke := 60, deadband := 10, deadTime := 1000, run := none }) ∧
    (∀ d : DiscCh, t.odu.discretes.read d =
      { on := st.pumpPosture && decide (d.val ≤ 3), time := 0, held := none, minOn := 0, minOff := 0 }) ∧
    (∀ c, t.shutoff c =
      { mask := { frostTrip := false, orphan := false, emergency := false }, line := .low, pair := .stop,
        latched := false }) ∧
    -- the links and the events (R145, R149, R158, R165)
    t.lbi.station = st.station ∧
    t.lbi.rate = (if st.rate1 = true then .kbit250 else if st.rate0 = true then .kbit125 else .kbit62) ∧
    (∀ b : BusSeat, (t.lbi.roster.read b).station = BitVec.ofNat 4 (b.val + 1) ∧
      ((t.lbi.roster.read b).enabled = true ↔ BitVec.ofNat 4 (b.val + 1) ≠ st.station) ∧
      (t.lbi.roster.read b).editor = false ∧ t.lbi.faults.read b = 0) ∧
    (∀ seat, t.lbi.lines.read seat = [] ∧ t.lbi.service.read seat = none ∧
      t.lbi.arbiter.waiting.read seat = false) ∧
    t.lbi.arbiter.last = 3 ∧ t.lbi.arbiter.chosen = none ∧
    t.lbi.bus = Transmitter.idle ∧ t.lbi.port = Transmitter.idle ∧
    t.lbi.orphan = { limit := 30, count := 0, holds := false } ∧
    ∀ seat, (∀ f, t.flag seat f = if f = .restart then .fresh else .clear) ∧ t.evu.masks.read seat = 0 ∧
      t.evu.attention.read seat = false

/-! ### Links, lines and answers -/

/-- R147, R150, R151, R162: answering a request. It leaves the service, and no other does; its reply goes to the end of
its seat's transmitter list, header word B carrying the result, the marker and the standing as they stand after the
outcome was applied; the other transmitter and what is on the wire stay; a count moves by the outcome, with all that a
change of standing brings, but a BARRED seat's stays and the service seat has none; and where the seat's standing stays
the same, nothing else changes. -/
def Obligations.AnswerHandsTheReply : Prop :=
  ∀ (s : State) (seat : Seat) (r : Request) (c : Code) (p : List Word),
    let t := s.answer seat r c p
    (∀ q, t.lbi.service.read q = if q = seat then none else s.lbi.service.read q) ∧
    (t.transmitterOf seat).replies = (s.transmitterOf seat).replies ++
      [{ words := replyHeaderA s.lbi.station r.header p.length ::
           replyHeaderB c (t.evu.marker seat) (t.standing seat) :: p, restart := false }] ∧
    t.lbi.bus.sending = s.lbi.bus.sending ∧ t.lbi.port.sending = s.lbi.port.sending ∧
    (seat = serviceSeat → t.lbi.bus = s.lbi.bus ∧ t.lbi.faults = s.lbi.faults) ∧
    (seat ≠ serviceSeat → t.lbi.port = s.lbi.port) ∧
    (∀ b : BusSeat, t.lbi.faults.read b =
      if seatOf b = seat ∧ s.standing seat ≠ .barred then countAfter (s.lbi.faults.read b) c else s.lbi.faults.read b) ∧
    (t.pending = s.pending ∧ t.pdir = s.pdir ∧ t.pcache = s.pcache ∧ t.smu = s.smu ∧ t.piu = s.piu ∧
      t.circuits = s.circuits ∧ t.shu = s.shu ∧ t.moment = s.moment ∧ t.lbi.roster = s.lbi.roster ∧
      t.lbi.orphan = s.lbi.orphan ∧ t.lbi.arbiter = s.lbi.arbiter ∧ t.lbi.station = s.lbi.station ∧
      t.lbi.restartDue = s.lbi.restartDue) ∧
    (∃ u : State, ((seat = serviceSeat ∨ s.standing seat = .barred) → u = s) ∧
      (∀ b : BusSeat, seatOf b = seat → s.standing seat ≠ .barred →
        u = s.setCount b (countAfter (s.lbi.faults.read b) c)) ∧
      t = { u with lbi := { u.lbi with
        service := s.lbi.service.write seat none, bus := t.lbi.bus, port := t.lbi.port } }) ∧
    (t.standing seat = s.standing seat →
      t.cmdt = s.cmdt ∧ t.odu = s.odu ∧ t.evu = s.evu ∧ t.lbi.lines = s.lbi.lines)

/-- R18, R151, R152, R153: how a count moves, and the standing of a count. A count within its standing changes nothing
else. One that changes the standing raises STANDING in the seat's own set alone, and every record in use that holds a
slot of the seat is judged anew, the outputs taking its new command; one that takes the seat into BARRED removes that
slot first, and no other seat's, and turns the seat's waiting requests into refusals BARRED in their places. REINSTATE
by a seat with editor right and standing GOOD sets a named BARRED seat's count to 0, and changes nothing where the
named seat is not BARRED; from any other seat it is refused NOT_EDITOR, and a named seat above 2 is refused BAD_VALUE.
That a sender with editor right which has become BARRED while in service is refused NOT_EDITOR too, a case R153 does
not list, is the model's choice (assumption 32). -/
def Obligations.BarringClearsAndReinstateLifts : Prop :=
  (∀ n, n ≤ 511 →
    countAfter n .badForm = min 511 (n + 8) ∧ countAfter n .busy = min 511 (n + 4) ∧
    countAfter n .guarded = min 511 (n + 2) ∧ countAfter n .maintOnly = min 511 (n + 2) ∧
    countAfter n .done = n - 1 ∧ countAfter n .clamped = n - 1 ∧
    ∀ c, c ∉ [Code.badForm, .busy, .guarded, .maintOnly, .done, .clamped] → countAfter n c = n) ∧
  (∀ n, (standingOf n = .good ↔ n ≤ 95) ∧ (standingOf n = .doubtful ↔ 96 ≤ n ∧ n ≤ 255) ∧
    (standingOf n = .barred ↔ 256 ≤ n)) ∧
  (∀ r, IntakeEntry.bar (.request r) = .refusal r.header .barred) ∧
  (∀ h c, IntakeEntry.bar (.refusal h c) = .refusal h c) ∧
  (∀ (s : State) (b : BusSeat) (n : Nat),
    let seat := seatOf b
    let counted : State := { s with lbi := { s.lbi with faults := s.lbi.faults.write b n } }
    let raised : State := { counted with evu := s.evu.raiseIn seat .standing }
    (standingOf n = s.standing seat → s.setCount b n = counted) ∧
    (standingOf n ≠ s.standing seat → n < 256 → s.setCount b n =
      raised.withRecords fun _ rec => if (rec.slot seat).isSome = true then raised.judgeRecord rec else rec) ∧
    (standingOf n ≠ s.standing seat → 256 ≤ n → ∃ t : State,
      t = (raised.withRecords fun _ rec => if (rec.slot seat).isSome = true then
        raised.judgeRecord { rec with slots := rec.slots.write seat none } else rec) ∧
      s.setCount b n = { t with lbi := { t.lbi with
        lines := t.lbi.lines.write seat ((s.lbi.lines.read seat).map IntakeEntry.bar) } })) ∧
  ∀ s : State, s.standing serviceSeat = .good ∧
  (∀ (s : State) (b : BusSeat) (n : Nat), standingOf (s.lbi.faults.read b) ≠ .barred → 256 ≤ n →
    let t := s.setCount b n
    t.standing (seatOf b) = .barred ∧
    (∀ c q, s.odu.oddMember c = false →
      (t.record c).slot q = if q = seatOf b then none else (s.record c).slot q) ∧
    (∀ q, t.lbi.lines.read q =
      if q = seatOf b then (s.lbi.lines.read q).map IntakeEntry.bar else s.lbi.lines.read q) ∧
    (∀ q f, t.flag q f = if q = seatOf b ∧ f = .standing then .fresh else s.flag q f)) ∧
  ∀ (s : State) (seat : Seat) (r : Request), s.serves seat .reinstate r →
    ((s.editor seat = false ∨ s.standing seat ≠ .good) →
      exec (.reinstate seat) s = .next (s.answer seat r .notEditor [])) ∧
    (s.editor seat = true → s.standing seat = .good →
      (3 ≤ (r.word 0).toNat → exec (.reinstate seat) s = .next (s.answer seat r .badValue [])) ∧
      ∀ b : BusSeat, (r.word 0).toNat = b.val →
        (s.standing (seatOf b) = .barred →
          exec (.reinstate seat) s = .next ((s.setCount b 0).answer seat r .done []) ∧
          (s.setCount b 0).standing (seatOf b) = .good ∧ (s.setCount b 0).flag (seatOf b) .standing = .fresh) ∧
        (s.standing (seatOf b) ≠ .barred → exec (.reinstate seat) s = .next (s.answer seat r .done [])))

/-- R144, R146, R154, R155: a well-formed frame for the part, from an enabled bus seat that has fewer than four
requests waiting, and either is not BARRED or sends EVENTS or HELLO: the orphan timer restarts, an orphan cause that
holds ends with ORPHAN raised in all four sets, and the request is appended to the seat's line. A well-formed frame on
the service port, whatever its stations, joins seat 3's line if fewer than four requests wait there; orphan timer and
cause stay. Nothing else changes. -/
def Obligations.FramesJoinTheirLines : Prop :=
  (∀ (f : Frame) (s : State) (r : Request) (b : BusSeat),
    receivedFrame f = some r → headerDest r.header = s.lbi.station →
    s.lbi.seatOfStation (headerSource r.header) = some b → r.malformed = false →
    (s.standing (seatOf b) ≠ .barred ∨ r.kind = some .events ∨ r.kind = some .hello) →
    ((s.lbi.lines.read (seatOf b)).filter IntakeEntry.isRequest).length < 4 →
    exec (.busFrameReceive f) s = .next
      { s with
        evu := if s.lbi.orphan.holds then s.evu.raiseAll .orphan else s.evu
        lbi :=
          { s.lbi with
            orphan := { s.lbi.orphan with count := 0, holds := false }
            lines := s.lbi.lines.write (seatOf b) (s.lbi.lines.read (seatOf b) ++ [.request r]) } }) ∧
  ∀ (f : Frame) (s : State) (r : Request), receivedFrame f = some r → r.malformed = false →
    ((s.lbi.lines.read serviceSeat).filter IntakeEntry.isRequest).length < 4 →
    exec (.serviceFrameReceive f) s = .next
      { s with
        lbi :=
          { s.lbi with
            lines := s.lbi.lines.write serviceSeat (s.lbi.lines.read serviceSeat ++ [.request r]) } }

/-- R146, R151, R154, R155: refusals at arrival. A malformed bus frame is refused BAD_FORM, or BARRED where its seat is
BARRED; a well-formed one of a BARRED seat, of a kind other than EVENTS and HELLO, is refused BARRED; and any other
that finds four requests waiting is refused BUSY. A well-formed one restarts the orphan timer first, and ends the
cause. On the service port a malformed frame is refused BAD_FORM, and one that finds four requests waiting BUSY. The
refusal joins the seat's line if fewer than sixteen refusals wait there; its outcome is applied either way, 8 for
BAD_FORM and 4 for BUSY, but the count of a BARRED seat stays, and the service seat has none. The refusal joins the
line before the count moves (the model's choice, assumption 10). -/
def Obligations.FramesRefusedAtArrival : Prop :=
  let entered (s : State) (seat : Seat) (r : Request) (c : Code) : State :=
    let line := s.lbi.lines.read seat
    if (line.filter fun e => !e.isRequest).length < 16 then
      { s with lbi := { s.lbi with lines := s.lbi.lines.write seat (line ++ [.refusal r.header c]) } }
    else s
  (∀ (f : Frame) (s : State) (r : Request) (b : BusSeat),
    receivedFrame f = some r → headerDest r.header = s.lbi.station →
    s.lbi.seatOfStation (headerSource r.header) = some b →
    let barred := s.standing (seatOf b) = .barred
    let taken := r.kind = some .events ∨ r.kind = some .hello
    let full := 4 ≤ ((s.lbi.lines.read (seatOf b)).filter IntakeEntry.isRequest).length
    let heard : State :=
      { s with
        evu := if s.lbi.orphan.holds then s.evu.raiseAll .orphan else s.evu
        lbi := { s.lbi with orphan := { s.lbi.orphan with count := 0, holds := false } } }
    (r.malformed = true → ¬barred → exec (.busFrameReceive f) s =
      .next ((entered s (seatOf b) r .badForm).setCount b (min 511 (s.lbi.faults.read b + 8)))) ∧
    (r.malformed = true → barred → exec (.busFrameReceive f) s = .next (entered s (seatOf b) r .barred)) ∧
    (r.malformed = false → barred → ¬taken →
      exec (.busFrameReceive f) s = .next (entered heard (seatOf b) r .barred)) ∧
    (r.malformed = false → barred → taken → full →
      exec (.busFrameReceive f) s = .next (entered heard (seatOf b) r .busy)) ∧
    (r.malformed = false → ¬barred → full → exec (.busFrameReceive f) s =
      .next ((entered heard (seatOf b) r .busy).setCount b (min 511 (s.lbi.faults.read b + 4))))) ∧
  ∀ (f : Frame) (s : State) (r : Request), receivedFrame f = some r →
    (r.malformed = true → exec (.serviceFrameReceive f) s = .next (entered s serviceSeat r .badForm)) ∧
    (r.malformed = false → 4 ≤ ((s.lbi.lines.read serviceSeat).filter IntakeEntry.isRequest).length →
      exec (.serviceFrameReceive f) s = .next (entered s serviceSeat r .busy))

/-- R147: a free handler takes the head of its line. A request goes into service; a refusal leaves the line and its
reply, without payload, goes to the end of the list of the seat's transmitter at once. Nothing else changes. -/
def Obligations.HandlerTakesTheHead : Prop :=
  ∀ (s : State) (seat : Seat) (rest : List IntakeEntry), s.lbi.service.read seat = none →
    (∀ r, s.lbi.lines.read seat = .request r :: rest →
      exec (.handlerTakeHead seat) s = .next
        { s with
          lbi :=
            { s.lbi with
              lines := s.lbi.lines.write seat rest
              service := s.lbi.service.write seat (some { request := r, progress := .taken }) } }) ∧
    (∀ h c, s.lbi.lines.read seat = .refusal h c :: rest → ∃ t, exec (.handlerTakeHead seat) s = .next t ∧
      t.lbi.lines = s.lbi.lines.write seat rest ∧ t.lbi.service = s.lbi.service ∧ t.lbi.faults = s.lbi.faults ∧
      (t.transmitterOf seat).replies = (s.transmitterOf seat).replies ++
        [{ words := [replyHeaderA s.lbi.station h 0, replyHeaderB c (s.evu.marker seat) (s.standing seat)],
           restart := false }] ∧
      (seat = serviceSeat → t.lbi.bus = s.lbi.bus ∧ t.lbi.port.sending = s.lbi.port.sending) ∧
      (seat ≠ serviceSeat → t.lbi.port = s.lbi.port ∧ t.lbi.bus.sending = s.lbi.bus.sending) ∧
      t = { s with lbi := { s.lbi with
        lines := s.lbi.lines.write seat rest, bus := t.lbi.bus, port := t.lbi.port } } ∧
      t.cmdt = s.cmdt ∧ t.odu = s.odu ∧ t.evu = s.evu)

/-- R144, R166, R167: a frame of a header, as many payload words as its length field gives, and the CRC of these words
is received as the request it carries; with any other word in the CRC's place it is discarded. A frame whose CRC fails,
on either link, and one cut short, changes nothing; nor does a bus frame for another station, or from a station that no
enabled roster entry holds. A length field of 7 gives seven words (the model's reading, assumption 23); the group whose
period item a frame names stands apart from its words (the model's choice, assumption 3). -/
def Obligations.OnlyCheckedFramesArrive : Prop :=
  (∀ (a : Word) (p : List Word) (w : Word) (g : Option (BitVec 6)), p.length = lengthField a →
    receivedFrame { words := a :: p ++ [w], period := g } =
      if crc16 (a :: p) = w then some { header := a, payload := p, period := g } else none) ∧
  ∀ (f : Frame) (s : State),
    exec (.frameReceptionCutShort f.words) s = .next s ∧
    (receivedFrame f = none →
      exec (.busFrameReceive f) s = .next s ∧ exec (.serviceFrameReceive f) s = .next s) ∧
    ∀ r, receivedFrame f = some r →
      (headerDest r.header ≠ s.lbi.station ∨ s.lbi.seatOfStation (headerSource r.header) = none) →
      exec (.busFrameReceive f) s = .next s

/-- R44, R156, R157: HELLO is answered DONE with the own station, the seat, its standing and the directory state, and
changes nothing else. OPEN, CLOSE and RESTART of a bus seat are refused NOT_EDITOR. The service seat opens and closes
the directory; its RESTART is answered DONE, the reply going to the service port with the restart to follow, and
nothing else changes. HELLO reports the standing before its own DONE counts (the model's choice, assumption 18). -/
def Obligations.PlainRequestsAreAnswered : Prop :=
  ∀ (s : State) (seat : Seat) (r : Request),
    (s.serves seat .hello r → exec (.hello seat) s = .next (s.answer seat r .done
      [BitVec.ofNat 16 (s.lbi.station.toNat + 16 * seat.val + 64 * (s.standing seat).number +
        256 * (if s.pdir.isOpen then 1 else 0))])) ∧
    (s.serves seat .openDirectory r → exec (.openDirectory seat) s = .next
      (if seat = serviceSeat then State.answer { s with pdir := { s.pdir with isOpen := true } } seat r .done []
      else s.answer seat r .notEditor [])) ∧
    (s.serves seat .closeDirectory r → exec (.closeDirectory seat) s = .next
      (if seat = serviceSeat then State.answer { s with pdir := { s.pdir with isOpen := false } } seat r .done []
      else s.answer seat r .notEditor [])) ∧
    (s.serves seat .restart r →
      (seat ≠ serviceSeat → exec (.restart seat) s = .next (s.answer seat r .notEditor [])) ∧
      (seat = serviceSeat → exec (.restart seat) s = .next
        { s with lbi :=
          { s.lbi with
            service := s.lbi.service.write seat none
            port :=
              { s.lbi.port with
                replies := s.lbi.port.replies ++
                  [{ words := [replyHeaderA s.lbi.station r.header 0,
                       replyHeaderB .done (s.evu.marker seat) (s.standing seat)], restart := true }] } } }))

/-- R150: an idle transmitter sends the oldest reply of its list, followed by the CRC of its words; a reply sent whole,
or abandoned at read-back, leaves the list, and the reply to an accepted RESTART makes the restart due. That mark is
the model's own (assumption 6). -/
def Obligations.TransmittersSendInOrder : Prop :=
  ∀ (s : State) (x : Reply) (rest : List Reply) (w : List Word),
    (s.lbi.bus = { replies := x :: rest, sending := none } →
      exec .replyTransmit s = .next
        { s with lbi := { s.lbi with bus :=
          { replies := x :: rest, sending := some (x.words ++ [crc16 x.words]) } } }) ∧
    (s.lbi.port = { replies := x :: rest, sending := none } →
      exec .serviceReplyTransmit s = .next
        { s with lbi := { s.lbi with port :=
          { replies := x :: rest, sending := some (x.words ++ [crc16 x.words]) } } }) ∧
    (s.lbi.bus = { replies := x :: rest, sending := some w } →
      exec .replyReadbackAbandon s = .next
        { s with lbi := { s.lbi with bus := { replies := rest, sending := none } } } ∧
      exec (.replySentWhole .bus) s = .next
        { s with lbi := { s.lbi with bus := { replies := rest, sending := none } } }) ∧
    (s.lbi.port = { replies := x :: rest, sending := some w } →
      exec (.replySentWhole .service) s = .next
        { s with lbi :=
          { s.lbi with
            port := { replies := rest, sending := none }
            restartDue := s.lbi.restartDue || x.restart } })

/-- R154, R155, R15, R19, R136 to R139: the orphan timer expires when its count has reached the limit and the cause
does not hold, and at no other time. The cause then holds; the slots of the bus seats go and the service seat's stay,
each record that held one being judged and every other record staying; exactly the channels that were shut off, or
whose masks name ORPHAN, are shut off, the odd members of formed pairs standing aside, and take their safe actions;
the outputs then take the commands that changed; ORPHAN is raised in all four sets, and SHUTOFF where a channel is
shut off now, and no other flag. Nothing else changes. The service seat's write of the limit, 1 to 600 s, replaces it;
where the cause does not hold and the count has reached the new limit the cause begins at the write in the same way,
and otherwise nothing else changes. That the expiry is taken from the reached limit on is the model's choice
(assumption 8), and that the shut-off comes before the hand-over its reading (9). -/
def Obligations.OrphanTimerAndLimitBeginTheCause : Prop :=
  let begun (s t : State) : Prop :=
    let more : Prop := ∃ c, t.shutOff c ≠ s.shutOff c
    (∃ u v : State, shutDown { s with lbi := { s.lbi with orphan := { s.lbi.orphan with holds := true } } } u
        (fun c => s.shutOff c = false ∧ (s.shutoff c).mask.orphan = true ∧ s.odu.oddMember c = false) ∧
      v = (u.withRecords fun _ rec => if ∃ q, q ≠ serviceSeat ∧ rec.slot q ≠ none then
        u.judgeRecord { rec with slots := Bank.fill fun q => if q = serviceSeat then rec.slot q else none } else rec) ∧
      t = { v with evu := v.evu.raiseAll .orphan }) ∧
    t.lbi = { s.lbi with orphan := { s.lbi.orphan with holds := true } } ∧
    (∀ c, s.odu.oddMember c = false →
      (∀ q, (t.record c).slot q = if q = serviceSeat then (s.record c).slot q else none) ∧
      ((∃ q, q ≠ serviceSeat ∧ (s.record c).slot q ≠ none) →
        t.record c = s.judgeRecord { s.record c with slots := (t.record c).slots }) ∧
      ((∀ q, q ≠ serviceSeat → (s.record c).slot q = none) → t.record c = s.record c)) ∧
    (∀ c, s.odu.oddMember c = true → t.record c = s.record c) ∧
    (∀ c, t.shutOff c = (s.shutOff c || ((s.shutoff c).mask.orphan && !s.odu.oddMember c)) ∧
      t.shutoff c = { s.shutoff c with latched := t.shutOff c }) ∧
    (∀ q f, ((f = .orphan ∨ f = .shutoff ∧ more) → t.flag q f = .fresh) ∧
      (¬(f = .orphan ∨ f = .shutoff ∧ more) → t.flag q f = s.flag q f)) ∧
    t.cmdt.ranks = s.cmdt.ranks ∧ t.shu.emergencyIn = s.shu.emergencyIn ∧ t.evu.masks = s.evu.masks ∧
    t.evu.attention = s.evu.attention ∧ t.pdir = s.pdir ∧ t.pcache = s.pcache ∧ t.smu = s.smu ∧ t.piu = s.piu ∧
    t.circuits = s.circuits
  (∀ s : State,
    (s.lbi.orphan.holds = false → 100 * s.lbi.orphan.limit ≤ s.lbi.orphan.count →
      ∃ t, exec .orphanTimerExpiry s = .next t ∧ begun s t) ∧
    ((s.lbi.orphan.holds = true ∨ s.lbi.orphan.count < 100 * s.lbi.orphan.limit) →
      exec .orphanTimerExpiry s = .next s)) ∧
  ∀ (s : State) (r : Request), s.servesWrite serviceSeat .orphanLimit r → 2 ≤ r.payload.length →
    1 ≤ (r.word 1).toNat → (r.word 1).toNat ≤ 600 →
    let limited : State := { s with lbi := { s.lbi with orphan := { s.lbi.orphan with limit := (r.word 1).toNat } } }
    ((s.lbi.orphan.holds = true ∨ s.lbi.orphan.count < 100 * (r.word 1).toNat) →
      exec (.configWriteOrphanLimit serviceSeat) s = .next (limited.answer serviceSeat r .done [])) ∧
    (s.lbi.orphan.holds = false → 100 * (r.word 1).toNat ≤ s.lbi.orphan.count → ∃ t : State,
      exec (.configWriteOrphanLimit serviceSeat) s = .next (t.answer serviceSeat r .done []) ∧ begun limited t)

/-- R20, R24, R46, R63, R84, R93, R115, R143, R157, R165: what a warm restart leaves, whether RESTART_IN or the RESTART
reply sent whole takes it. In every record in use no slot and no winner is left, the arbitrated value is the
fallback's, every setting, role and circuit stays, and the effective command is settled under the bound that its
circuit's evaluation leaves. Lines, requests in service, transmitters and the arbiter are as at power-on; roster,
counts and the orphan timer stay. The directory is CLOSED with no walk, its roots and its memory kept, a mark write
begun being completed; the windows and the cache stay. Results and settings of the measurement stay, and a running scan
begins a new pass; the pulse channels stay. Running guard timers start again and each enabled circuit is evaluated, with
all that it hands on; the records then hand their commands to the outputs. A channel is shut off where it was, or, at
its safe action, where it drives under a mask that names a cause then holding. RESTART is SET in every set, with the
STAGE and SHUTOFF flags of what changed after it, and every other flag CLEAR. The mark that a restart is due and the
order within the restart are the model's (assumptions 6, 25). -/
def Obligations.WarmRestartDiscardsAndKeeps : Prop :=
  ∀ s : State, ∃ t, exec .restartIn s = .next t ∧ (s.lbi.restartDue = true → exec .restartTake s = .next t) ∧
    -- the command table
    (∀ c, s.odu.oddMember c = false →
      let was := s.record c
      let now := t.record c
      (∀ q, now.slot q = none) ∧ now.winner = none ∧ now.lastWon = was.lastWon ∧ now.staticMin = was.staticMin ∧
        now.staticMax = was.staticMax ∧ now.defaultHold = was.defaultHold ∧ now.fallbackMode = was.fallbackMode ∧
        now.fallbackValue = was.fallbackValue ∧ now.role = was.role ∧ now.circuit = was.circuit ∧
        (now.arbitrated = match was.fallbackMode, was.lastWon with
          | .holdLast, some v => v
          | .holdLast, none => was.fallbackValue
          | .fixed, _ => was.fallbackValue) ∧
        now.effective = now.bound.apply now.limited ∧ (was.circuit = none → now.bound = was.bound) ∧
        ∀ n, was.circuit = some n → now.bound =
          if boundFor (s.circuit n).bounds was.role c = boundFor (t.circuit n).bounds was.role c then was.bound
          else boundFor (t.circuit n).bounds was.role c) ∧
    t.cmdt.ranks = s.cmdt.ranks ∧
    -- the links
    (∀ q, t.lbi.lines.read q = [] ∧ t.lbi.service.read q = none ∧ t.lbi.arbiter.waiting.read q = false) ∧
    t.lbi.arbiter.last = 3 ∧ t.lbi.arbiter.chosen = none ∧
    t.lbi.bus = Transmitter.idle ∧ t.lbi.port = Transmitter.idle ∧ t.lbi.restartDue = false ∧
    t.lbi.roster = s.lbi.roster ∧ t.lbi.faults = s.lbi.faults ∧ t.lbi.orphan = s.lbi.orphan ∧
    t.lbi.station = s.lbi.station ∧ t.lbi.rate = s.lbi.rate ∧
    -- the directory and the cache
    t.pdir.isOpen = false ∧ t.pdir.walk = none ∧ t.pdir.roots = s.pdir.roots ∧ t.pdir.lastSide = .seats ∧
    t.pdir.lastSeat = 3 ∧ t.pcache = s.pcache ∧
    ((∀ w addr word next, s.pdir.walk = some w → w.step ≠ .mark addr word next) → t.pdir.memory = s.pdir.memory) ∧
    (∀ w addr word next, s.pdir.walk = some w → w.step = .mark addr word next → memWf s.pdir.memory = true →
      ∀ a, memRead t.pdir.memory a = if a = addr.toNat then word else memRead s.pdir.memory a) ∧
    -- measurement
    (s.smu.running = none → t.smu = { s.smu with conversion := none }) ∧
    (∀ mode, s.smu.running = some mode → s.smu.passBegun t.smu mode) ∧
    t.smu.results = s.smu.results ∧ t.smu.settings = s.smu.settings ∧ t.piu = s.piu ∧
    -- the freeze guard and the shut-offs
    (∀ n, let was := s.circuit n
      let again : Circuit :=
        { was with
          graceLeft := was.graceLeft.map fun _ => 100 * was.flowGrace
          dwellLeft := was.dwellLeft.map fun _ => 100 * was.tripDwell }
      t.circuit n = if was.stage = .disabled then again else again.evaluate s.smu.results false) ∧
    (∃ b : State, b.odu = s.odu ∧ b.shu = s.shu ∧ b.smu.results = s.smu.results ∧
      (∀ c, b.record c = if s.odu.oddMember c = true then s.record c else
        { s.record c with
          slots := Bank.fill fun _ => none
          winner := none
          arbitrated := match (s.record c).fallbackMode, (s.record c).lastWon with
            | .holdLast, some v => v
            | .holdLast, none => (s.record c).fallbackValue
            | .fixed, _ => (s.record c).fallbackValue }) ∧
      (∀ n, b.circuit n = { s.circuit n with
        graceLeft := (s.circuit n).graceLeft.map fun _ => 100 * (s.circuit n).flowGrace
        dwellLeft := (s.circuit n).dwellLeft.map fun _ => 100 * (s.circuit n).tripDwell }) ∧
      let judged := (((b.evaluate 0).evaluate 1).evaluate 2).evaluate 3
      let settled := judged.withRecords fun _ rec => rec.settle
      shutDown settled t fun c => settled.shutOff c = false ∧ settled.odu.oddMember c = false ∧
        ∃ cause, (settled.shutoff c).mask.names cause = true ∧ settled.causeHolds c cause = true) ∧
    t.shu.emergencyIn = s.shu.emergencyIn ∧
    (∀ c, t.shutoff c = { s.shutoff c with latched := t.shutOff c } ∧
      (t.shutOff c = true ↔ s.shutOff c = true ∨
        s.odu.oddMember c = false ∧ ∃ cause, (s.shutoff c).mask.names cause = true ∧ t.causeHolds c cause = true)) ∧
    -- the events
    (let raised (f : Flag) : Prop := f = .restart ∨ (∃ n, f = .stage n ∧ (t.circuit n).stage ≠ (s.circuit n).stage) ∨
      f = .shutoff ∧ ∃ c, t.shutOff c ≠ s.shutOff c
     ∀ q f, (raised f → t.flag q f = .fresh) ∧ (¬raised f → t.flag q f = .clear)) ∧
    t.evu.masks = s.evu.masks ∧ t.evu.attention = s.evu.attention ∧ t.pending = s.pending

/-! ### Events -/

/-- R160: a raise acts on the flag it names, in the set it names, and leaves it SET, not reported, whatever it was;
every other flag of every set, and every mask and enable, stays. Two raises give the same in either order. R159: a raise
in all four sets is the raise in each. -/
def Obligations.RaiseLeavesTheFlagUnreported : Prop :=
  (∀ (e : Evu) (seat q : Seat) (f g : Flag),
    ((e.raiseIn seat f).flags.read q).read g.bit =
      if q = seat ∧ g = f then .fresh else (e.flags.read q).read g.bit) ∧
  (∀ (e : Evu) (seat : Seat) (f : Flag),
    (e.raiseIn seat f).masks = e.masks ∧ (e.raiseIn seat f).attention = e.attention) ∧
  (∀ (e : Evu) (f : Flag),
    e.raiseAll f = (((e.raiseIn 0 f).raiseIn 1 f).raiseIn 2 f).raiseIn 3 f ∧
    ∀ (q : Seat) (g : Flag), ((e.raiseAll f).flags.read q).read g.bit =
      if g = f then .fresh else (e.flags.read q).read g.bit) ∧
  ∀ (e : Evu) (p q : Seat) (f g : Flag), (e.raiseIn p f).raiseIn q g = (e.raiseIn q g).raiseIn p f

/-- R163: EVENTS is answered DONE, its payload the seat's set flags and the snapshots; every flag returned is then SET,
reported, and the rest stay CLEAR. R164: CLEAR is answered DONE; a named flag becomes CLEAR if it was SET, reported,
and every other flag of the seat stays. Neither touches the set, mask or enable of another seat. -/
def Obligations.EventsReportAndClearClears : Prop :=
  ∀ (s : State) (seat : Seat) (r : Request),
    (s.serves seat .events r → ∃ e : Evu,
      exec (.events seat) s = .next (State.answer { s with evu := e } seat r .done
        (natWord (s.evu.flagNat seat) :: s.stagesWord ::
          (natWords s.sensorsNotValid ++ natWords s.shutOffChannels))) ∧
      e.masks = s.evu.masks ∧ e.attention = s.evu.attention ∧
      (∀ q i, (e.flags.read q).read i =
        if q = seat ∧ (s.evu.flags.read q).read i ≠ .clear then .reported else (s.evu.flags.read q).read i)) ∧
    (s.serves seat .clear r → ∃ e : Evu,
      exec (.clear seat) s = .next (State.answer { s with evu := e } seat r .done []) ∧
      e.masks = s.evu.masks ∧ e.attention = s.evu.attention ∧
      (∀ q i, (e.flags.read q).read i =
        if q = seat ∧ (r.word 0).getLsbD i.val = true ∧ (s.evu.flags.read q).read i = .reported then .clear
        else (s.evu.flags.read q).read i))

/-! ### The command table -/

/-- R8: the winner of a record, for a rank table that holds each seat once. A seat wins exactly when it is GOOD, holds
a slot, and every GOOD seat ranked above it holds none; or when no GOOD seat holds one, and the same is true of the
DOUBTFUL seats. -/
def Obligations.WinnerIsHighestRankedOfItsClass : Prop :=
  ∀ (ranks : Bank Seat 4) (standing : Seat → Standing) (rec : Record),
    (∀ seat, ∃ i, ranks.read i = seat) →
    let top (class_ : Standing) (i : Fin 4) : Prop :=
      (rec.slot (ranks.read i)).isSome ∧ standing (ranks.read i) = class_ ∧
        ∀ j, j < i → ¬((rec.slot (ranks.read j)).isSome ∧ standing (ranks.read j) = class_)
    ∀ i, chooseWinner ranks standing rec = some (ranks.read i) ↔
      top .good i ∨
        (top .doubtful i ∧ ∀ j, ¬((rec.slot (ranks.read j)).isSome ∧ standing (ranks.read j) = .good))

/-- R8, R10, R11, R13: a re-arbitration. With a winner, the arbitrated value and the last-won value are its demand's
value; with none, the last-won value stays, and the arbitrated value is the fallback value, or under HOLD_LAST the
last-won value if there is one. Slots, settings, role, circuit, bound and effective command stay. The effective command
is the arbitrated value brought within the static limits, and then no more than a ceiling and no less than a floor,
whichever bound stands; it lies from 0 to 1000 where these values do; recomputing it changes nothing else. A judged
record is arbitrated anew by the rank table and the standings, and settled. A change of records reaches no odd record
of a formed pair, and beside the records nothing but the outputs. -/
def Obligations.RecordsArbitrateAndSettle : Prop :=
  (∀ (ranks : Bank Seat 4) (standing : Seat → Standing) (rec : Record),
    let t := rec.rearbitrate ranks standing
    t.winner = chooseWinner ranks standing rec ∧
    (∀ seat, chooseWinner ranks standing rec = some seat →
      ∃ d, rec.slot seat = some d ∧ t.arbitrated = d.value ∧ t.lastWon = some d.value) ∧
    (chooseWinner ranks standing rec = none → t.lastWon = rec.lastWon ∧
      t.arbitrated = match rec.fallbackMode, rec.lastWon with
        | .holdLast, some v => v
        | .holdLast, none => rec.fallbackValue
        | .fixed, _ => rec.fallbackValue) ∧
    t = { rec with winner := t.winner, arbitrated := t.arbitrated, lastWon := t.lastWon }) ∧
  (∀ (s : State) (rec : Record), s.judgeRecord rec = (rec.rearbitrate s.cmdt.ranks s.standing).settle ∧
    rec.settle = { rec with effective := rec.settle.effective }) ∧
  (∀ (s : State) (f : OutCh → Record → Record),
    let t := s.withRecords f
    (∀ c, t.record c = if s.odu.oddMember c = true then s.record c else f c (s.record c)) ∧
    t = { s with cmdt := { s.cmdt with records := t.cmdt.records }, odu := t.odu } ∧
    ∀ m : ModCh, s.odu.member (modCh m) = true → t.odu.mods.read m = s.odu.mods.read m) ∧
  ∀ rec : Record, rec.staticMin ≤ rec.staticMax →
    let v := max rec.staticMin (min rec.arbitrated rec.staticMax)
    rec.settle.effective = (match rec.bound with
      | .none => v
      | .ceiling c => min v c
      | .floor f => max v f) ∧
    (rec.staticMax ≤ 1000 → (∀ f, rec.bound = .floor f → f ≤ 1000) → rec.settle.effective ≤ 1000)

/-- R3, R4, R9, R18, R45, R48, R52, R53, R62, R148: a SET that a window or a cache entry translates. A guarded window
or entry answers GUARDED. Where an unguarded window takes it, or an entry with W clear and D set: an input channel and
the odd member of a formed pair are answered BAD_TARGET; a seat that has become BARRED is answered BARRED, the record
unchanged; else the slot is placed with the value and the hold clamped, the record judged and the request answered,
CLAMPED where a field was cut, with the translation, the effective command and the winner that result; the record is
then the one arbitrated and settled with that slot in it, and the outputs take its new command. Every other slot of the
record stays, and every other record. An entry that is used moves its set's victim pointer. That the payload stands
before the request's own outcome moves the seat's count is the model's reading (assumption 18). -/
def Obligations.SetPlacesTheDemand : Prop :=
  ∀ (s : State) (seat : Seat) (r : Request), s.serves seat .set r →
    let p := wordPoint (r.word 0)
    let hit : State := { s with pcache := s.pcache.hit p }
    (∀ w, s.pcache.window? seat p = some w → (s.pcache.windows.read w).guarded = true →
      exec (.set seat) s =
        .next (s.answer seat r .guarded [translationWord (1 + w.val) false (windowChannel p)])) ∧
    (∀ e, s.pcache.window? seat p = none → s.pdir.isOpen = true → s.pcache.lookup seat p = some e →
      e.guarded = true →
      exec (.set seat) s = .next (hit.answer seat r .guarded [translationWord 3 e.link e.channel])) ∧
    ∀ (u : State) (ch : Fin 64) (word : Word),
      ((∃ w, s.pcache.window? seat p = some w ∧ (s.pcache.windows.read w).guarded = false ∧ ch = windowChannel p ∧
          word = translationWord (1 + w.val) false ch ∧ u = s) ∨
        (s.pcache.window? seat p = none ∧ s.pdir.isOpen = true ∧
          ∃ e, s.pcache.lookup seat p = some e ∧ e.guarded = false ∧ e.driven = true ∧ ch = e.channel ∧
            word = translationWord 3 e.link ch ∧ u = hit)) →
      (s.noTarget ch → exec (.set seat) s = .next (u.answer seat r .badTarget [word])) ∧
      ∀ c : OutCh, ch.val = c.val → s.odu.oddMember c = false →
        (s.standing seat = .barred → exec (.set seat) s = .next (u.answer seat r .barred [])) ∧
        (s.standing seat ≠ .barred → ∃ t, demandPlaced u t c seat r ∧
          exec (.set seat) s = .next (t.answer seat r (setCode seat r) (commandWords t c word)))

/-- R6, R9, R45, R48, R52, R62: a RELEASE that a window or a cache entry translates, guarded or not. An input channel
and the odd member of a formed pair are answered BAD_TARGET. Else the seat's own slot goes if there is one: the record
is then the one arbitrated and settled without that slot, its settings staying, and the outputs take its new command.
With no slot of the seat's nothing changes. It is answered DONE either way, with the translation, the effective command
and the winner that result. No other seat's slot goes, and no other record changes. That the payload stands before the
request's own DONE moves the seat's count is the model's reading (assumption 18). -/
def Obligations.ReleaseRemovesItsOwnSlot : Prop :=
  ∀ (s : State) (seat : Seat) (r : Request), s.serves seat .release r →
    let p := wordPoint (r.word 0)
    ∀ (u : State) (ch : Fin 64) (word : Word),
      ((∃ w, s.pcache.window? seat p = some w ∧ ch = windowChannel p ∧ word = translationWord (1 + w.val) false ch ∧
          u = s) ∨
        (s.pcache.window? seat p = none ∧ s.pdir.isOpen = true ∧
          ∃ e, s.pcache.lookup seat p = some e ∧ ch = e.channel ∧ word = translationWord 3 e.link ch ∧
            u = { s with pcache := s.pcache.hit p })) →
      (s.noTarget ch → exec (.release seat) s = .next (u.answer seat r .badTarget [word])) ∧
      ∀ c : OutCh, ch.val = c.val → s.odu.oddMember c = false → ∃ t, demandWithdrawn u t c seat ∧
        exec (.release seat) s = .next (t.answer seat r .done (commandWords t c word))

/-- R22, R45, R82, R90: a READ that a window translates is answered DONE with the translation and the view of the
channel, and changes nothing but what its answer changes. The view of an output channel is that of its record, and of
the odd member of a formed pair its even record's: the effective command, the winner (7 for none) and the latch; the
reading seat's own slot and its hold, 65535 for UNTIL_RELEASED; the guard bound and its kind; of a formed pair the
estimate and UNSYNCED. A sensor view gives F, validity and sample count; a pulse view the marks, the proof of the
circuit that names the channel, period, frequency and age. Absent fields are 0. That the view stands before the READ's
own DONE moves the seat's count is the model's reading (assumption 18). -/
def Obligations.ReadReturnsTheView : Prop :=
  (∀ (s : State) (seat : Seat) (r : Request) (w : Fin 2), s.serves seat .read r →
    s.pcache.window? seat (wordPoint (r.word 0)) = some w →
    let ch := windowChannel (wordPoint (r.word 0))
    exec (.read seat) s = .next (s.answer seat r .done
      (BitVec.ofNat 16 ((1 + w.val) * 8192 + ch.val) :: s.view seat ch))) ∧
  ∀ (s : State) (seat : Seat) (ch : Fin 64),
    (∀ c e : OutCh, ch.val = c.val → (s.odu.oddMember c = true → c.val = e.val + 1) →
      (s.odu.oddMember c = false → c = e) →
      let x := s.record e
      x.effective ≤ 1000 → (∀ d, x.slot seat = some d → d.value ≤ 1000) →
      (∀ v, x.bound = .ceiling v ∨ x.bound = .floor v → v ≤ 1000) →
      (∀ k p, e = evenCh k → (s.odu.pairs.read k).run = some p → p.estimate ≤ 1000) →
      ∃ w5 : Nat,
        ((∀ k, e = evenCh k → (s.odu.pairs.read k).run = none) → w5 = 0) ∧
        (∀ k p, e = evenCh k → (s.odu.pairs.read k).run = some p →
          w5 = 32768 + (if p.unsynced = true then 16384 else 0) + p.estimate) ∧
        s.view seat ch =
          [BitVec.ofNat 16
              (x.effective + 4096 * ((x.winner.map (·.val)).getD 7) + if s.shutOff e = true then 32768 else 0),
            BitVec.ofNat 16 (match x.slot seat with | some d => 32768 + d.value | none => 0),
            (match x.slot seat with
              | some { value := _, hold := .counted n } => BitVec.ofNat 16 n
              | some { value := _, hold := .untilReleased } => 65535#16
              | none => 0#16),
            BitVec.ofNat 16 (match x.bound with | .none => 0 | .ceiling v => 16384 + v | .floor v => 32768 + v),
            BitVec.ofNat 16 w5]) ∧
    (∀ n : SensorCh, ch.val = 32 + n.val → (s.smu.results.read n).samples ≤ 255 →
      s.view seat ch = [BitVec.ofInt 16 (s.smu.results.read n).filtered,
        BitVec.ofNat 16 (256 * (s.smu.results.read n).samples + (s.smu.results.read n).validity.number)]) ∧
    ∀ n : PulseCh, ch.val = 56 + n.val →
      let x := s.piu.channels.read n
      let named (k : CircuitNo) : Prop := ∃ p, (s.circuit k).flow = some (n, p)
      (∀ p, x.period = some p → p ≤ 1048575) →
      ∃ proof : Nat,
        ((∀ k, ¬named k) → proof = 0) ∧
        (∀ k, (∀ o, named o ↔ o = k) → proof = if s.piu.proven.read k = true then 1 else 2) ∧
        s.view seat ch =
          [BitVec.ofNat 16 ((if x.enabled = true then 32768 else 0) + (if x.period = none then 16384 else 0) +
              (if x.age = none then 8192 else 0) + 2048 * proof + x.period.getD 0 / 65536),
            BitVec.ofNat 16 (x.period.getD 0), BitVec.ofNat 16 (x.frequency / 65536), BitVec.ofNat 16 x.frequency,
            BitVec.ofNat 16 (x.age.getD 0)]

/-- R4, R9, R15: a slot whose hold stands at its last step expires. The slot goes, the record is the one arbitrated and
settled without it, and the outputs take its new command; no other slot and no other record changes, and no flag is
raised. A slot UNTIL_RELEASED, or with more than one step left, stays. That the expiry is taken from the last step on
is the model's choice (assumption 8). -/
def Obligations.HoldExpiryRemovesTheSlot : Prop :=
  ∀ (s : State) (c : OutCh) (seat : Seat) (d : Slot), (s.record c).slot seat = some d → s.odu.oddMember c = false →
    ((d.hold = .untilReleased ∨ ∃ n, d.hold = .counted n ∧ 1 < n) → exec (.demandHoldExpiry c seat) s = .next s) ∧
    ∀ n, d.hold = .counted n → n ≤ 1 → ∃ t, exec (.demandHoldExpiry c seat) s = .next t ∧
      demandWithdrawn s t c seat ∧ t.evu = s.evu ∧ t.lbi = s.lbi ∧ t.shu = s.shu ∧ t.circuits = s.circuits ∧
      t.pdir = s.pdir ∧ t.pcache = s.pcache ∧ t.smu = s.smu ∧ t.piu = s.piu

/-- R15, R117, R126, R130: what the outputs take when records change. A modulated channel that is no member of a formed
pair holds its record's new effective command, and a discrete channel that drives is handed a changed requested state,
ON from 500; a record whose effective command stays hands nothing. -/
def Obligations.RecordsHandTheirCommands : Prop :=
  ∀ (s : State) (f : OutCh → Record → Record),
    let t := s.withRecords f
    (∀ m : ModCh, s.odu.member (modCh m) = false →
      t.odu.mods.read m =
        if (t.record (modCh m)).effective = (s.record (modCh m)).effective then s.odu.mods.read m
        else { s.odu.mods.read m with held := (t.record (modCh m)).effective }) ∧
    (∀ d : DiscCh,
      t.odu.discretes.read d =
        if (decide (500 ≤ (t.record (discCh d)).effective)) = decide (500 ≤ (s.record (discCh d)).effective) then
          s.odu.discretes.read d
        else (s.odu.discretes.read d).request (s.shutOff (discCh d))
          (decide (500 ≤ (t.record (discCh d)).effective))) ∧
    (∀ k : PairNo, t.odu.pairs.read k =
      if (t.record (evenCh k)).effective = (s.record (evenCh k)).effective then s.odu.pairs.read k
      else (s.odu.pairs.read k).change
        (PairRun.takeTarget (s.odu.pairs.read k) (s.shutOff (evenCh k)) (t.record (evenCh k)).effective)) ∧
    t.odu.groups = s.odu.groups

/-- R44, R50, R52, R53, R54, R62: a SET, RELEASE or READ that no window translates. With the directory CLOSED it is
answered UNMAPPED/NO_WINDOW. On a cache miss it waits for the walker, and so does, for a re-walk, a SET that hits an
entry with W and D clear; the seat joins the waiting set, and no record, table or output changes. A READ that hits is
answered DONE with the translation and the view of the entry's channel. A hit moves the set's victim pointer alone.
That the view stands before the READ's own DONE moves the seat's count is the model's reading (assumption 18). -/
def Obligations.ResolutionTriesTheCache : Prop :=
  (∀ (s : State) (seat : Seat) (r : Request) (k : Kind) (c : Instr),
    ((k = .set ∧ c = .set seat) ∨ (k = .release ∧ c = .release seat) ∨ (k = .read ∧ c = .read seat)) →
    s.serves seat k r → s.pcache.window? seat (wordPoint (r.word 0)) = none →
    let waits (rewalk : Bool) (cache : Pcache) : Prop := ∃ l : Lbi,
      exec c s = .next { s with pcache := cache, lbi := l } ∧
      l.service = s.lbi.service.write seat (some { request := r, progress := .awaitingWalk rewalk }) ∧
      l.arbiter.waiting = s.lbi.arbiter.waiting.write seat true ∧ l.arbiter.last = s.lbi.arbiter.last ∧
      l = { s.lbi with service := l.service, arbiter := l.arbiter }
    (s.pdir.isOpen = false → exec c s = .next (s.answer seat r .noWindow [])) ∧
    (s.pdir.isOpen = true → s.pcache.lookup seat (wordPoint (r.word 0)) = none → waits false s.pcache) ∧
    ∀ e, s.pdir.isOpen = true → s.pcache.lookup seat (wordPoint (r.word 0)) = some e →
      (k = .set → e.guarded = false → e.driven = false → waits true (s.pcache.hit (wordPoint (r.word 0)))) ∧
      (k = .read → exec c s = .next (State.answer { s with pcache := s.pcache.hit (wordPoint (r.word 0)) } seat r .done
        (translationWord 3 e.link e.channel :: s.view seat e.channel)))) ∧
  ∀ (c : Pcache) (p : Point), (c.hit p).windows = c.windows ∧
    (∀ i way, ((c.hit p).sets.read i).ways.read way = (c.sets.read i).ways.read way) ∧
    ∀ i, ((c.hit p).sets.read i).victim =
      if i = cacheSetOf p then (c.sets.read i).victim + 1 else (c.sets.read i).victim

/-! ### The directory and the cache -/

/-- R52, R55, R56, R57, R58, R60: what each accepted FLUSH removes and which walk it marks. A bus seat names itself,
the service seat any seat, and ALL is the service seat's. POINT takes the point's entries that are the named seat's own
or global, SEAT the named seat's non-global entries, ALL every entry; every other entry and every victim pointer stays.
A load touches only the point's set, and moves no victim pointer. It replaces the entries that match its seat and
point, or, where it is global, every entry of its point. It is written in the lowest way of an entry it replaces, else
in the lowest invalid way, else in the way of the victim pointer; the other entries it replaces go, and every other
stays. A lookup of its seat and point then finds it. -/
def Obligations.CacheLoadsAndFlushesExactly : Prop :=
  (∀ (s : State) (seat named : Seat) (r : Request), s.serves seat .flush r →
    ((r.word 0).extractLsb' 0 4).toNat = named.val → (seat = serviceSeat ∨ named = seat) →
    let p := wordPoint (r.word 1)
    let left (t : State) (gone : CacheEntry → Prop) (marked : Walk → Bool) : Prop :=
      (∀ i way, ((t.pcache.sets.read i).ways.read way = none ↔
          ∀ e, (s.pcache.sets.read i).ways.read way = some e → gone e) ∧
        ∀ e, (s.pcache.sets.read i).ways.read way = some e → ¬gone e → (t.pcache.sets.read i).ways.read way = some e) ∧
      (∀ i, (t.pcache.sets.read i).victim = (s.pcache.sets.read i).victim) ∧
      t.pcache.windows = s.pcache.windows ∧
      t = { s with
        pcache := t.pcache
        pdir := { s.pdir with walk := s.pdir.walk.map fun w => { w with noLoad := w.noLoad || marked w } } }
    (((r.word 0).extractLsb' 14 2).toNat = 1 → ∃ t : State,
      exec (.flushSeat seat) s = .next (t.answer seat r .done []) ∧
      left t (fun e => e.seat = named ∧ e.global = false) fun w => w.seat == named) ∧
    (((r.word 0).extractLsb' 14 2).toNat = 2 → seat = serviceSeat → ∃ t : State,
      exec (.flushAll seat) s = .next (t.answer seat r .done []) ∧ left t (fun _ => True) fun _ => true) ∧
    (((r.word 0).extractLsb' 14 2).toNat = 0 →
      (∀ i way e, (s.pcache.sets.read i).ways.read way = some e → e.point = p → i = cacheSetOf p) → ∃ t : State,
      exec (.flushPoint seat) s = .next (t.answer seat r .done []) ∧
      left t (fun e => e.point = p ∧ (e.seat = named ∨ e.global = true)) fun w => w.point == p)) ∧
  ∀ (c : Pcache) (e : CacheEntry),
    (c.load e).lookup e.seat e.point = some e ∧ (c.load e).windows = c.windows ∧
    (∀ i, i ≠ cacheSetOf e.point → (c.load e).sets.read i = c.sets.read i) ∧
    (∀ i, ((c.load e).sets.read i).victim = (c.sets.read i).victim) ∧
    let was := c.sets.read (cacheSetOf e.point)
    let now := (c.load e).sets.read (cacheSetOf e.point)
    let replaced (i : Fin 4) : Prop := ∃ old, was.ways.read i = some old ∧ old.point = e.point ∧
      (e.global = true ∨ old.global = true ∨ old.seat = e.seat)
    let free (i : Fin 4) : Prop := was.ways.read i = none
    ∃ way : Fin 4,
      ((∃ i, replaced i) → replaced way ∧ ∀ i, i < way → ¬replaced i) ∧
      ((∀ i, ¬replaced i) → (∃ i, free i) → free way ∧ ∀ i, i < way → ¬free i) ∧
      ((∀ i, ¬replaced i) → (∀ i, ¬free i) → way = was.victim) ∧
      now.ways.read way = some e ∧
      ∀ i, i ≠ way → (replaced i → now.ways.read i = none) ∧ (¬replaced i → now.ways.read i = was.ways.read i)

/-- R25, R26, R42, R43: DIR_READ and DIR_WRITE of an editor seat with an address of directory memory wait at the port,
and a DIR_WRITE of the word the walk has locked marks it no-load; an address above 4095 is refused BAD_VALUE. A seat's
access is open to the port unless the walk has locked its word. The port may go to a seat where the walker waits for no
access or was granted last, and to the walker where no seat's access is open or the seats were granted last; among the
seats it takes the first after the one served last, in the order 0, 1, 2, 3. The grant answers a read with the word,
and writes a write's word at its address and nowhere else, marking a walk that has read that word no-load. -/
def Obligations.DirectoryAccessGoesThroughThePort : Prop :=
  (∀ (s : State) (seat : Seat) (r : Request),
    let waiting (data : Option DirWord) : State := s.setService seat
      (some { request := r, progress := .awaitingPort (BitVec.ofNat 12 (r.word 0).toNat) data })
    (s.serves seat .dirRead r → s.editor seat = true →
      ((r.word 0).toNat < 4096 → exec (.dirRead seat) s = .next (waiting none)) ∧
      (4096 ≤ (r.word 0).toNat → exec (.dirRead seat) s = .next (s.answer seat r .badValue []))) ∧
    (s.serves seat .dirWrite r → s.editor seat = true →
      ((r.word 0).toNat < 4096 → exec (.dirWrite seat) s = .next
        { waiting (some (r.word 1 ++ r.word 2)) with pdir := { s.pdir with
            walk := s.pdir.walk.map fun w =>
              { w with noLoad := w.noLoad || w.lockedWord == some (BitVec.ofNat 12 (r.word 0).toNat) } } }) ∧
      (4096 ≤ (r.word 0).toNat → exec (.dirWrite seat) s = .next (s.answer seat r .badValue [])))) ∧
  ∀ s : State,
    let open_ (q : Seat) (r : Request) (addr : DirAddr) (data : Option DirWord) : Prop :=
      s.lbi.service.read q = some { request := r, progress := .awaitingPort addr data } ∧
        ∀ w word next, s.pdir.walk = some w → w.step ≠ .mark addr word next
    let waits (q : Seat) : Prop := ∃ r addr data, open_ q r addr data
    let walkerWaits : Prop := ∃ w, s.pdir.walk = some w ∧
      ((∀ b, w.step = .group b → b.toNat % 32 = 0) ∧ ∀ b, w.step = .point b → b.toNat % 16 = 0)
    (s.portToWalker = true ↔ (∀ q, ¬waits q) ∨ s.pdir.lastSide = .seats) ∧
    (s.portToSeats = true ↔ ¬walkerWaits ∨ s.pdir.lastSide = .walker) ∧
    (∀ q, s.portSeat = some q ↔
      waits q ∧ ∀ q', waits q' → (q - s.pdir.lastSeat - 1).val ≤ (q' - s.pdir.lastSeat - 1).val) ∧
    ((s.portToSeats = false ∨ ∀ q, ¬waits q) → exec .dirPortGrant s = .next s) ∧
    ∀ (seat : Seat) (r : Request) (addr : DirAddr), s.portToSeats = true → s.portSeat = some seat →
      (open_ seat r addr none → exec .dirPortGrant s = .next
        (State.answer { s with pdir := { s.pdir with lastSide := .seats, lastSeat := seat } } seat r .done
          [(memRead s.pdir.memory addr.toNat).extractLsb' 16 16,
            (memRead s.pdir.memory addr.toNat).extractLsb' 0 16])) ∧
      ∀ word, open_ seat r addr (some word) → memWf s.pdir.memory = true → ∃ t : State,
        exec .dirPortGrant s = .next (t.answer seat r .done []) ∧
        t = { s with pdir := { t.pdir with
          lastSide := .seats, lastSeat := seat, roots := s.pdir.roots, isOpen := s.pdir.isOpen,
          walk := s.pdir.walk.map fun w => { w with noLoad := w.noLoad || w.readWords.contains addr } } } ∧
        ∀ a, memRead t.pdir.memory a = if a = addr.toNat then word else memRead s.pdir.memory a

/-- R31, R36, R44, R54, R149: the free walker is handed to the first waiting seat after the one served last, in the
order 0, 1, 2, 3, as soon as one waits. WALK_GRANT then takes the seat from the waiting set and counts it as served
last. With the directory OPEN and the seat's root valid its walk, of the kind of its request, begins at the zone table;
with the root not valid the request is answered UNMAPPED/ABSENT, and a re-walk takes its entries from the cache; with
the directory CLOSED it is answered UNMAPPED/NO_WINDOW, and the cache stays. The seat handed the walker is a field of
the model's own (assumption 22). -/
def Obligations.GrantBeginsTheWalk : Prop :=
  (∀ (a : Arbiter) (q : Seat), a.next = some q ↔ a.waiting.read q = true ∧
    ∀ q', a.waiting.read q' = true → (q - a.last - 1).val ≤ (q' - a.last - 1).val) ∧
  (∀ s : State, s.settleArbiter =
    if s.pdir.walk = none ∧ s.lbi.arbiter.chosen = none then
      { s with lbi := { s.lbi with arbiter := { s.lbi.arbiter with chosen := s.lbi.arbiter.next } } }
    else s) ∧
  ∀ (s : State) (seat : Seat) (r : Request) (b : Bool) (k : Kind) (a : Access),
    ((k = .set ∧ a = .set) ∨ (k = .release ∧ a = .release) ∨ (k = .read ∧ a = .read)) → r.kind = some k →
    s.pdir.walk = none → (s.lbi.arbiter.chosen = some seat ∨
      (s.lbi.arbiter.chosen = none ∧ s.lbi.arbiter.next = some seat)) →
    s.lbi.service.read seat = some { request := r, progress := .awaitingWalk b } →
    let taken : State := { s with lbi := { s.lbi with
      arbiter := { waiting := s.lbi.arbiter.waiting.write seat false, last := seat, chosen := none } } }
    let w : Walk :=
      { seat := seat, point := wordPoint (r.word 0), access := a, rewalk := b,
        rootBase := (s.pdir.roots.read seat).base, guarded := false, throughLink := false, noLoad := false,
        readWords := [], step := .zone }
    (s.pdir.isOpen = true → (s.pdir.roots.read seat).valid = true → exec .walkGrant s = .next
      { taken with
        pdir := { s.pdir with walk := some w }
        lbi := { taken.lbi with
          service := s.lbi.service.write seat (some { request := r, progress := .walking }) } }) ∧
    (s.pdir.isOpen = true → (s.pdir.roots.read seat).valid = false → ∃ t, exec .walkGrant s = .next t ∧
      walkEnded taken t s.pdir w .absent) ∧
    (s.pdir.isOpen = false → exec .walkGrant s = .next (taken.answer seat r .noWindow []).settleArbiter)

/-- R29, R32, R33, R34, R35, R37, R38, R40, R41, R43: a walk's locked read, once the port goes to the walker. The word
is the one at the table's base plus the point's index, or the LINK's target. An ABSENT word is left as read and ends
the walk ABSENT. Of any other, W is accumulated, and a SET walk whose write-guard is then set ends GUARDED, the word
unwritten. Else the word takes T: a TABLE of the zone or group table leads on to its base, a LINK of the point table to
its target; a LEAF of the point table or a LINK's target ends the walk with its translation, taking D too where the
walk is a SET's, but MAINT_ONLY where S is set and the seat is a bus seat; any other kind ends it DIR_FAULT. A word
that has its marks moves the walk on at once and memory stays; one that lacks one is locked until its mark write. The
mark write writes its word at its address and nowhere else, and the walk goes on to the table or target it leads to, or
ends. An end (R36, R54, R55, R61) frees the walker, loads the translation or, of a re-walk that loads none, takes the
seat's entries of the point from the cache, and serves or answers the request. The model's readings: a DIR_WRITE
waiting at the port when the word is locked makes the walk no-load (assumption 19); a payload stands before the
request's own outcome counts (18); the walker is handed on at the end (22); DIRFAULT comes before the reply (39). -/
def Obligations.WalksReadEachLevelAndMark : Prop :=
  (∀ (s : State) (w : Walk) (addr : DirAddr) (c : Instr) (level : DirLevel), s.pdir.walk = some w →
    s.portToWalker = true →
    ((c = .walkZoneRead ∧ level = .zone ∧ w.step = .zone ∧
        addr.toNat = (w.rootBase.toNat * 16 + (zoneIndex w.point).toNat) % 4096) ∨
      (c = .walkGroupRead ∧ level = .group ∧ ∃ base : DirAddr, w.step = .group base ∧ base.toNat % 32 = 0 ∧
        addr.toNat = (base.toNat + (groupIndex w.point).toNat) % 4096) ∨
      (c = .walkPointRead ∧ level = .point ∧ ∃ base : DirAddr, w.step = .point base ∧ base.toNat % 16 = 0 ∧
        addr.toNat = (base.toNat + (pointIndex w.point).toNat) % 4096) ∨
      (c = .walkLinkTargetRead ∧ level = .target ∧ w.step = .link addr)) →
    let word := memRead s.pdir.memory addr.toNat
    let kind := descKind word
    let touched := word ||| 0x10000000#32
    let granted : Pdir := { s.pdir with lastSide := .walker }
    ∃ t, exec c s = .next t ∧
      (kind = .absent → walkEnded s t granted w .absent) ∧
      (kind ≠ .absent → w.access = .set → (w.guarded = true ∨ descGuarded word = true) →
        walkEnded s t granted w .guarded) ∧
      (kind ≠ .absent → (w.access ≠ .set ∨ (w.guarded = false ∧ descGuarded word = false)) →
        (level = .zone → kind = .table → walkedOn s t w addr word touched (.toGroup (word.extractLsb' 0 12))) ∧
        (level = .group → kind = .table → walkedOn s t w addr word touched (.toPoint (word.extractLsb' 0 12))) ∧
        (level = .point → kind = .link →
          walkedOn s t { w with throughLink := true } addr word touched (.toLink (word.extractLsb' 0 12))) ∧
        ((level = .point ∨ level = .target) → kind = .leaf →
          (word.getLsbD 27 = true → w.seat ≠ serviceSeat → walkedOn s t w addr word touched (.finish .maintOnly)) ∧
          ((word.getLsbD 27 = false ∨ w.seat = serviceSeat) →
            walkedOn s t w addr word (if w.access = .set then word ||| 0x12000000#32 else touched)
              (.finish (.found
                { channel := descChannel word, guarded := w.guarded || descGuarded word,
                  serviceOnly := word.getLsbD 27, global := word.getLsbD 26,
                  driven := w.access == .set || word.getLsbD 25, link := w.throughLink })))) ∧
        (((level = .zone ∨ level = .group) ∧ kind ≠ .table ∨ level = .point ∧ kind = .table ∨
            level = .target ∧ kind ≠ .leaf) → walkedOn s t w addr word touched (.finish .dirFault)))) ∧
  ∀ (s : State) (w : Walk) (addr : DirAddr) (word : DirWord) (next : WalkNext), s.pdir.walk = some w →
    w.step = .mark addr word next → s.portToWalker = true → memWf s.pdir.memory = true →
    ∃ t m, exec .walkMarkWrite s = .next t ∧
      (∀ a, memRead m a = if a = addr.toNat then word else memRead s.pdir.memory a) ∧
      (let written : Pdir := { s.pdir with memory := m, lastSide := .walker }
       match next with
       | .toGroup b => t = { s with pdir := { written with walk := some { w with step := .group b } } }
       | .toPoint b => t = { s with pdir := { written with walk := some { w with step := .point b } } }
       | .toLink b => t = { s with pdir := { written with walk := some { w with step := .link b } } }
       | .finish o => t.pdir.memory = m ∧ t.pdir.walk = none ∧ walkEnded s t written w o)

/-- R30, R33, R34, R36, R54, R61: a walk that comes to a group table off its multiple of 32 words, or a point table off
its multiple of 16, ends with no read and no port access: memory stays, DIRFAULT is raised in all four sets, its
request is answered UNMAPPED/DIR_FAULT, no record changes, and the cache stays, but that a re-walk's entries go. That
DIRFAULT is raised before the reply is handed is the model's choice (assumption 39), and that the walker is handed on
at the end its own form (22). -/
def Obligations.MisalignedTableEndsTheWalk : Prop :=
  ∀ (s : State) (w : Walk) (base : DirAddr) (i : InService), s.pdir.walk = some w →
    s.lbi.service.read w.seat = some i →
    ((w.step = .group base ∧ base.toNat % 32 ≠ 0) ∨ (w.step = .point base ∧ base.toNat % 16 ≠ 0)) →
    ∃ t, exec (if w.step = .group base then .walkGroupRead else .walkPointRead) s = .next t ∧
      walkEnded s t s.pdir w .dirFault ∧ t.pdir = { s.pdir with walk := none } ∧
      t.lbi.service.read w.seat = none ∧ (∀ q, t.flag q .dirFault = .fresh) ∧
      (w.rewalk = false → t.pcache = s.pcache) ∧ t.cmdt = s.cmdt ∧
      ∃ x, (t.transmitterOf w.seat).replies = (s.transmitterOf w.seat).replies ++ [x] ∧
        (x.words.getD 1 0).extractLsb' 10 6 = 0b001011#6

/-! ### Configuration -/

/-- R134, R147, R169: a CONFIG_READ from any seat whose selector names an item of the part is answered DONE with the
item's fields, at most six, and changes nothing but what its answer changes; one that names an input channel's shutoff
item is answered BAD_TARGET, and one whose selector names nothing BAD_VALUE. A CONFIG_WRITE whose selector names
nothing, or a read-only item, is refused BAD_VALUE. A selector names an item exactly for the codes, parts and indices
of the table of 11.5; the item, its fields and their codes are those of the table. The period item of a group, which
11.5 gives no code, is named apart from the words of the frame (the model's choice, assumption 3), and a write of
roster entry 3 is refused BAD_VALUE also from a bus seat (its choice, 37); that a polarity which waits for its period
end is read as written is its choice too (40); that an absent field is sent as 0, and the CONFIG_READ of an input's
shutoff item answered as its write, is its reading (17 and 15). -/
def Obligations.SelectorsAreJudgedFirst : Prop :=
  (∀ (s : State) (seat : Seat) (r : Request),
    (∀ i fields, s.serves seat .configRead r → r.item = some i → s.itemFields i = some fields →
      exec (.configRead seat) s = .next (s.answer seat r .done fields) ∧ fields.length ≤ 6) ∧
    (∀ i, s.serves seat .configRead r → r.item = some i → s.itemFields i = none →
      exec (.configRead seat) s = .next (s.answer seat r .badTarget [])) ∧
    (s.serves seat .configRead r → r.item = none →
      exec (.configRead seat) s = .next (s.answer seat r .badValue [])) ∧
    (s.serves seat .configWrite r → (r.item = none ∨ ∃ i, r.item = some i ∧
        ((∃ c, i = .driveStatus c) ∨ i = .scanStatus ∨ (∃ n p, i = .resultDetail n p) ∨ ∃ n p, i = .circuitStatus n p)) →
      exec (.configWriteOther seat) s = .next (s.answer seat r .badValue []))) ∧
  -- what names an item
  (∀ r : Request, (r.period = none → r.item = selectorItem (r.word 0)) ∧
    ∀ g, r.period = some g → (∀ n : GroupNo, g.toNat = n.val → r.item = some (.period n)) ∧
      (3 ≤ g.toNat → r.item = none)) ∧
  (∀ code part index : Nat, code < 256 → part < 4 → index < 64 →
    ((selectorItem (BitVec.ofNat 16 (256 * code + 64 * part + index))).isSome = true ↔
      part = 0 ∧ (code ∈ [1, 5, 17, 18, 19] ∧ index = 0 ∨ code ∈ [3, 15] ∧ index < 2 ∨ code = 4 ∧ index < 3 ∨
        code ∈ [2, 6, 22, 23, 24, 25, 26] ∧ index < 4 ∨ code = 21 ∧ index < 8 ∨ code = 11 ∧ index < 12 ∨
        code = 14 ∧ index < 24 ∨ code ∈ [7, 8, 9, 10, 12] ∧ index < 32 ∨ code = 16 ∧ index % 32 < 17 ∨ code = 13) ∨
      code = 20 ∧ part < 2 ∧ index < 24 ∨ code = 27 ∧ part < 3 ∧ index < 4)) ∧
  (let names (code part index : Nat) (i : Item) : Prop :=
      selectorItem (BitVec.ofNat 16 (256 * code + 64 * part + index)) = some i
   names 1 0 0 .rankTable ∧ (∀ q : Seat, names 2 0 q.val (.root q)) ∧ (∀ w : Fin 2, names 3 0 w.val (.window w)) ∧
   (∀ b : BusSeat, names 4 0 b.val (.rosterEntry b)) ∧ names 5 0 0 .orphanLimit ∧
   (∀ q : Seat, names 6 0 q.val (.eventMask q)) ∧
   (∀ c : OutCh, names 7 0 c.val (.staticLimits c) ∧ names 8 0 c.val (.fallback c) ∧
     names 9 0 c.val (.defaultHold c) ∧ names 10 0 c.val (.output c) ∧ names 12 0 c.val (.driveStatus c)) ∧
   (∀ k : PairNo, names 11 0 k.val (.pair k)) ∧ (∀ ch : Fin 64, names 13 0 ch.val (.shutoff ch)) ∧
   (∀ n : SensorCh, names 14 0 n.val (.sensorSettings n) ∧ ∀ p : Fin 2, names 20 p.val n.val (.resultDetail n p)) ∧
   (∀ n : Fin 2, names 15 0 n.val (.reference n) ∧ ∀ k : Fin 17, names 16 0 (32 * n.val + k.val) (.breakpoint n k)) ∧
   names 17 0 0 .scanRange ∧ names 18 0 0 .scanMode ∧ names 19 0 0 .scanStatus ∧
   (∀ n : PulseCh, names 21 0 n.val (.pulseSettings n)) ∧
   ∀ n : CircuitNo, names 22 0 n.val (.circuitSensors n) ∧ names 23 0 n.val (.circuitOutputs n) ∧
     names 24 0 n.val (.circuitFlow n) ∧ names 25 0 n.val (.circuitThresholds n) ∧
     names 26 0 n.val (.circuitTimes n) ∧ ∀ p : Fin 3, names 27 p.val n.val (.circuitStatus n p)) ∧
  -- the fields of the items
  ∀ s : State,
    let w (n : Nat) : Word := BitVec.ofNat 16 n
    let mark (b : Bool) : Word := if b then 1 else 0
    let opt (o : Option Nat) : Word := match o with | some v => w v | none => 65535#16
    let zero (o : Option Nat) : Word := w (o.getD 0)
    let set (p : Nat → Bool) : List Word :=
      [w (((List.range 16).map fun i => if p (16 + i) then 2 ^ i else 0).sum),
        w (((List.range 16).map fun i => if p i then 2 ^ i else 0).sum)]
    s.itemFields .rankTable = some [w (4096 * (s.cmdt.ranks.read 0).val + 256 * (s.cmdt.ranks.read 1).val +
      16 * (s.cmdt.ranks.read 2).val + (s.cmdt.ranks.read 3).val)] ∧
    (∀ q, s.itemFields (.root q) = some [w (s.pdir.roots.read q).base.toNat, mark (s.pdir.roots.read q).valid] ∧
      s.itemFields (.eventMask q) = some [w (s.evu.masks.read q).toNat, mark (s.evu.attention.read q)]) ∧
    (∀ b, let e := s.lbi.roster.read b
      s.itemFields (.rosterEntry b) = some [w e.station.toNat, mark e.enabled, mark e.editor]) ∧
    (∀ c, s.itemFields (.staticLimits c) = some [w (s.record c).staticMin, w (s.record c).staticMax] ∧
      s.itemFields (.defaultHold c) = some [w (s.record c).defaultHold]) ∧
    (∀ k, let q := s.odu.pairs.read k
      s.itemFields (.pair k) = some [mark q.run.isSome, w q.stroke, w q.deadband, w q.deadTime]) ∧
    (∀ (k : PairNo) (p : PairRun), (s.odu.pairs.read k).run = some p → ∀ c, c = evenCh k ∨ c = oddCh k →
      s.itemFields (.driveStatus c) = some [w p.state.number, w p.target, w p.estimate, mark p.unsynced,
        w (match p.lastReleased with | none => 0 | some .opening => 1 | some .closing => 2), opt p.deadLeft]) ∧
    (∀ (ch : Fin 64) (c : OutCh), ch.val = c.val →
      let h := s.heldCauses c (s.shutoff c).mask
      let bits (m : Mask) := (if m.frostTrip then 1 else 0) + (if m.orphan then 2 else 0) + if m.emergency then 4 else 0
      s.itemFields (.shutoff ch) = some [w (bits (s.shutoff c).mask), w (s.shutoff c).line.number,
        w (s.shutoff c).pair.number, mark (s.shutOff c), w (bits h)]) ∧
    (∀ ch : Fin 64, 32 ≤ ch.val → s.itemFields (.shutoff ch) = none) ∧
    (∀ n, let x := s.smu.results.read n
      s.itemFields (.resultDetail n 0) = some [w (x.tRef / 65536), w x.tRef, w (x.tSens / 65536), w x.tSens, w x.ratio,
        w x.samples] ∧
      s.itemFields (.resultDetail n 1) = some [BitVec.ofInt 16 x.temp, BitVec.ofInt 16 x.filtered,
        w x.validity.number, w x.badRun, w x.samples]) ∧
    -- the other items
    (∀ n : Fin 2, let x := s.pcache.windows.read n
      s.itemFields (.window n) =
        some [mark x.enable, w x.zoneBase.toNat, w x.zoneMask.toNat, w x.seats.toNat, mark x.guarded]) ∧
    s.itemFields .orphanLimit = some [w s.lbi.orphan.limit] ∧
    (∀ c, s.itemFields (.fallback c) =
      some [mark ((s.record c).fallbackMode == .holdLast), w (s.record c).fallbackValue]) ∧
    (∀ (c : OutCh) (m : ModCh) (k : PairNo) (g : GroupNo), c.val = m.val → k.val = m.val / 2 → g.val = m.val / 8 →
      let x := s.odu.mods.read m
      s.itemFields (.output c) = some [mark (x.polarity == .activeLow)] ∧
      ((s.odu.pairs.read k).run = none →
        s.itemFields (.driveStatus c) = some [w x.held, w x.compare, w (s.odu.groups.read g).period])) ∧
    (∀ (c : OutCh) (d : DiscCh), c.val = 24 + d.val →
      let x := s.odu.discretes.read d
      s.itemFields (.output c) = some [w x.minOn, w x.minOff] ∧
      s.itemFields (.driveStatus c) =
        some [mark x.on, (match x.held with | some b => mark b | none => 65535#16), w x.time]) ∧
    (∀ n, let x := s.smu.settings.read n
      s.itemFields (.sensorSettings n) = some [mark x.enabled, w x.reference.val, w x.table.val, w x.shift.val]) ∧
    (∀ n, s.itemFields (.reference n) = some [w (s.smu.cycles.read n)]) ∧
    (∀ n k, s.itemFields (.breakpoint n k) = some [BitVec.ofInt 16 ((s.smu.tables.read n).read k)]) ∧
    s.itemFields .scanRange = some [w s.smu.rangeStart.val, w s.smu.rangeEnd.val] ∧
    s.itemFields .scanMode = some [mark (s.smu.modeItem == .single)] ∧
    s.itemFields .scanStatus = some [mark s.smu.running.isSome, mark (s.smu.running == some .single),
      opt (s.smu.conversion.map fun v => v.channel.val)] ∧
    (∀ n, let x := s.piu.channels.read n
      s.itemFields (.pulseSettings n) = some [mark x.enabled, w x.spacing, w x.timeout]) ∧
    (∀ n, let c := s.circuit n
      s.itemFields (.circuitThresholds n) = some [BitVec.ofInt 16 c.freezePoint, BitVec.ofInt 16 c.mWatch,
        BitVec.ofInt 16 c.mAct, BitVec.ofInt 16 c.mTrip, BitVec.ofInt 16 c.hysteresis] ∧
      s.itemFields (.circuitTimes n) = some [w c.pumpMin, w c.tripDwell, w c.flowGrace]) ∧
    (∀ g, s.itemFields (.period g) = some [w (s.odu.groups.read g).period, zero (s.odu.groups.read g).buffered]) ∧
    -- the codes of the enumerated fields
    Stage.number .disabled = 0 ∧ (∀ l : Level, Stage.number (.level l) = l.number) ∧ Stage.number .lockout = 5 ∧
    [Level.clear, .watch, .act, .trip].map Level.number = [1, 2, 3, 4] ∧
    [SensorCause.none, .pending, .sensorLost].map SensorCause.number = [0, 1, 2] ∧
    [Validity.notYet, .valid, .opened, .short].map Validity.number = [0, 1, 2, 3] ∧
    [LineAction.low, .high, .hold].map LineAction.number = [0, 1, 2] ∧
    [PairAction.stop, .drive .opening, .drive .closing].map PairAction.number = [0, 1, 2] ∧
    [PairState.idle, .waiting, .moving .opening, .moving .closing, .overdrive .opening, .overdrive .closing, .syncing,
      .safeDriving .opening, .safeDriving .closing, .safeRest].map PairState.number = [0, 1, 2, 3, 4, 5, 6, 8, 9, 11] ∧
    (∀ d, PairState.number (.safeWaiting d) = 7 ∧ PairState.number (.safeEnd d) = 10) ∧
    ∀ n, let c := s.circuit n
      s.itemFields (.circuitSensors n) = some (set fun i => c.guardSet.any fun x => x.val == i) ∧
      s.itemFields (.circuitOutputs n) = some (set (fun i => c.fans.any fun x => x.val == i) ++
        [opt (c.bypass.map (·.val))] ++ set fun i => c.pumps.any fun x => x.val == i) ∧
      s.itemFields (.circuitFlow n) = some (match c.flow with
        | some (ch, p) => [w ch.val, w (p / 65536), w p]
        | none => [65535#16, 0, 0]) ∧
      s.itemFields (.circuitStatus n 0) = some [w c.stage.number, w c.sensorCause.number, w c.marginStage.number,
        BitVec.ofInt 16 (c.guardTemp.getD 0), BitVec.ofInt 16 (c.margin.getD 0), zero c.ceiling] ∧
      s.itemFields (.circuitStatus n 1) = some [mark !c.proven, mark c.graceExpired, w c.flowStage.number,
        w c.sensorStage.number, zero c.graceLeft] ∧
      s.itemFields (.circuitStatus n 2) = some [w (c.dwellLeft.getD 0 / 65536), w (c.dwellLeft.getD 0),
        zero c.bounds.fanCeiling, zero c.bounds.bypassFloor, zero c.bounds.modulatedPump, zero c.bounds.discretePump]

/-- R16, R42, R57, R76, R111, R113, R134, R141, R147, and the sender each rule names. From any bus seat, whatever its
editor right, these are refused NOT_EDITOR and change nothing but what the answer changes: a write of the rank table, a
root, a window, a roster entry, the orphan limit or another seat's event mask, RELEASE_LOCKOUT, FLUSH ALL, and a FLUSH
POINT or SEAT that names another seat. So are, from a seat without editor right, a write of any other item, with the
three sorts of a pair item's write, DIR_READ, DIR_WRITE, the three SCAN requests, CIRCUIT ENABLE and DISABLE, and
REARM. That a bus seat's FLUSH naming a seat above 3 is refused NOT_EDITOR too is the model's reading (assumption 11).
-/
def Obligations.RightsAreRequired : Prop :=
  ∀ (s : State) (seat : Seat) (r : Request),
    let refused : Host.Outcome State Fault Refusal := .next (s.answer seat r .notEditor [])
    let form := ((r.word 0).extractLsb' 14 2).toNat
    let named := ((r.word 0).extractLsb' 0 4).toNat
    (seat ≠ serviceSeat →
      (s.servesWrite seat .rankTable r → exec (.configWriteRankTable seat) s = refused) ∧
      (∀ q, s.servesWrite seat (.root q) r → exec (.configWriteRoot seat) s = refused) ∧
      (∀ w, s.servesWrite seat (.window w) r → exec (.configWriteWindow seat) s = refused) ∧
      (∀ b, s.servesWrite seat (.rosterEntry b) r → exec (.configWriteRosterEntry seat) s = refused) ∧
      (s.servesWrite seat .orphanLimit r → exec (.configWriteOrphanLimit seat) s = refused) ∧
      (∀ q, q ≠ seat → s.servesWrite seat (.eventMask q) r → exec (.configWriteEventMask seat) s = refused) ∧
      (s.serves seat .releaseLockout r → exec (.releaseLockout seat) s = refused) ∧
      (s.serves seat .flush r → form = 0 → named ≠ seat.val → exec (.flushPoint seat) s = refused) ∧
      (s.serves seat .flush r → form = 1 → named ≠ seat.val → exec (.flushSeat seat) s = refused) ∧
      (s.serves seat .flush r → form = 2 → exec (.flushAll seat) s = refused)) ∧
    (s.editor seat = false →
      (∀ c, s.servesWrite seat (.staticLimits c) r → exec (.configWriteStaticLimits seat) s = refused) ∧
      (∀ c, s.servesWrite seat (.fallback c) r → exec (.configWriteFallback seat) s = refused) ∧
      (∀ c, s.servesWrite seat (.defaultHold c) r → exec (.configWriteDefaultHold seat) s = refused) ∧
      (∀ m : ModCh, s.servesWrite seat (.output (modCh m)) r → exec (.configWriteOutputPolarity seat) s = refused) ∧
      (∀ d : DiscCh, s.servesWrite seat (.output (discCh d)) r → exec (.configWriteMinimumTimes seat) s = refused) ∧
      (∀ g, s.servesWrite seat (.period g) r → exec (.configWritePeriod seat) s = refused) ∧
      (∀ k, s.servesWrite seat (.pair k) r → 2 ≤ r.payload.length →
        ((s.odu.pairs.read k).run = none → r.word 1 = 1 → exec (.pairForm seat) s = refused) ∧
        ((s.odu.pairs.read k).run ≠ none → r.word 1 = 0 → exec (.pairDissolve seat) s = refused) ∧
        (((s.odu.pairs.read k).run = none → r.word 1 ≠ 1) → ((s.odu.pairs.read k).run ≠ none → r.word 1 ≠ 0) →
          exec (.configWritePair seat) s = refused)) ∧
      (∀ c, s.servesWrite seat (.shutoff c) r → exec (.configWriteShutoff seat) s = refused) ∧
      (∀ n, s.servesWrite seat (.sensorSettings n) r → exec (.configWriteSensorSettings seat) s = refused) ∧
      (∀ n, s.servesWrite seat (.reference n) r → exec (.configWriteReference seat) s = refused) ∧
      (∀ t k, s.servesWrite seat (.breakpoint t k) r → exec (.configWriteBreakpoint seat) s = refused) ∧
      (s.servesWrite seat .scanRange r → exec (.configWriteScanRange seat) s = refused) ∧
      (s.servesWrite seat .scanMode r → exec (.configWriteScanMode seat) s = refused) ∧
      (∀ n, s.servesWrite seat (.pulseSettings n) r → exec (.configWritePulseSettings seat) s = refused) ∧
      (∀ n, s.servesWrite seat (.circuitSensors n) r → exec (.configWriteCircuitSensors seat) s = refused) ∧
      (∀ n, s.servesWrite seat (.circuitOutputs n) r → exec (.configWriteCircuitOutputs seat) s = refused) ∧
      (∀ n, s.servesWrite seat (.circuitFlow n) r → exec (.configWriteCircuitFlow seat) s = refused) ∧
      (∀ n, s.servesWrite seat (.circuitThresholds n) r → exec (.configWriteCircuitThresholds seat) s = refused) ∧
      (∀ n, s.servesWrite seat (.circuitTimes n) r → exec (.configWriteCircuitTimes seat) s = refused) ∧
      (s.serves seat .dirRead r → exec (.dirRead seat) s = refused) ∧
      (s.serves seat .dirWrite r → exec (.dirWrite seat) s = refused) ∧
      (s.serves seat .scan r → r.word 0 = 0 → exec (.scanStart seat) s = refused) ∧
      (s.serves seat .scan r → r.word 0 = 1 → exec (.scanSingle seat) s = refused) ∧
      (s.serves seat .scan r → r.word 0 = 2 → exec (.scanStop seat) s = refused) ∧
      (s.serves seat .circuit r → r.word 1 = 0 → exec (.circuitEnable seat) s = refused) ∧
      (s.serves seat .circuit r → r.word 1 = 1 → exec (.circuitDisable seat) s = refused) ∧
      (s.serves seat .rearm r → exec (.rearm seat) s = refused))

/-- R7, R8, R9, R15, R27, R28, R47, R59, R60, R145, R161: the service seat's writes. The rank table: the four seats of
its word, highest rank first, replace the table, and every record in use is the one arbitrated and settled by the new
table, its slots and settings staying: its arbitrated value is the new winner's, or with none the fallback's; the
outputs take the new commands. A root, a window, a roster entry whose seat is not in use, and a seat's event mask: each
replaces its fields at once and is answered DONE; a bus seat writes its own event mask in the same way. A roster entry
whose seat holds a demand, an entry in its line or a request in service is refused IN_USE. A root write also drops the
seat's non-global cache entries and marks its walk no-load. That 65535 is taken as a flag set, its spare bits ignored,
is the model's choice (assumption 41). -/
def Obligations.ServiceItemsAreReplaced : Prop :=
  (∀ (s : State) (r : Request) (a b c d : Seat), s.servesWrite serviceSeat .rankTable r → 2 ≤ r.payload.length →
    [a, b, c, d].Nodup → (r.word 1).toNat = 4096 * a.val + 256 * b.val + 16 * c.val + d.val → ∃ t : State,
      exec (.configWriteRankTable serviceSeat) s = .next (t.answer serviceSeat r .done []) ∧
      t.cmdt.ranks = ⟨#v[a, b, c, d]⟩ ∧
      (let ranked : State := { s with cmdt := { s.cmdt with ranks := t.cmdt.ranks } }
       t = ranked.withRecords (fun _ rec => ranked.judgeRecord rec) ∧
       ∀ ch, s.odu.oddMember ch = false → t.record ch = ranked.judgeRecord (s.record ch)) ∧
      (∀ ch, s.odu.oddMember ch = false → (t.record ch).slots = (s.record ch).slots ∧
        (t.record ch).winner = chooseWinner t.cmdt.ranks s.standing (s.record ch) ∧
        (∀ q, (t.record ch).winner = some q →
          ∃ x, (s.record ch).slot q = some x ∧ (t.record ch).arbitrated = x.value) ∧
        ((t.record ch).winner = none → (t.record ch).arbitrated =
          match (s.record ch).fallbackMode, (s.record ch).lastWon with
          | .holdLast, some v => v
          | .holdLast, none => (s.record ch).fallbackValue
          | .fixed, _ => (s.record ch).fallbackValue) ∧
        (t.record ch).effective = (t.record ch).bound.apply (t.record ch).limited) ∧
      t.pdir = s.pdir ∧ t.lbi = s.lbi ∧ t.shu = s.shu ∧ t.evu = s.evu ∧ t.circuits = s.circuits) ∧
  ∀ (s : State) (r : Request),
    (∀ q v, s.servesWrite serviceSeat (.root q) r → 3 ≤ r.payload.length → (r.word 1).toNat ≤ 255 →
      (r.word 1).toNat % 2 = 0 → r.word 2 = BitVec.ofNat 16 (if v = true then 1 else 0) →
      exec (.configWriteRoot serviceSeat) s = .next (State.answer
        { s with
          pdir :=
            { s.pdir with
              roots := s.pdir.roots.write q { base := BitVec.ofNat 8 (r.word 1).toNat, valid := v }
              walk := s.pdir.walk.map fun w => { w with noLoad := w.noLoad || w.seat == q } }
          pcache := s.pcache.flushSeat q } serviceSeat r .done [])) ∧
    (∀ n e g, s.servesWrite serviceSeat (.window n) r → 6 ≤ r.payload.length →
      r.word 1 = BitVec.ofNat 16 (if e = true then 1 else 0) → (r.word 2).toNat ≤ 31 → (r.word 3).toNat ≤ 31 →
      (r.word 4).toNat ≤ 15 → r.word 5 = BitVec.ofNat 16 (if g = true then 1 else 0) →
      exec (.configWriteWindow serviceSeat) s = .next (State.answer
        { s with
          pcache :=
            { s.pcache with
              windows := s.pcache.windows.write n
                { enable := e, zoneBase := BitVec.ofNat 5 (r.word 2).toNat, zoneMask := BitVec.ofNat 5 (r.word 3).toNat,
                  seats := BitVec.ofNat 4 (r.word 4).toNat, guarded := g } } } serviceSeat r .done [])) ∧
    (∀ b e g, s.servesWrite serviceSeat (.rosterEntry b) r → 4 ≤ r.payload.length → (r.word 1).toNat ≤ 15 →
      r.word 2 = BitVec.ofNat 16 (if e = true then 1 else 0) → r.word 3 = BitVec.ofNat 16 (if g = true then 1 else 0) →
      (e = true → (r.word 1).toNat ≠ s.lbi.station.toNat ∧
        ∀ o, o ≠ b → (s.lbi.roster.read o).enabled = true → (s.lbi.roster.read o).station.toNat ≠ (r.word 1).toNat) →
      let inUse : Prop := (∃ c, (s.record c).slot (seatOf b) ≠ none) ∨ s.lbi.lines.read (seatOf b) ≠ [] ∨
        s.lbi.service.read (seatOf b) ≠ none
      (inUse → exec (.configWriteRosterEntry serviceSeat) s = .next (s.answer serviceSeat r .inUse [])) ∧
      (¬inUse → exec (.configWriteRosterEntry serviceSeat) s = .next (State.answer
        { s with
          lbi :=
            { s.lbi with
              roster := s.lbi.roster.write b
                { station := BitVec.ofNat 4 (r.word 1).toNat, enabled := e, editor := g } } }
        serviceSeat r .done []))) ∧
    (∀ q e seat, seat = serviceSeat ∨ q = seat → s.servesWrite seat (.eventMask q) r → 3 ≤ r.payload.length →
      r.word 2 = BitVec.ofNat 16 (if e = true then 1 else 0) →
      exec (.configWriteEventMask seat) s = .next (State.answer
        { s with
          evu :=
            { s.evu with
              masks := s.evu.masks.write q ((r.word 1).extractLsb' 0 12)
              attention := s.evu.attention.write q e } } seat r .done []))

/-- R10, R12, R15, R16, R169: an editor seat's writes of the static limits, the fallback and the default hold of a
channel that is no odd member of a formed pair; 65535 in a field of the first two keeps its present value, and limits
that would then stand wrong way round are refused BAD_VALUE. While the record holds a live demand, or its pair moves,
and the channel is not shut off, each is refused IN_USE and changes nothing; otherwise it is taken. The limits leave
the winner and the arbitrated value, the effective command being recomputed; the fallback makes the record arbitrate
anew, its slots staying; the default hold leaves the slots. The outputs take the command that changed; every other
record stays, and nothing else changes. -/
def Obligations.ChannelSettingsAreHeldInUse : Prop :=
  ∀ (s : State) (seat : Seat) (r : Request) (c : OutCh), s.editor seat = true → s.odu.oddMember c = false →
    let was := s.record c
    let keeps (i : Nat) (now : Nat) : Nat := if r.word i = 65535#16 then now else (r.word i).toNat
    (s.servesWrite seat (.staticLimits c) r → 3 ≤ r.payload.length →
      (r.word 1 = 65535#16 ∨ (r.word 1).toNat ≤ 1000) → (r.word 2 = 65535#16 ∨ (r.word 2).toNat ≤ 1000) →
      let lo := keeps 1 was.staticMin
      let hi := keeps 2 was.staticMax
      (hi < lo → exec (.configWriteStaticLimits seat) s = .next (s.answer seat r .badValue [])) ∧
      (lo ≤ hi → s.settingsHeld c = true → exec (.configWriteStaticLimits seat) s = .next (s.answer seat r .inUse [])) ∧
      (lo ≤ hi → s.settingsHeld c = false → ∃ t : State,
        exec (.configWriteStaticLimits seat) s = .next (t.answer seat r .done []) ∧
        t = (s.withRecords fun c' rec => if c' = c then Record.settle { rec with staticMin := lo, staticMax := hi }
          else rec) ∧
        t.record c = Record.settle { was with staticMin := lo, staticMax := hi } ∧
        (∀ c', c' ≠ c → t.record c' = s.record c') ∧ t.shu = s.shu ∧ t.lbi = s.lbi ∧ t.evu = s.evu)) ∧
    (s.servesWrite seat (.fallback c) r → 3 ≤ r.payload.length → (r.word 1 = 65535#16 ∨ (r.word 1).toNat ≤ 1) →
      (r.word 2 = 65535#16 ∨ (r.word 2).toNat ≤ 1000) →
      let mode : FallbackMode :=
        if r.word 1 = 65535#16 then was.fallbackMode else if r.word 1 = 0 then .fixed else .holdLast
      let value := keeps 2 was.fallbackValue
      (s.settingsHeld c = true → exec (.configWriteFallback seat) s = .next (s.answer seat r .inUse [])) ∧
      (s.settingsHeld c = false → ∃ t : State,
        exec (.configWriteFallback seat) s = .next (t.answer seat r .done []) ∧
        t = (s.withRecords fun c' rec =>
          if c' = c then s.judgeRecord { rec with fallbackMode := mode, fallbackValue := value } else rec) ∧
        (t.record c).fallbackMode = mode ∧ (t.record c).fallbackValue = value ∧
        ((∀ q, was.slot q = none) → (t.record c).arbitrated =
          if mode = .fixed then value else was.lastWon.getD value) ∧
        (t.record c).effective = (t.record c).bound.apply (t.record c).limited ∧
        (t.record c).slots = was.slots ∧
        (∀ c', c' ≠ c → t.record c' = s.record c') ∧ t.shu = s.shu ∧ t.lbi = s.lbi ∧ t.evu = s.evu)) ∧
    (s.servesWrite seat (.defaultHold c) r → 2 ≤ r.payload.length → 1 ≤ (r.word 1).toNat → (r.word 1).toNat ≤ 600 →
      (s.settingsHeld c = true → exec (.configWriteDefaultHold seat) s = .next (s.answer seat r .inUse [])) ∧
      (s.settingsHeld c = false → ∃ t : State,
        exec (.configWriteDefaultHold seat) s = .next (t.answer seat r .done []) ∧
        t = { s with cmdt := { s.cmdt with records := t.cmdt.records } } ∧
        t.record c = { was with defaultHold := (r.word 1).toNat } ∧
        (∀ c', c' ≠ c → t.record c' = s.record c') ∧ t.shu = s.shu ∧ t.lbi = s.lbi ∧ t.evu = s.evu))

/-- R16, R45, R116, R118, R129: an editor seat's writes of a polarity, of minimum times and of a period. The first two
are refused IN_USE while the channel's record holds a demand, or its formed pair is in any state but IDLE, and the
channel is not shut off. The polarity of a channel outside a formed pair waits for the period end, and of a formed
pair's even channel acts at once; its odd channel is refused BAD_TARGET. The minimum times of a discrete channel
replace the old, and a held change whose minimum is then met is applied where the channel drives. A period from 100 to
4000 goes to the buffer of its group, whatever its channels do, and replaces what is there; any other is refused
BAD_VALUE. -/
def Obligations.DriveItemsAreTaken : Prop :=
  (∀ (s : State) (c : OutCh), s.settingsHeld c = true ↔ s.shutOff c = false ∧
    ((∃ q, (s.record c).slot q ≠ none) ∨
      ∃ k p, (c = evenCh k ∨ c = oddCh k) ∧ (s.odu.pairs.read k).run = some p ∧ p.state ≠ .idle)) ∧
  ∀ (s : State) (seat : Seat) (r : Request), s.editor seat = true →
    (∀ (m : ModCh) (pol : Polarity), s.servesWrite seat (.output (modCh m)) r → 2 ≤ r.payload.length →
      r.word 1 = BitVec.ofNat 16 pol.number →
      (s.odu.oddMember (modCh m) = true →
        exec (.configWriteOutputPolarity seat) s = .next (s.answer seat r .badTarget [])) ∧
      (s.odu.oddMember (modCh m) = false → s.settingsHeld (modCh m) = true →
        exec (.configWriteOutputPolarity seat) s = .next (s.answer seat r .inUse [])) ∧
      (s.odu.oddMember (modCh m) = false → s.settingsHeld (modCh m) = false →
        let was := s.odu.mods.read m
        let now : Modulated :=
          { was with
            polarity := pol
            activePolarity := if s.odu.member (modCh m) then pol else was.activePolarity }
        exec (.configWriteOutputPolarity seat) s = .next (State.answer
          { s with odu := { s.odu with mods := s.odu.mods.write m now } } seat r .done []))) ∧
    (∀ d : DiscCh, s.servesWrite seat (.output (discCh d)) r → 3 ≤ r.payload.length → (r.word 1).toNat ≤ 600 →
      (r.word 2).toNat ≤ 600 →
      let was := s.odu.discretes.read d
      let minimum := 100 * (if was.on then (r.word 1).toNat else (r.word 2).toNat)
      let taken (now : Discrete) : Host.Outcome State Fault Refusal := .next (State.answer
        { s with odu := { s.odu with discretes := s.odu.discretes.write d now } } seat r .done [])
      let replaced : Discrete := { was with minOn := (r.word 1).toNat, minOff := (r.word 2).toNat }
      (s.settingsHeld (discCh d) = true →
        exec (.configWriteMinimumTimes seat) s = .next (s.answer seat r .inUse [])) ∧
      (s.settingsHeld (discCh d) = false → (was.held = none ∨ s.shutOff (discCh d) = true ∨ was.time < minimum) →
        exec (.configWriteMinimumTimes seat) s = taken replaced) ∧
      ∀ want, s.settingsHeld (discCh d) = false → was.held = some want → want ≠ was.on →
        s.shutOff (discCh d) = false → minimum ≤ was.time →
        exec (.configWriteMinimumTimes seat) s = taken { replaced with on := want, time := 0, held := none }) ∧
    (∀ g : GroupNo, s.servesWrite seat (.period g) r → 2 ≤ r.payload.length →
      (100 ≤ (r.word 1).toNat ∧ (r.word 1).toNat ≤ 4000 →
        let now : Group := { s.odu.groups.read g with buffered := some (r.word 1).toNat }
        exec (.configWritePeriod seat) s = .next (State.answer
          { s with odu := { s.odu with groups := s.odu.groups.write g now } } seat r .done [])) ∧
      ((r.word 1).toNat < 100 ∨ 4000 < (r.word 1).toNat →
        exec (.configWritePeriod seat) s = .next (s.answer seat r .badValue [])))

/-- R16, R17, R119, R120, R121, R140: an editor seat's writes of a pair item in range. A write that keeps the formed
mark replaces the settings; it and dissolving are refused IN_USE while the even record holds a demand or the pair
moves, unless the pair is shut off. Forming over a channel that a circuit lists is refused BAD_VALUE, and over a live
demand in either record IN_USE unless both channels are shut off. Forming an idle pair of channels that no circuit
lists gives it estimate 0 and UNSYNCED, its target the even record's effective command, and the odd record keeps no
slot. Where both drive it starts IDLE or, with its target beyond the deadband, SYNCING; where either is shut off, the
pair is, at rest or in its UNSYNCED safe drive, and the odd latch is DRIVING. The odd record is unused from the forming
to the dissolving, which gives it its fallback. Dissolving a pair leaves both pins at
their inactive levels until the period end, with held commands as their records give them; of a driving pair, each
channel is then judged on its own mask; of a shut-off one, both channels are shut off, each pin at its own line safe
action, and no SHUTOFF is raised. That HOLD then keeps the inactive level is the model's reading (assumption 30), and
that this is the level of the polarity last written its choice (36). -/
def Obligations.PairItemsFormAndPart : Prop :=
  ∀ (s : State) (seat : Seat) (r : Request) (k : PairNo), s.editor seat = true → s.servesWrite seat (.pair k) r →
    5 ≤ r.payload.length → 10 ≤ (r.word 2).toNat → (r.word 2).toNat ≤ 600 → 1 ≤ (r.word 3).toNat →
    (r.word 3).toNat ≤ 50 → 100 ≤ (r.word 4).toNat → (r.word 4).toNat ≤ 10000 → (r.word 4).toNat % 10 = 0 →
    let refused (c : Code) : Host.Outcome State Fault Refusal := .next (s.answer seat r c [])
    let listed : Prop := ∃ n, (s.circuit n).lists (evenCh k) = true ∨ (s.circuit n).lists (oddCh k) = true
    let live (c : OutCh) : Prop := ∃ q, (s.record c).slot q ≠ none
    let bothOff : Prop := s.shutOff (evenCh k) = true ∧ s.shutOff (oddCh k) = true
    let q := s.odu.pairs.read k
    let ofPair (c : OutCh) : Prop := c = evenCh k ∨ c = oddCh k
    let settings (run : Option PairRun) : Pair :=
      { stroke := (r.word 2).toNat, deadband := (r.word 3).toNat, deadTime := (r.word 4).toNat, run := run }
    let formed (t : State) (p : PairRun) : Prop :=
      t.odu = { s.odu with pairs := s.odu.pairs.write k (settings (some p)) } ∧
        p.target = (s.record (evenCh k)).effective ∧ p.estimate = 0 ∧ p.unsynced = true ∧ p.deadLeft = none ∧
        p.lastReleased = none ∧
        (∀ seat', (t.record (oddCh k)).slot seat' = none) ∧ (∀ c, c ≠ oddCh k → t.record c = s.record c) ∧
        t.record (oddCh k) = { s.record (oddCh k) with slots := (t.record (oddCh k)).slots, winner := none } ∧
        t.evu = s.evu ∧ t.lbi = s.lbi ∧ t = { s with
          odu := t.odu, cmdt := { s.cmdt with records := t.cmdt.records }
          shu := { s.shu with records := t.shu.records } }
    let parted (t : State) : Prop :=
      t.odu.pairs = s.odu.pairs.write k (settings none) ∧ t.odu.discretes = s.odu.discretes ∧
        (∀ m : ModCh, ofPair (modCh m) → (t.odu.mods.read m).held = (t.record (modCh m)).effective ∧
          t.odu.mods.read m = { s.odu.mods.read m with
            held := (t.record (modCh m)).effective, activePolarity := (s.odu.mods.read m).polarity
            forced := some (t.pinLevel m) }) ∧
        (∀ g, t.odu.groups.read g = { s.odu.groups.read g with counter := (t.odu.groups.read g).counter }) ∧
        t.record (oddCh k) = { s.record (oddCh k) with
          slots := (t.record (oddCh k)).slots, winner := none, effective := (t.record (oddCh k)).effective
          arbitrated := match (s.record (oddCh k)).fallbackMode, (s.record (oddCh k)).lastWon with
            | .holdLast, some v => v
            | .holdLast, none => (s.record (oddCh k)).fallbackValue
            | .fixed, _ => (s.record (oddCh k)).fallbackValue } ∧
        t = { s with
          odu := t.odu, cmdt := { s.cmdt with records := t.cmdt.records }
          shu := { s.shu with records := t.shu.records }, evu := t.evu, moment := t.moment } ∧
        (∀ m : ModCh, ¬ofPair (modCh m) → t.odu.mods.read m = s.odu.mods.read m) ∧
        (∀ seat', (t.record (oddCh k)).slot seat' = none) ∧ (t.record (oddCh k)).winner = none ∧
        (t.record (oddCh k)).effective = (t.record (oddCh k)).bound.apply (t.record (oddCh k)).limited ∧
        (∀ c, c ≠ oddCh k → t.record c = s.record c) ∧ t.lbi = s.lbi
    let latched (t : State) (off : OutCh → Prop) : Prop :=
      ∀ c, (t.shutOff c = true ↔ off c) ∧ t.shutoff c = { s.shutoff c with latched := t.shutOff c }
    (r.word 1 = (if q.isFormed then 1#16 else 0#16) →
      (s.settingsHeld (evenCh k) = true → exec (.configWritePair seat) s = refused .inUse) ∧
      (s.settingsHeld (evenCh k) = false → exec (.configWritePair seat) s = .next (State.answer
        { s with odu := { s.odu with pairs := s.odu.pairs.write k (settings q.run) } } seat r .done []))) ∧
    (r.word 1 = 1#16 → q.run = none → listed → exec (.pairForm seat) s = refused .badValue) ∧
    (r.word 1 = 1#16 → q.run = none → ¬listed →
      (¬bothOff → live (evenCh k) ∨ live (oddCh k) → exec (.pairForm seat) s = refused .inUse) ∧
      (s.shutOff (evenCh k) = false → s.shutOff (oddCh k) = false → ¬live (evenCh k) → ¬live (oddCh k) →
        ∃ (t : State) (p : PairRun), exec (.pairForm seat) s = .next (t.answer seat r .done []) ∧ formed t p ∧
          p.state = (if (s.record (evenCh k)).effective ≤ (r.word 3).toNat then .idle else .syncing) ∧
          (p.state = .syncing → p.left = 110 * (r.word 2).toNat) ∧ t.shu = s.shu) ∧
      ((s.shutOff (evenCh k) = true ∨ s.shutOff (oddCh k) = true) →
        (bothOff ∨ ¬live (evenCh k) ∧ ¬live (oddCh k)) →
        ∃ (t : State) (p : PairRun), exec (.pairForm seat) s = .next (t.answer seat r .done []) ∧ formed t p ∧
          ((s.shutoff (evenCh k)).pair = .stop → p.state = .safeRest) ∧
          (∀ d, (s.shutoff (evenCh k)).pair = .drive d → p.state = .safeDriving d ∧ p.left = 110 * (r.word 2).toNat) ∧
          latched t fun c => c = evenCh k ∨ c ≠ oddCh k ∧ s.shutOff c = true)) ∧
    (r.word 1 = 0#16 → q.isFormed = true →
      (s.settingsHeld (evenCh k) = true → exec (.pairDissolve seat) s = refused .inUse) ∧
      (s.settingsHeld (evenCh k) = false → s.shutOff (evenCh k) = false → s.shutOff (oddCh k) = false →
        let caught (c : OutCh) : Prop := ofPair c ∧ (s.heldCauses c (s.shutoff c).mask).any = true
        ∃ t : State, exec (.pairDissolve seat) s = .next (t.answer seat r .done []) ∧ parted t ∧
          (∀ m : ModCh, ofPair (modCh m) → ¬caught (modCh m) →
            t.pinLevel m = levelAt (s.odu.mods.read m).polarity false) ∧
          (∀ m : ModCh, caught (modCh m) →
            t.pinLevel m = (s.shutoff (modCh m)).line.pinLevel (levelAt (s.odu.mods.read m).polarity false)) ∧
          latched t (fun c => s.shutOff c = true ∨ caught c) ∧
          ((∀ c, ¬caught c) → t.evu = s.evu) ∧ ((∃ c, caught c) →
            t.evu = s.evu.raiseAll .shutoff ∧ ∀ seat', t.flag seat' .shutoff = .fresh)) ∧
      (s.shutOff (evenCh k) = true →
        ∃ t : State, exec (.pairDissolve seat) s = .next (t.answer seat r .done []) ∧ parted t ∧
          (∀ m : ModCh, ofPair (modCh m) →
            t.pinLevel m = (s.shutoff (modCh m)).line.pinLevel (levelAt (s.odu.mods.read m).polarity false)) ∧
          latched t (fun c => s.shutOff c = true ∨ ofPair c) ∧ t.evu = s.evu))

/-- R134, R136 to R139: an editor seat's write of the shutoff item of a channel that is no odd member of a formed
pair; a pair safe action other than STOP is an even channel's from 0 to 23 alone. The three fields are replaced. A
driving channel whose new mask names a cause that holds is shut off by the new actions, and SHUTOFF is raised in all
four sets; the latch of a shut-off channel, and of every other, stays. A shut-off channel whose safe action changes,
that is, of a formed pair its pair action and of any other channel its line action, takes the new action at once; no
other output changes. A write that would take FROST_TRIP from a fan is refused BAD_VALUE; one that keeps it is taken.
Bits 15 to 3 of the mask word are spare (the model's readings, assumptions 14 and 41). -/
def Obligations.ShutoffWriteJudgesTheMask : Prop :=
  ∀ (s : State) (seat : Seat) (r : Request) (ch : Fin 64) (c : OutCh) (a : LineAction)
    (pa : PairAction), s.editor seat = true →
    s.servesWrite seat (.shutoff ch) r → ch.val = c.val → s.odu.oddMember c = false → 4 ≤ r.payload.length →
    r.word 2 = BitVec.ofNat 16 a.number → r.word 3 = BitVec.ofNat 16 pa.number →
    (pa ≠ .stop → c.val < 24 ∧ c.val % 2 = 0) →
    ((∃ n, c ∈ (s.circuit n).fans) → (r.word 1).getLsbD 0 = false →
      exec (.configWriteShutoff seat) s = .next (s.answer seat r .badValue [])) ∧
    ((∀ n, c ∉ (s.circuit n).fans) ∨ (r.word 1).getLsbD 0 = true →
      ∃ t : State, exec (.configWriteShutoff seat) s = .next (t.answer seat r .done []) ∧
      (t.shutoff c).mask = { frostTrip := (r.word 1).getLsbD 0, orphan := (r.word 1).getLsbD 1,
                             emergency := (r.word 1).getLsbD 2 } ∧
      (t.shutoff c).line = a ∧ (t.shutoff c).pair = pa ∧
      (let caught := (s.heldCauses c (t.shutoff c).mask).any
       let item : Shutoff := { s.shutoff c with mask := (t.shutoff c).mask, line := a, pair := pa }
       let written : State := { s with shu := { s.shu with records := s.shu.records.write c item } }
       let inUse (x : Shutoff) : LineAction × Option PairAction :=
         if s.odu.member c = true then (.low, some x.pair) else (x.line, none)
       t.shutOff c = (s.shutOff c || caught) ∧
       (s.shutOff c = false → shutDown written t fun c' => c' = c ∧ caught = true) ∧
       (s.shutOff c = true → inUse item = inUse (s.shutoff c) → t = written) ∧
       (s.shutOff c = true → inUse item ≠ inUse (s.shutoff c) → outputsStruck written t.odu (fun c' => c' = c) ∧
         t = { written with odu := t.odu, moment := t.moment }) ∧
       (s.shutOff c = false → caught = true → ∀ q, t.flag q .shutoff = .fresh) ∧
       (s.shutOff c = false → caught = false → t.odu = s.odu ∧ t.evu = s.evu)) ∧
      (∀ c', c' ≠ c → t.shutoff c' = s.shutoff c') ∧ t.cmdt = s.cmdt ∧ t.circuits = s.circuits ∧ t.lbi = s.lbi)

/-- R64, R65, R70, R77, R78, R79: an editor seat's writes of the measurement items. Each replaces its fields and is
answered DONE, and leaves every result and the conversion in flight; a breakpoint write while the scan runs is refused
IN_USE. That a breakpoint may be 65535, which is −1, is the model's choice (assumption 41). A scan that waits for an
enabled channel begins a pass anew at a settings or range write, by the new settings and range. -/
def Obligations.MeasurementItemsAreTaken : Prop :=
  ∀ (s : State) (seat : Seat) (r : Request), s.editor seat = true →
    let done (m : Smu) : Host.Outcome State Fault Refusal := .next (State.answer { s with smu := m } seat r .done [])
    let chooses (c : Instr) (m : Smu) : Prop :=
      (s.smu.running = none ∨ s.smu.conversion ≠ none → exec c s = done m) ∧
      ∀ mode, s.smu.running = some mode → s.smu.conversion = none → ∃ m', m.passBegun m' mode ∧ exec c s = done m'
    (∀ (n : SensorCh) (e : Bool) (ref table : Fin 2) (shift : Fin 5), s.servesWrite seat (.sensorSettings n) r →
      5 ≤ r.payload.length → r.word 1 = BitVec.ofNat 16 (if e = true then 1 else 0) →
      r.word 2 = BitVec.ofNat 16 ref.val → r.word 3 = BitVec.ofNat 16 table.val →
      r.word 4 = BitVec.ofNat 16 shift.val →
      chooses (.configWriteSensorSettings seat) { s.smu with settings := (s.smu.settings.write n
        { enabled := e, reference := ref, table := table, shift := shift }) }) ∧
    (∀ n, s.servesWrite seat (.reference n) r → 2 ≤ r.payload.length →
      ((r.word 1).toNat = 256 ∨ (r.word 1).toNat = 1024 ∨ (r.word 1).toNat = 4096 →
        exec (.configWriteReference seat) s = done { s.smu with cycles := s.smu.cycles.write n (r.word 1).toNat }) ∧
      ((r.word 1).toNat ≠ 256 ∧ (r.word 1).toNat ≠ 1024 ∧ (r.word 1).toNat ≠ 4096 →
        exec (.configWriteReference seat) s = .next (s.answer seat r .badValue []))) ∧
    (∀ t k, s.servesWrite seat (.breakpoint t k) r → 2 ≤ r.payload.length →
      (s.smu.running = none → exec (.configWriteBreakpoint seat) s = done
        { s.smu with tables := s.smu.tables.write t ((s.smu.tables.read t).write k (r.word 1).toInt) }) ∧
      (s.smu.running ≠ none → exec (.configWriteBreakpoint seat) s = .next (s.answer seat r .inUse []))) ∧
    (∀ lo hi : SensorCh, s.servesWrite seat .scanRange r → 3 ≤ r.payload.length →
      r.word 1 = BitVec.ofNat 16 lo.val → r.word 2 = BitVec.ofNat 16 hi.val →
      (lo ≤ hi → chooses (.configWriteScanRange seat) { s.smu with rangeStart := lo, rangeEnd := hi }) ∧
      (hi < lo → exec (.configWriteScanRange seat) s = .next (s.answer seat r .badValue []))) ∧
    (∀ single : Bool, s.servesWrite seat .scanMode r → 2 ≤ r.payload.length →
      r.word 1 = BitVec.ofNat 16 (if single = true then 1 else 0) →
      exec (.configWriteScanMode seat) s = done
        { s.smu with modeItem := if single = true then .single else .continuous })

/-- R91, R94, R95, R96, R97: an editor seat's writes of the items of a circuit record. Where the stage is not DISABLED
each is refused STAGE_HOLDS, whatever its content. The sensors, thresholds and times of a DISABLED circuit, with values
in range, are replaced and nothing else changes. Its flow field is replaced, and the proof judged anew; a changed proof
is recorded in circuit and pulse unit, and raises FLOW in all four sets. That STAGE_HOLDS comes before the checks of
the fields is the model's reading (assumption 13), and that 65535 is taken as a value of the freeze point, −1, and in a
word of P_max, its choice (41). -/
def Obligations.CircuitItemsAreTakenWhileDisabled : Prop :=
  ∀ (s : State) (seat : Seat) (r : Request) (n : CircuitNo), s.editor seat = true →
    let replaced (c : Circuit) : Host.Outcome State Fault Refusal :=
      .next (State.answer { s with circuits := s.circuits.write n c } seat r .done [])
    ((s.circuit n).stage ≠ .disabled →
      (s.servesWrite seat (.circuitSensors n) r →
        exec (.configWriteCircuitSensors seat) s = .next (s.answer seat r .stageHolds [])) ∧
      (s.servesWrite seat (.circuitOutputs n) r →
        exec (.configWriteCircuitOutputs seat) s = .next (s.answer seat r .stageHolds [])) ∧
      (s.servesWrite seat (.circuitFlow n) r →
        exec (.configWriteCircuitFlow seat) s = .next (s.answer seat r .stageHolds [])) ∧
      (s.servesWrite seat (.circuitThresholds n) r →
        exec (.configWriteCircuitThresholds seat) s = .next (s.answer seat r .stageHolds [])) ∧
      (s.servesWrite seat (.circuitTimes n) r →
        exec (.configWriteCircuitTimes seat) s = .next (s.answer seat r .stageHolds []))) ∧
    ((s.circuit n).stage = .disabled →
      (∀ set : List SensorCh, s.servesWrite seat (.circuitSensors n) r → 3 ≤ r.payload.length →
        (r.word 1).toNat ≤ 255 →
        set = (List.finRange 24).filter (fun c => (65536 * (r.word 1).toNat + (r.word 2).toNat).testBit c.val) →
        1 ≤ set.length → set.length ≤ 4 → (∀ c ∈ set, ∀ o, o ≠ n → c ∉ (s.circuit o).guardSet) →
        exec (.configWriteCircuitSensors seat) s = replaced { s.circuit n with guardSet := set }) ∧
      (s.servesWrite seat (.circuitThresholds n) r → 6 ≤ r.payload.length →
        -6000 ≤ (r.word 1).toInt → (r.word 1).toInt ≤ 0 → (r.word 2).toNat ≤ 3000 →
        (r.word 3).toNat < (r.word 2).toNat → (r.word 4).toNat + 50 ≤ (r.word 3).toNat → (r.word 5).toNat ≤ 300 →
        exec (.configWriteCircuitThresholds seat) s = replaced
          { s.circuit n with
            freezePoint := (r.word 1).toInt, mWatch := (r.word 2).toNat, mAct := (r.word 3).toNat,
            mTrip := (r.word 4).toNat, hysteresis := (r.word 5).toNat }) ∧
      (s.servesWrite seat (.circuitTimes n) r → 4 ≤ r.payload.length → (r.word 1).toNat ≤ 1000 →
        10 ≤ (r.word 2).toNat → (r.word 2).toNat ≤ 3600 → 1 ≤ (r.word 3).toNat → (r.word 3).toNat ≤ 600 →
        exec (.configWriteCircuitTimes seat) s = replaced
          { s.circuit n with
            pumpMin := (r.word 1).toNat, tripDwell := (r.word 2).toNat, flowGrace := (r.word 3).toNat }) ∧
      (s.servesWrite seat (.circuitFlow n) r → 4 ≤ r.payload.length → r.word 1 = 65535#16 →
        (s.piu.proven.read n = true →
          exec (.configWriteCircuitFlow seat) s = replaced { s.circuit n with flow := none }) ∧
        (s.piu.proven.read n = false → exec (.configWriteCircuitFlow seat) s = .next (State.answer { s with
          circuits := s.circuits.write n { s.circuit n with flow := none, proven := true }
          piu := { s.piu with proven := s.piu.proven.write n true }, evu := s.evu.raiseAll .flow } seat r .done []))) ∧
      (∀ (ch : PulseCh) (pMax : Nat), s.servesWrite seat (.circuitFlow n) r → 4 ≤ r.payload.length →
        r.word 1 = BitVec.ofNat 16 ch.val → pMax = 65536 * (r.word 2).toNat + (r.word 3).toNat → 1 ≤ pMax →
        pMax ≤ 1048575 → (∀ o, o ≠ n → ∀ p, (s.circuit o).flow ≠ some (ch, p)) →
        let proof := match (s.piu.channels.read ch).period with
          | some p => decide (p ≤ pMax)
          | none => false
        ∃ t : State, exec (.configWriteCircuitFlow seat) s = .next (t.answer seat r .done []) ∧
          (proof = s.piu.proven.read n →
            t = { s with circuits := s.circuits.write n { s.circuit n with flow := some (ch, pMax) } }) ∧
          (proof ≠ s.piu.proven.read n →
            t = { s with circuits := t.circuits, piu := t.piu, evu := s.evu.raiseAll .flow } ∧
            t.circuits = s.circuits.write n { s.circuit n with flow := some (ch, pMax), proven := proof } ∧
            t.piu = { s.piu with proven := s.piu.proven.write n proof } ∧ (∀ q, t.flag q .flow = .fresh) ∧
            t.cmdt = s.cmdt ∧ t.odu = s.odu ∧ t.shu = s.shu ∧ t.lbi = s.lbi)))

/-- R14, R15, R94, R95, R96: an editor seat's outputs write to a DISABLED circuit. It is refused BAD_VALUE where it
lists too many channels or one out of range, a fan or pump that is a member of a formed pair, a fan whose mask lacks
FROST_TRIP, a bypass that is an odd member, a channel in two of its lists, or a channel of another circuit. Any other
is taken: the lists are replaced; each channel listed has the role of its list and the circuit in its record, under no
bound; each record that named the circuit and is no longer listed returns to role NONE; every slot, winner and setting
stays, and the outputs take the commands that changed. Nothing else changes. -/
def Obligations.CircuitOutputsSetTheRoles : Prop :=
  ∀ (s : State) (seat : Seat) (r : Request) (n : CircuitNo), s.editor seat = true →
    s.servesWrite seat (.circuitOutputs n) r → (s.circuit n).stage = .disabled →
    let fanBits := 65536 * (r.word 1).toNat + (r.word 2).toNat
    let pumpBits := 65536 * (r.word 4).toNat + (r.word 5).toNat
    let fan (c : OutCh) : Prop := fanBits.testBit c.val = true
    let bypass (c : OutCh) : Prop := (r.word 3).toNat = c.val
    let pump (c : OutCh) : Prop := pumpBits.testBit c.val = true
    let count (bits : Nat) : Nat := ((List.finRange 32).filter fun c => bits.testBit c.val).length
    let odd (c : OutCh) : Prop := ∃ k, (s.odu.pairs.read k).run ≠ none ∧ c = oddCh k
    let member (c : OutCh) : Prop := ∃ k, (s.odu.pairs.read k).run ≠ none ∧ (c = evenCh k ∨ c = oddCh k)
    let other (c : OutCh) : Prop := ∃ o, o ≠ n ∧
      (c ∈ (s.circuit o).fans ∨ (s.circuit o).bypass = some c ∨ c ∈ (s.circuit o).pumps)
    let wrong : Prop := r.payload.length < 6 ∨ 2 ^ 24 ≤ fanBits ∨
      24 ≤ (r.word 3).toNat ∧ (r.word 3).toNat ≠ 65535 ∨ 6 < count fanBits ∨ 2 < count pumpBits ∨
      (∃ c, fan c ∧ (member c ∨ (s.shutoff c).mask.frostTrip = false)) ∨ (∃ c, bypass c ∧ odd c) ∨
      (∃ c, pump c ∧ member c) ∨ (∃ c, fan c ∧ bypass c ∨ fan c ∧ pump c ∨ bypass c ∧ pump c) ∨
      ∃ c, (fan c ∨ bypass c ∨ pump c) ∧ other c
    (wrong → exec (.configWriteCircuitOutputs seat) s = .next (s.answer seat r .badValue [])) ∧
    (¬wrong → ∃ t : State,
      exec (.configWriteCircuitOutputs seat) s = .next (t.answer seat r .done []) ∧
      (∃ fans b pumps, t.circuits = s.circuits.write n { s.circuit n with fans := fans, bypass := b, pumps := pumps } ∧
        fans.Nodup ∧ pumps.Nodup ∧ ∀ c, (c ∈ fans ↔ fan c) ∧ (b = some c ↔ bypass c) ∧ (c ∈ pumps ↔ pump c)) ∧
      t = State.withRecords { s with circuits := t.circuits } (fun c _ => t.record c) ∧
      (∀ c, s.odu.oddMember c = false →
        let was := s.record c
        let listed (role : Role) : Record :=
          { was with role := role, circuit := some n, bound := .none, effective := was.limited }
        (t.record c).slots = was.slots ∧ (t.record c).winner = was.winner ∧
        (fan c → t.record c = listed .fan) ∧ (bypass c → t.record c = listed .bypass) ∧
        (pump c → t.record c = listed .pump) ∧
        (¬(fan c ∨ bypass c ∨ pump c) →
          (was.circuit = some n → t.record c =
            { was with role := .none, circuit := none, bound := .none, effective := was.limited }) ∧
          (was.circuit ≠ some n → t.record c = was))) ∧
      t.shu = s.shu ∧ t.lbi = s.lbi ∧ t.evu = s.evu ∧ t.pdir = s.pdir)

/-! ### Sensor measurement and pulse inputs -/

/-- R66, R76, R78, R80: the three SCAN requests of an editor seat. START takes the mode of the mode item and SINGLE the
mode SINGLE; a scan that runs already is left and the request refused IN_USE. A stopped scan begins at the lowest
enabled channel of the range, latching its settings; with none enabled a CONTINUOUS scan runs on without a conversion
and a SINGLE one is stopped. STOP abandons the conversion and leaves every result. -/
def Obligations.ScanRequestsAct : Prop :=
  ∀ (s : State) (seat : Seat) (r : Request), s.editor seat = true → s.serves seat .scan r →
    let started (running : Option ScanMode) (v : Option Conversion) : Host.Outcome State Fault Refusal :=
      .next (State.answer { s with smu := { s.smu with running := running, conversion := v } } seat r .done [])
    (∀ c : SensorCh, s.smu.rangeStart ≤ c → c ≤ s.smu.rangeEnd → (s.smu.settings.read c).enabled = true →
      (∀ c', s.smu.rangeStart ≤ c' → c' < c → (s.smu.settings.read c').enabled = false) →
      let g := s.smu.settings.read c
      let v : Conversion :=
        { channel := c, reference := g.reference, table := g.table, shift := g.shift,
          cycles := s.smu.cycles.read g.reference, phase := .reference }
      (r.word 0 = 0#16 → s.smu.running = none →
        exec (.scanStart seat) s = started (some s.smu.modeItem) (some v)) ∧
      (r.word 0 = 1#16 → s.smu.running = none → exec (.scanSingle seat) s = started (some .single) (some v))) ∧
    ((∀ c, s.smu.rangeStart ≤ c → c ≤ s.smu.rangeEnd → (s.smu.settings.read c).enabled = false) →
      (r.word 0 = 0#16 → s.smu.running = none → s.smu.modeItem = .continuous →
        exec (.scanStart seat) s = started (some .continuous) none) ∧
      (r.word 0 = 1#16 → s.smu.running = none → exec (.scanSingle seat) s = started none none)) ∧
    (r.word 0 = 0#16 → s.smu.running ≠ none → exec (.scanStart seat) s = .next (s.answer seat r .inUse [])) ∧
    (r.word 0 = 1#16 → s.smu.running ≠ none → exec (.scanSingle seat) s = .next (s.answer seat r .inUse [])) ∧
    (r.word 0 = 2#16 → exec (.scanStop seat) s = started none none)

/-- R67, R68, R69, R75, R78, R99: the ends of a conversion's phases. A count from 1000 to below the top starts the
sensor phase and changes no result; any other completes the conversion as REF_FAULT, with T_sens 0 and the ratio kept.
A sensor phase completes it as OPEN at the overflow, and else by its ratio: OPEN above 65535, SHORT below 2048, good
between. The result entry is the one that outcome makes of the old (ValidityFollowsTheRun), by the table and the shift
that the conversion latched. The sample count advances by one, modulo 256, other channels' results stay, and SENSOR is
raised exactly where the validity changed. The completed conversion of a channel that one circuit guards then
evaluates that circuit, on the new result; that of a channel that none guards ends there. The scan then goes on with
the next enabled channel of its range; with none left a CONTINUOUS scan begins a new pass and a SINGLE one stops. The
counts are operands, 16,777,215 the overflow (the model's choice, assumptions 7 and 28). -/
def Obligations.PhasesEndConversions : Prop :=
  ∀ (s : State) (v : Conversion) (count : BitVec 24), s.smu.conversion = some v →
    let was := s.smu.results.read v.channel
    let completes (c : Instr) (o : ConversionOutcome) (t : State) : Prop :=
      (t.smu.results.read v.channel = was.complete (s.smu.tables.read v.table) v.shift o ∧
        (t.smu.results.read v.channel).samples = (was.samples + 1) % 256 ∧
        (∀ c, c ≠ v.channel → t.smu.results.read c = s.smu.results.read c) ∧
        ((t.smu.results.read v.channel).validity = was.validity → t.evu = s.evu) ∧
        ((t.smu.results.read v.channel).validity ≠ was.validity → ∀ q f,
          t.flag q f = if f = .sensor then .fresh else s.flag q f) ∧
        t = { s with smu := t.smu, evu := t.evu } ∧ t.smu.settings = s.smu.settings ∧ t.smu.tables = s.smu.tables ∧
        (∀ mode, s.smu.running = some mode →
          Smu.chosenAfter { s.smu with results := t.smu.results } t.smu mode v.channel) ∧
        ((∀ n, v.channel ∉ (s.circuit n).guardSet) → exec c s = .next t) ∧
        ∀ n, (∀ m, v.channel ∈ (s.circuit m).guardSet ↔ m = n) → exec c s = .next (t.evaluate n))
    (v.phase = .reference → 1000 ≤ count.toNat → count.toNat < 16777215 →
      exec (.referencePhaseEnd count) s = .next
        { s with smu := { s.smu with conversion := some { v with phase := .sensor count.toNat } } }) ∧
    (v.phase = .reference → (count.toNat < 1000 ∨ count.toNat = 16777215) →
      ∃ t, completes (.referencePhaseEnd count) (.refFault count.toNat) t ∧
        (t.smu.results.read v.channel).tRef = count.toNat ∧ (t.smu.results.read v.channel).tSens = 0 ∧
        (t.smu.results.read v.channel).ratio = was.ratio ∧ (t.smu.results.read v.channel).filtered = was.filtered) ∧
    (∀ tRef, v.phase = .sensor tRef → 1000 ≤ tRef →
      let q := count.toNat * 32768 / tRef
      let outcome : ConversionOutcome :=
        if count.toNat = 16777215 then .openOverflow tRef
        else if 65535 < q then .openRatio tRef count.toNat
        else if q < 2048 then .short tRef count.toNat q
        else .good tRef count.toNat q
      ∃ t, completes (.sensorPhaseEnd count) outcome t ∧
      (t.smu.results.read v.channel).tRef = tRef ∧ (t.smu.results.read v.channel).tSens = count.toNat ∧
      (count.toNat < 16777215 →
        (t.smu.results.read v.channel).ratio = min 65535 (count.toNat * 32768 / tRef)) ∧
      (count.toNat < 16777215 → 2048 ≤ count.toNat * 32768 / tRef → count.toNat * 32768 / tRef ≤ 65535 →
        (t.smu.results.read v.channel).validity = .valid ∧ (t.smu.results.read v.channel).badRun = 0 ∧
        (t.smu.results.read v.channel).temp =
          linearize (s.smu.tables.read v.table) (count.toNat * 32768 / tRef)))

/-- R71: the temperature of a ratio from 0 to 65535 by a table of 16-bit temperatures: the breakpoint below it, plus
the step to the next taken in proportion and rounded toward negative infinity; it lies between the two breakpoints. -/
def Obligations.TemperatureInterpolates : Prop :=
  ∀ (table : Bank Int 17) (q : Nat) (k : Fin 16), q ≤ 65535 → q / 4096 = k.val →
    (∀ i, -32768 ≤ table.read i ∧ table.read i ≤ 32767) →
    let lo := table.read k.castSucc
    let hi := table.read k.succ
    linearize table q = lo + ((hi - lo) * ((q : Int) - 4096 * k.val)).fdiv 4096 ∧
    min lo hi ≤ linearize table q ∧ linearize table q ≤ max lo hi

/-- R72, R73, R74, R75: a completed conversion on filter, run and validity. A good one makes the channel VALID with
run 0, F moving toward T and not past it where the channel was VALID, and set to T where it was not. A bad one adds
one to the run, up to 3, keeps F and T, and keeps the validity until the run stands at 3; then SHORT sets SHORT and
any other kind OPEN. Either way the counts of the conversion are recorded, T_sens as 0 after a REF_FAULT and
16,777,215 after an overflow, with the ratio where one was formed, saturated to 65535, and the sample count advances,
modulo 256. -/
def Obligations.ValidityFollowsTheRun : Prop :=
  ∀ (table : Bank Int 17) (shift : Fin 5) (r : SensorResult),
    (let recorded (o : ConversionOutcome) (tRef tSens ratio : Nat) : Prop :=
       let t := r.complete table shift o
       t.tRef = tRef ∧ t.tSens = tSens ∧ t.ratio = ratio ∧ t.samples = (r.samples + 1) % 256
     ∀ a b q, recorded (.good a b q) a b q ∧ recorded (.refFault a) a 0 r.ratio ∧
       recorded (.openOverflow a) a 16777215 r.ratio ∧ recorded (.openRatio a b) a b 65535 ∧
       recorded (.short a b q) a b q) ∧
    (∀ a b q,
      let t := r.complete table shift (.good a b q)
      t.validity = .valid ∧ t.badRun = 0 ∧ t.temp = linearize table q ∧
      (r.validity ≠ .valid → t.filtered = t.temp) ∧
      (r.validity = .valid →
        t.filtered = r.filtered + (t.temp - r.filtered).fdiv (2 ^ shift.val) ∧
        min r.filtered t.temp ≤ t.filtered ∧ t.filtered ≤ max r.filtered t.temp)) ∧
    ∀ o : ConversionOutcome, (∀ a b q, o ≠ .good a b q) → r.badRun ≤ 3 →
      let t := r.complete table shift o
      t.badRun = min 3 (r.badRun + 1) ∧ t.filtered = r.filtered ∧ t.temp = r.temp ∧
      (r.badRun < 2 → t.validity = r.validity) ∧
      (2 ≤ r.badRun → ((∃ a b q, o = .short a b q) → t.validity = .short) ∧
        ((∀ a b q, o ≠ .short a b q) → t.validity = .opened))

/-- R85, R86, R87, R88, R91, R92, R103. A rising edge sooner than the spacing after the last accepted one only brings
the counter up to date; an accepted one sets counter and age to 0 and starts or keeps timing, its period being the
counter where timing ran and the counter had not reached its top; on a disabled channel nothing changes. The no-edge
timeout expires once the age has reached it while timing runs: the period becomes NONE and timing stops. An editor
seat's settings write replaces the settings: a changed enabled mark clears the measurement, a timeout at or below the
age expires at the write where timing runs, and any other leaves it. An accepted edge, an expiry and a write that
disables the channel judge the proof of the circuit that takes its flow from it. A proof that stays hands nothing on.
A changed one is recorded and raises FLOW; of an enabled circuit it starts or cancels the flow grace, and the circuit
is evaluated. The microseconds an edge carries are the model's form of the counter (assumption 7); that an edge at
counter 0 is no edge of its own is its reading (24), and that a write which disables the channel sets the counter to 0
its choice (42). -/
def Obligations.EdgesTimeoutsAndPulseSettings : Prop :=
  let unnamed (s : State) (ch : PulseCh) : Prop := ∀ n p, (s.circuit n).flow ≠ some (ch, p)
  let namedBy (s : State) (ch : PulseCh) (n : CircuitNo) : Prop := ∀ m, (∃ p, (s.circuit m).flow = some (ch, p)) ↔ m = n
  (∀ (s : State) (ch : PulseCh) (us : Nat),
    let p := s.piu.channels.read ch
    let with_ (p' : PulseChannel) : State := { s with piu := { s.piu with channels := s.piu.channels.write ch p' } }
    let judged (c : Instr) (t : State) : Prop :=
      (unnamed s ch → exec c s = .next t) ∧ ∀ n, namedBy s ch n → exec c s = .next (t.judgeProof n)
    let counter := min 1048575 (p.counter + us)
    (p.enabled = false → exec (.pulseRisingEdge ch us) s = .next s) ∧
    let told := p.sinceTick + us
    (p.enabled = true → p.timing = false → judged (.pulseRisingEdge ch us)
      (with_ { p with timing := true, counter := 0, age := some 0, sinceTick := told })) ∧
    (p.enabled = true → p.timing = true → 0 < counter → 1000 * p.spacing ≤ counter →
      judged (.pulseRisingEdge ch us) (with_ { p with
        period := if counter = 1048575 then none else some counter
        counter := 0, age := some 0, sinceTick := told })) ∧
    (p.enabled = true → p.timing = true → (counter < 1000 * p.spacing ∨ counter = 0) →
      exec (.pulseRisingEdge ch us) s = .next (with_ { p with counter := counter, sinceTick := told })) ∧
    (∀ a, p.age = some a → p.timing = true → p.timeout ≤ 10 * a →
      judged (.pulseTimeoutExpiry ch) (with_ { p with period := none, timing := false })) ∧
    ((p.age = none ∨ p.timing = false ∨ ∃ a, p.age = some a ∧ 10 * a + 10 ≤ p.timeout) →
      exec (.pulseTimeoutExpiry ch) s = .next s) ∧
    ∀ (seat : Seat) (r : Request) (e : Bool), s.servesWrite seat (.pulseSettings ch) r → s.editor seat = true →
      4 ≤ r.payload.length → r.word 1 = BitVec.ofNat 16 (if e = true then 1 else 0) → (r.word 2).toNat ≤ 50 →
      100 ≤ (r.word 3).toNat → (r.word 3).toNat ≤ 10000 → (r.word 3).toNat % 10 = 0 →
      let taken (p' : PulseChannel) : State := with_ { p' with spacing := (r.word 2).toNat, timeout := (r.word 3).toNat }
      let plain (t : State) : Prop := exec (.configWritePulseSettings seat) s = .next (t.answer seat r .done [])
      let thenJudged (t : State) : Prop := (unnamed s ch → plain t) ∧ ∀ n, namedBy s ch n → plain (t.judgeProof n)
      let cleared := taken { p with enabled := e, period := none, timing := false, counter := 0, age := none }
      (e ≠ p.enabled → p.enabled = true ∨ p.timing = true → thenJudged cleared) ∧
      (e ≠ p.enabled → p.enabled = false → p.timing = false → plain cleared) ∧
      (e = p.enabled → (p.timing = false ∨ p.age = none ∨ ∃ a, p.age = some a ∧ 10 * a < (r.word 3).toNat) →
        plain (taken p)) ∧
      ∀ a, e = p.enabled → p.timing = true → p.age = some a → (r.word 3).toNat ≤ 10 * a →
        thenJudged (taken { p with period := none, timing := false })) ∧
  ∀ (s : State) (n : CircuitNo) (proof : Bool),
    (proof = true ↔ (s.circuit n).flow = none ∨ ∃ ch pMax us, (s.circuit n).flow = some (ch, pMax) ∧
      (s.piu.channels.read ch).period = some us ∧ us ≤ pMax) →
    let recorded (c : Circuit) : State :=
      { s with
        piu := { s.piu with proven := s.piu.proven.write n proof }
        circuits := s.circuits.write n c
        evu := s.evu.raiseAll .flow }
    (proof = s.piu.proven.read n → s.judgeProof n = s) ∧
    (proof ≠ s.piu.proven.read n →
      ((s.circuit n).stage = .disabled → s.judgeProof n = recorded { s.circuit n with proven := proof }) ∧
      ((s.circuit n).stage ≠ .disabled →
        (proof = false → s.judgeProof n = (recorded { s.circuit n with
          proven := false, graceLeft := some (100 * (s.circuit n).flowGrace) }).evaluate n) ∧
        (proof = true → s.judgeProof n = (recorded { s.circuit n with
          proven := true, graceLeft := none, graceExpired := false }).evaluate n)))

/-! ### The freeze guard -/

/-- R102: the margin stage, for thresholds in the order R97 requires. With no margin it stays. A margin that calls for
a worse stage than the previous one gives the stage called for at once. Otherwise it relaxes from the previous stage,
one at a time, while the margin reaches the threshold plus H, and it is never better than the stage called for. -/
def Obligations.MarginStageRelaxesByThresholds : Prop :=
  ∀ (c : Circuit), c.mTrip < c.mAct → c.mAct < c.mWatch →
    c.nextMarginStage none = c.marginStage ∧
    ∀ m : Int,
      let called : Level :=
        if m < c.mTrip then .trip else if m < c.mAct then .act else if m < c.mWatch then .watch else .clear
      let next := c.nextMarginStage (some m)
      (c.marginStage.rank < called.rank → next = called) ∧
      (called.rank ≤ c.marginStage.rank →
        (c.marginStage = .trip → m < c.mTrip + c.hysteresis → next = .trip) ∧
        ((c.marginStage = .act ∨ (c.marginStage = .trip ∧ c.mTrip + c.hysteresis ≤ m)) →
          m < c.mAct + c.hysteresis → next = .act) ∧
        ((c.marginStage = .watch ∨ (c.marginStage = .act ∧ c.mAct + c.hysteresis ≤ m) ∨
            (c.marginStage = .trip ∧ c.mTrip + c.hysteresis ≤ m ∧ c.mAct + c.hysteresis ≤ m)) →
          m < c.mWatch + c.hysteresis → next = .watch) ∧
        ((c.marginStage = .clear ∨ (c.mTrip + c.hysteresis ≤ m ∧ c.mAct + c.hysteresis ≤ m ∧
            c.mWatch + c.hysteresis ≤ m)) → next = .clear)) ∧
      (0 ≤ c.hysteresis → called.rank ≤ next.rank)

/-- R104, R106, R108, R110: the flow grace timer of an enabled circuit runs out: the grace expired mark is set, the
timer is gone, and the circuit is evaluated, so that its flow stage is TRIP where proof is still lost. The trip dwell
runs out: the stage becomes LOCKOUT, with its bounds and no ceiling, LOCKOUT and the circuit's flag are raised in all
four sets, and the circuit is evaluated. Neither touches another circuit. With more than one step left, or without a
running timer, nothing changes. That an expiry is taken from the last step on is the model's choice (assumption 8),
and that the shut-offs come before the hand-over of the bounds its reading (9). -/
def Obligations.GuardTimersRunOut : Prop :=
  ∀ (s : State) (n : CircuitNo),
    let c := s.circuit n
    let out (left : Option Nat) : Prop := left = some 0 ∨ left = some 1
    (c.stage ≠ .disabled → out c.graceLeft → exec (.flowGraceExpiry n) s = .next (State.evaluate
      { s with circuits := s.circuits.write n { c with graceLeft := none, graceExpired := true } } n)) ∧
    (c.stage = .disabled ∨ ¬out c.graceLeft → exec (.flowGraceExpiry n) s = .next s) ∧
    (c.stage = .level .trip → out c.dwellLeft → ∃ u : State,
      circuitChanged s u n { c with
        stage := .lockout, dwellLeft := none, ceiling := none
        bounds := { fanCeiling := some 0, bypassFloor := some 1000, modulatedPump := some c.pumpMin,
                    discretePump := some 1000 } } ∧
      exec (.tripDwellExpiry n) s = .next (State.evaluate { u with evu := u.evu.raiseAll .lockout } n)) ∧
    (c.stage ≠ .level .trip ∨ ¬out c.dwellLeft → exec (.tripDwellExpiry n) s = .next s) ∧
    (c.stage ≠ .disabled → out c.graceLeft → c.proven = false →
      ∃ t, exec (.flowGraceExpiry n) s = .next t ∧ (t.circuit n).graceExpired = true ∧
        (t.circuit n).graceLeft = none ∧ (t.circuit n).flowStage = .trip ∧
        (c.stage ≠ .lockout → (t.circuit n).stage = .level .trip) ∧
        (∀ o, o ≠ n → t.circuit o = s.circuit o) ∧ t.lbi = s.lbi ∧ t.smu = s.smu ∧ t.piu = s.piu) ∧
    (c.stage = .level .trip → out c.dwellLeft →
      ∃ t, exec (.tripDwellExpiry n) s = .next t ∧ (t.circuit n).stage = .lockout ∧ (t.circuit n).dwellLeft = none ∧
        (∀ q, t.flag q .lockout = .fresh ∧ t.flag q (.stage n) = .fresh) ∧
        (∀ o, o ≠ n → t.circuit o = s.circuit o) ∧ t.lbi = s.lbi ∧ t.smu = s.smu ∧ t.piu = s.piu)

/-- R99 to R103, R105 to R110: what an evaluation finds and hands on. The guard temperature is the lowest F of the
VALID guard channels and the margin its distance above the freeze point; with none VALID both are absent and the cause
is PENDING or SENSOR_LOST. The stage is the worst of the three causes' stages, but LOCKOUT stays LOCKOUT unless it is
lifted. The ceiling, in ACT alone, is the margin's part of the way from M_trip to M_act in permille, rounded toward
negative infinity and kept from 0 to 1000, and 1000 with no margin. The bounds are those of the stage. A DISABLED
circuit is not evaluated. The evaluation of an enabled one leaves every other circuit, raises its flag exactly where
its stage changed, shuts off each driving channel of its records whose mask names FROST_TRIP where the stage becomes
TRIP, each at its safe action (R137 to R139), with SHUTOFF raised where there is one, and hands each bound that
changed to the records of its channels, which recompute and hand the outputs what changed (R15). That the shut-offs
come before that hand-over is the model's reading (assumption 9). -/
def Obligations.EvaluationFindsStageAndBounds : Prop :=
  (∀ (results : Bank SensorResult 24) (lift : Bool) (c : Circuit),
    let t := c.evaluate results lift
    let valid := fun ch => (results.read ch).validity = Validity.valid
    ((∀ ch ∈ c.guardSet, ¬valid ch) → t.guardTemp = none ∧ t.margin = none ∧
      t.sensorCause = if ∃ ch ∈ c.guardSet, (results.read ch).validity = .notYet then .pending else .sensorLost) ∧
    ((∃ ch ∈ c.guardSet, valid ch) → t.sensorCause = .none ∧ ∃ ch ∈ c.guardSet, valid ch ∧
      t.guardTemp = some (results.read ch).filtered ∧
      t.margin = some (max (-32768) (min ((results.read ch).filtered - c.freezePoint) 32767)) ∧
      ∀ ch' ∈ c.guardSet, valid ch' → (results.read ch).filtered ≤ (results.read ch').filtered) ∧
    t.marginStage = c.nextMarginStage t.margin ∧
    t.flowStage = (if c.proven then .clear else if c.graceExpired then .trip else .act) ∧
    t.sensorStage = (match t.sensorCause with | .none => .clear | .pending => .watch | .sensorLost => .trip) ∧
    (c.stage = .lockout → lift = false → t.stage = .lockout) ∧
    ((c.stage ≠ .lockout ∨ lift = true) → ∃ l, t.stage = .level l ∧
      (l = t.marginStage ∨ l = t.flowStage ∨ l = t.sensorStage) ∧
      t.marginStage.rank ≤ l.rank ∧ t.flowStage.rank ≤ l.rank ∧ t.sensorStage.rank ≤ l.rank) ∧
    t.dwellLeft = (if t.stage = .level .trip then
      (if c.stage = .level .trip then c.dwellLeft else some (100 * c.tripDwell)) else none) ∧
    t.ceiling = (if t.stage = .level .act then some (c.actCeiling t.margin) else none) ∧
    t.bounds = boundsOf t.stage (c.actCeiling t.margin) c.pumpMin ∧
    t = { c with
      guardTemp := t.guardTemp, margin := t.margin, sensorCause := t.sensorCause, marginStage := t.marginStage
      flowStage := t.flowStage, sensorStage := t.sensorStage, stage := t.stage, dwellLeft := t.dwellLeft
      ceiling := t.ceiling, bounds := t.bounds }) ∧
  (∀ c : Circuit, c.mTrip + 50 ≤ c.mAct →
    c.actCeiling none = 1000 ∧
    ∀ m : Int, c.actCeiling (some m) ≤ 1000 ∧ (c.mAct ≤ m → c.actCeiling (some m) = 1000) ∧
      (m ≤ c.mTrip → c.actCeiling (some m) = 0) ∧
      (c.mTrip ≤ m → m ≤ c.mAct →
        (c.actCeiling (some m) : Int) = (1000 * (m - c.mTrip)).fdiv (c.mAct - c.mTrip))) ∧
  (∀ v pumpMin : Nat,
    boundsOf .disabled v pumpMin = Bounds.unbounded ∧ boundsOf (.level .clear) v pumpMin = Bounds.unbounded ∧
    boundsOf (.level .watch) v pumpMin =
      { fanCeiling := some 1000, bypassFloor := some 0, modulatedPump := some pumpMin, discretePump := some 1000 } ∧
    boundsOf (.level .act) v pumpMin =
      { fanCeiling := some v, bypassFloor := some (1000 - v), modulatedPump := some pumpMin,
        discretePump := some 1000 } ∧
    boundsOf (.level .trip) v pumpMin =
      { fanCeiling := some 0, bypassFloor := some 1000, modulatedPump := some pumpMin, discretePump := some 1000 } ∧
    boundsOf .lockout v pumpMin = boundsOf (.level .trip) v pumpMin) ∧
  ∀ (s : State) (n : CircuitNo),
    ((s.circuit n).stage = .disabled → s.evaluate n = s) ∧
    ((s.circuit n).stage ≠ .disabled →
      circuitChanged s (s.evaluate n) n ((s.circuit n).evaluate s.smu.results false))

/-- R111, R112, R113: ENABLE of an enabled circuit, DISABLE of a DISABLED one and RELEASE_LOCKOUT outside LOCKOUT are
answered DONE and change nothing; a circuit number above 3, and ENABLE with an empty guard set, are refused BAD_VALUE;
DISABLE in TRIP or LOCKOUT, and RELEASE_LOCKOUT while a recorded cause stands, are refused STAGE_HOLDS. An accepted
ENABLE leaves DISABLED for the stage an evaluation finds from a CLEAR margin stage, the grace mark cleared and the
grace timer started where proof is lost; an accepted DISABLE makes the circuit DISABLED and unbounded, its timers,
causes and stages cleared; and an accepted release leaves LOCKOUT for the stage the evaluation gives with LOCKOUT
lifted, the frost trip ending unless that is TRIP. Each raises the circuit's flag, hands the bounds that changed to the
records and their outputs, and shuts off the channels named where a frost trip begins, at their safe actions (R108,
R109; the shut-offs first, assumption 9). No step takes a circuit out of
LOCKOUT but an accepted RELEASE_LOCKOUT of it and the power-on reset. -/
def Obligations.CircuitsAreEnabledAndReleased : Prop :=
  (∀ (s : State) (seat : Seat) (r : Request), 4 ≤ (r.word 0).toNat →
    (s.serves seat .circuit r → s.editor seat = true →
      (r.word 1 = 0#16 → exec (.circuitEnable seat) s = .next (s.answer seat r .badValue [])) ∧
      (r.word 1 = 1#16 → exec (.circuitDisable seat) s = .next (s.answer seat r .badValue []))) ∧
    (s.serves seat .releaseLockout r → seat = serviceSeat →
      exec (.releaseLockout seat) s = .next (s.answer seat r .badValue []))) ∧
  (∀ (s : State) (seat : Seat) (r : Request) (n : CircuitNo), (r.word 0).toNat = n.val →
    let c := s.circuit n
    (s.serves seat .circuit r → s.editor seat = true → r.word 1 = 0#16 →
      (c.stage ≠ .disabled → exec (.circuitEnable seat) s = .next (s.answer seat r .done [])) ∧
      (c.stage = .disabled → c.guardSet = [] → exec (.circuitEnable seat) s = .next (s.answer seat r .badValue [])) ∧
      (c.stage = .disabled → c.guardSet ≠ [] → ∃ t : State,
        exec (.circuitEnable seat) s = .next (t.answer seat r .done []) ∧
        circuitChanged s t n (Circuit.evaluate s.smu.results false { c with
          marginStage := .clear, graceExpired := false,
          graceLeft := if c.proven = true then none else some (100 * c.flowGrace) }) ∧
        (t.circuit n).stage ≠ .disabled ∧
        (∀ o, o ≠ n → t.circuit o = s.circuit o) ∧ (∀ q, t.flag q (.stage n) = .fresh) ∧ t.lbi = s.lbi)) ∧
    (s.serves seat .circuit r → s.editor seat = true → r.word 1 = 1#16 →
      (c.stage = .disabled → exec (.circuitDisable seat) s = .next (s.answer seat r .done [])) ∧
      (c.stage = .level .trip ∨ c.stage = .lockout →
        exec (.circuitDisable seat) s = .next (s.answer seat r .stageHolds [])) ∧
      (c.stage = .level .clear ∨ c.stage = .level .watch ∨ c.stage = .level .act → ∃ t : State,
        exec (.circuitDisable seat) s = .next (t.answer seat r .done []) ∧
        circuitChanged s t n { c with
          stage := .disabled, graceLeft := none, graceExpired := false, dwellLeft := none, guardTemp := none,
          margin := none, ceiling := none, sensorCause := .none, marginStage := .clear, flowStage := .clear,
          sensorStage := .clear, bounds := Bounds.unbounded } ∧ t.shu = s.shu ∧
        (∀ o, o ≠ n → t.circuit o = s.circuit o) ∧ (∀ q, t.flag q (.stage n) = .fresh) ∧ t.lbi = s.lbi)) ∧
    (s.serves seat .releaseLockout r → seat = serviceSeat →
      (c.stage ≠ .lockout → exec (.releaseLockout seat) s = .next (s.answer seat r .done [])) ∧
      (c.stage = .lockout → (c.marginStage ≠ .clear ∨ c.proven = false ∨ c.sensorCause = .sensorLost) →
        exec (.releaseLockout seat) s = .next (s.answer seat r .stageHolds [])) ∧
      (c.stage = .lockout → c.marginStage = .clear → c.proven = true → c.sensorCause ≠ .sensorLost → ∃ t : State,
        exec (.releaseLockout seat) s = .next (t.answer seat r .done []) ∧
        circuitChanged s t n (c.evaluate s.smu.results true) ∧ (t.circuit n).stage ≠ .lockout ∧
        (∀ ch, (s.record ch).circuit = some n →
          (t.causeHolds ch .frostTrip = true ↔ (t.circuit n).stage = .level .trip)) ∧
        (∀ o, o ≠ n → t.circuit o = s.circuit o) ∧ (∀ q, t.flag q (.stage n) = .fresh) ∧ t.lbi = s.lbi))) ∧
  ∀ (s t : State) (n : CircuitNo), step s = .next t → (s.circuit n).stage = .lockout →
    (t.circuit n).stage ≠ .lockout → ∃ c rest, s.pending = c :: rest ∧
      ((∃ st, c = .powerOnReset st) ∨ c = .releaseLockout serviceSeat ∧ (∃ r, s.serves serviceSeat .releaseLockout r ∧
        (r.word 0).toNat = n.val) ∧ (s.circuit n).marginStage = .clear ∧ (s.circuit n).proven = true ∧
        (s.circuit n).sensorCause ≠ .sensorLost)

/-! ### Output drive and shutoff -/

/-- R116, R117, R118: a period end loads the buffered period if there is one, and gives each driving channel of the
group, outside a formed pair, a compare of its held command in the period just loaded; held commands stay, as do the
channels that are shut off, the other groups and their channels, the pairs and the discrete channels. -/
def Obligations.PeriodEndLoadsCompares : Prop :=
  ∀ (s : State) (g : GroupNo),
    let gr := s.odu.groups.read g
    let period := gr.buffered.getD gr.period
    ∃ t, exec (.periodEnd g) s = .next t ∧ t = { s with odu := t.odu } ∧
      t.odu.groups.read g = { period := period, buffered := none, counter := 0 } ∧
      (∀ o, o ≠ g → t.odu.groups.read o = s.odu.groups.read o) ∧
      (∀ m : ModCh, m.val / 8 = g.val → s.shutOff (modCh m) = false → s.odu.member (modCh m) = false →
        t.odu.mods.read m = { s.odu.mods.read m with
          compare := (s.odu.mods.read m).held * period / 1000, activePolarity := (s.odu.mods.read m).polarity
          forced := none } ∧
        (t.odu.mods.read m).compare = (s.odu.mods.read m).held * period / 1000 ∧
        (t.odu.mods.read m).held = (s.odu.mods.read m).held ∧
        (t.pinLevel m = true ↔ ((0 < (s.odu.mods.read m).held * period / 1000) ↔
          (s.odu.mods.read m).polarity = .activeHigh))) ∧
      (∀ m : ModCh, (m.val / 8 ≠ g.val ∨ s.shutOff (modCh m) = true ∨ s.odu.member (modCh m) = true) →
        t.odu.mods.read m = s.odu.mods.read m) ∧
      t.odu.pairs = s.odu.pairs ∧ t.odu.discretes = s.odu.discretes

/-- R122 to R128, R139: the timed events of a formed pair, each where its time has run out. A permille takes the
estimate one toward the drive; a move that reaches its target ends, with the drive released or, at the end of its
travel, in the overdrive; a safe drive that reaches the end enters SAFE_END. Overdrive, sync, SAFE_END and UNSYNCED
safe drive end with the drive released and the dead time started; a sync leaves the pair synced at 0 and judges its
target. An expired dead time judges a WAITING pair's target, and makes a SAFE_WAITING pair drive safe. A target handed
in IDLE is judged; in a move the drive leads to it, ends there, or is released to wait; in an overdrive it is the end,
or ends it and is judged; in any other state, and while shut off, it is taken alone. That an expiry is taken from a
timer's last tick on is the model's choice (assumption 8), that a move ended by a target at its estimate overdrives
only where its drive leads (20), and that SAFE_END and a safe drive after SAFE_WAITING take the stroke time of their
own entry (29), its readings. -/
def Obligations.PairTimersAndTargetsAct : Prop :=
  let limit (d : Dir) : Nat := match d with | .opening => 1000 | .closing => 0
  (∀ (s : State) (k : PairNo) (p : PairRun), (s.odu.pairs.read k).run = some p →
    let q := s.odu.pairs.read k
    let becomes (c : Instr) (p' : PairRun) : Prop :=
      exec c s = .next { s with odu := { s.odu with pairs := s.odu.pairs.write k { q with run := some p' } } }
    (∀ d, let e := match d with | .opening => min 1000 (p.estimate + 1) | .closing => p.estimate - 1
      p.stroke ≤ p.accumulator →
      (p.state = .moving d → p.target ≠ e → becomes (.pairPermilleStep k)
        { p with estimate := e, accumulator := p.accumulator - p.stroke }) ∧
      (p.state = .moving d → p.target = e → e ≠ limit d → becomes (.pairPermilleStep k)
        { (p.afterRelease q d) with state := .idle, estimate := e }) ∧
      (p.state = .moving d → p.target = e → e = limit d → becomes (.pairPermilleStep k)
        { p with state := .overdrive d, estimate := e, left := 10 * q.stroke, stroke := q.stroke, accumulator := 0 }) ∧
      (p.state = .safeDriving d → p.unsynced = false → e ≠ limit d → becomes (.pairPermilleStep k)
        { p with estimate := e, accumulator := p.accumulator - p.stroke }) ∧
      (p.state = .safeDriving d → p.unsynced = false → e = limit d → becomes (.pairPermilleStep k)
        { p with state := .safeEnd d, estimate := e, left := 10 * q.stroke, stroke := q.stroke, accumulator := 0 })) ∧
    (∀ d, p.left ≤ 1 →
      (p.state = .overdrive d → becomes (.overdriveEnd k) { (p.afterRelease q d) with state := .idle }) ∧
      (p.state = .safeEnd d → becomes (.safeEndExpiry k) { (p.afterRelease q d) with state := .safeRest }) ∧
      (p.state = .safeDriving d → p.unsynced = true →
        becomes (.unsyncedSafeDriveEnd k) { (p.afterRelease q d) with state := .safeRest })) ∧
    (p.state = .syncing → p.left ≤ 1 → ∃ p', becomes (.syncEnd k) p' ∧
      PairRun.judgedAs q { (p.afterRelease q .closing) with state := .idle, estimate := 0, unsynced := false } p') ∧
    (∀ n, p.deadLeft = some n → n ≤ 1 →
      (p.state = .waiting → ∃ p', becomes (.deadTimeExpiry k) p' ∧ PairRun.judgedAs q { p with deadLeft := none } p') ∧
      (∀ d, p.state = .safeWaiting d →
        (p.unsynced = true → becomes (.deadTimeExpiry k) { p with
          state := .safeDriving d, deadLeft := none, left := 110 * q.stroke, stroke := q.stroke, accumulator := 0 }) ∧
        (p.unsynced = false → p.estimate ≠ limit d → becomes (.deadTimeExpiry k)
          { p with state := .safeDriving d, deadLeft := none, stroke := q.stroke, accumulator := 0 }) ∧
        (p.unsynced = false → p.estimate = limit d → becomes (.deadTimeExpiry k) { p with
          state := .safeEnd d, deadLeft := none, left := 10 * q.stroke, stroke := q.stroke, accumulator := 0 })) ∧
      ((p.state = .idle ∨ p.state = .safeRest ∨ p.state.drive ≠ none) →
        becomes (.deadTimeExpiry k) { p with deadLeft := none }))) ∧
  ∀ (q : Pair) (p : PairRun) (t : Nat),
    let p' := p.takeTarget q false t
    p.takeTarget q true t = { p with target := t } ∧
    (p.state = .idle → PairRun.judgedAs q { p with target := t } p') ∧
    (p.state = .moving .opening → p.estimate < t → p' = { p with target := t }) ∧
    (p.state = .moving .closing → t < p.estimate → p' = { p with target := t }) ∧
    (∀ d, p.state = .moving d → t = p.estimate → t ≠ limit d →
      p' = { (p.afterRelease q d) with state := .idle, target := t }) ∧
    (∀ d, p.state = .moving d → t = p.estimate → t = limit d → p' = { p with
      state := .overdrive d, target := t, left := 10 * q.stroke, stroke := q.stroke, accumulator := 0 }) ∧
    (∀ d, p.state = .moving d → t ≠ p.estimate → (d = .opening ↔ t < p.estimate) →
      p' = { (p.afterRelease q d) with state := .waiting, target := t }) ∧
    (∀ d, p.state = .overdrive d → t = limit d → p' = { p with target := t }) ∧
    (∀ d, p.state = .overdrive d → t ≠ limit d →
      PairRun.judgedAs q { (p.afterRelease q d) with state := .idle, target := t } p') ∧
    ((p.state = .waiting ∨ p.state = .syncing ∨ p.state = .safeRest ∨
      ∃ d, p.state = .safeWaiting d ∨ p.state = .safeDriving d ∨ p.state = .safeEnd d) → p' = { p with target := t })

/-- R122: the pins of a formed pair are never both at their active levels, and each is at its active level exactly
while its drive is asserted. The active level is that of the polarity last written, also of one that still waited for
its period end when the pair was formed (the model's choice, assumption 36). -/
def Obligations.PairDrivesNeverTogether : Prop :=
  ∀ (s : State) (k : PairNo) (p : PairRun) (a b : ModCh), (s.odu.pairs.read k).run = some p →
    modCh a = evenCh k → modCh b = oddCh k →
    let active (m : ModCh) : Prop := s.pinLevel m = levelAt (s.odu.mods.read m).polarity true
    ¬(active a ∧ active b) ∧ (active a ↔ p.state.drive = some .opening) ∧
      (active b ↔ p.state.drive = some .closing)

/-- R130, R138: a requested state, and the reaching of a minimum. A driving channel follows a request once the minimum
of its state is met, its time restarting, and holds it till then; a request for the state it has removes a held change.
A shut-off channel keeps its output and only its held change moves. When the minimum is met while a change is held and
the channel drives, the output changes, and nothing else does. -/
def Obligations.DiscreteRequestsWaitForMinimums : Prop :=
  (∀ (d : Discrete) (want off : Bool),
    let min_ := 100 * (if d.on then d.minOn else d.minOff)
    d.request off want =
      if want = d.on then { d with held := none }
      else if off = false ∧ min_ ≤ d.time then { d with on := want, time := 0, held := none }
      else { d with held := some want }) ∧
  ∀ (s : State) (d : DiscCh) (want : Bool),
    let c := s.odu.discretes.read d
    c.held = some want → want ≠ c.on → 100 * (if c.on then c.minOn else c.minOff) ≤ c.time →
    (s.shutOff (discCh d) = false → exec (.discreteMinimumReached d) s = .next
      { s with odu := { s.odu with discretes := (s.odu.discretes.write d
        { c with on := want, time := 0, held := none }) } }) ∧
    (s.shutOff (discCh d) = true → exec (.discreteMinimumReached d) s = .next s)

/-- R135, R136, R137, R138, R139: EMERGENCY_IN going asserted shuts off exactly the channels whose masks name
EMERGENCY, leaves the latches of the rest, and raises SHUTOFF in all four sets where it shut off a channel that drove;
going deasserted it changes no latch and no output. Each channel shut off takes its safe action: a modulated pin its
level, under HOLD the level it has at that moment; a discrete channel its state, its time restarting where it changes;
a formed pair its pair safe action; the rest stay, and nothing else changes. Asserted already, it changes nothing (the
model's reading, assumption 31). Where a period counter stands at that moment is free (assumption 4), and a safe state
takes the stroke time of its own entry (the model's reading, assumption 29). -/
def Obligations.EmergencyShutsOff : Prop :=
  ∀ s : State,
    (s.shu.emergencyIn = false → ∃ t, exec .emergencyInAssert s = .next t ∧ t.shu.emergencyIn = true ∧
      (∀ c, t.shutOff c = (s.shutOff c || ((s.shutoff c).mask.emergency && !s.odu.oddMember c))) ∧
      (∀ c, s.shutOff c = false → t.shutOff c = true → ∀ q, t.flag q .shutoff = .fresh) ∧
      ((∀ c, t.shutOff c = s.shutOff c) → t.odu = s.odu ∧ t.evu = s.evu) ∧
      shutDown { s with shu := { s.shu with emergencyIn := true } } t
        (fun c => s.shutOff c = false ∧ (s.shutoff c).mask.emergency = true ∧ s.odu.oddMember c = false) ∧
      t.cmdt = s.cmdt ∧ t.circuits = s.circuits ∧ t.lbi = s.lbi) ∧
    (s.shu.emergencyIn = true → exec .emergencyInAssert s = .next s) ∧
    exec .emergencyInDeassert s = .next { s with shu := { s.shu with emergencyIn := false } }

/-- R141, R142: the rows of REARM for an editor seat. A number above 63 is refused BAD_VALUE, an input channel and the
odd member of a formed pair BAD_TARGET; a driving channel is answered DONE and nothing changes; while a cause of its
mask holds a shut-off channel is refused CAUSE_ACTIVE; otherwise its latch becomes DRIVING and no other latch moves. A
modulated channel's pin keeps its level. A discrete channel applies its held change if its minimum is met, and else
keeps its output and what it holds. A pair in SAFE_WAITING waits on; in any other safe state a drive it has asserted is
released, and it judges its target. A held change that equals its channel's output is no change and goes (the model's
reading, assumption 21). No step takes a latch from SHUT_OFF but an accepted REARM of the channel, a write
that forms a pair whose odd channel it is (R140), and the power-on reset. -/
def Obligations.RearmNeedsEveryCauseGone : Prop :=
  let cleared (s : State) (c : OutCh) : Prop :=
    ∀ cause, (s.shutoff c).mask.names cause = true → s.causeHolds c cause = false
  (∀ (s : State) (seat : Seat) (r : Request), s.serves seat .rearm r → s.editor seat = true →
    (64 ≤ (r.word 0).toNat → exec (.rearm seat) s = .next (s.answer seat r .badValue [])) ∧
    (32 ≤ (r.word 0).toNat → (r.word 0).toNat ≤ 63 → exec (.rearm seat) s = .next (s.answer seat r .badTarget [])) ∧
    ∀ c : OutCh, (r.word 0).toNat = c.val →
      (s.odu.oddMember c = true → exec (.rearm seat) s = .next (s.answer seat r .badTarget [])) ∧
      (s.odu.oddMember c = false →
        (s.shutOff c = false → exec (.rearm seat) s = .next (s.answer seat r .done [])) ∧
        (s.shutOff c = true → ∀ cause, (s.shutoff c).mask.names cause = true → s.causeHolds c cause = true →
          exec (.rearm seat) s = .next (s.answer seat r .causeActive [])) ∧
        (s.shutOff c = true → cleared s c →
          ∃ t : State, exec (.rearm seat) s = .next (t.answer seat r .done []) ∧ t.shutOff c = false ∧
            (∀ c', c' ≠ c → t.shutoff c' = s.shutoff c') ∧ t.shutoff c = { s.shutoff c with latched := false } ∧
            t = { s with
              odu := { s.odu with pairs := t.odu.pairs, discretes := t.odu.discretes }
              shu := { s.shu with records := t.shu.records } } ∧
            t.odu.mods = s.odu.mods ∧ (∀ k, evenCh k ≠ c → t.odu.pairs.read k = s.odu.pairs.read k) ∧
            (∀ d : DiscCh, discCh d ≠ c → t.odu.discretes.read d = s.odu.discretes.read d) ∧
            (∀ d : DiscCh, discCh d = c →
              let x := s.odu.discretes.read d
              let due := 100 * (if x.on then x.minOn else x.minOff) ≤ x.time
              (∀ want, x.held = some want → want ≠ x.on → due →
                t.odu.discretes.read d = { x with on := want, time := 0, held := none }) ∧
              (x.held = some x.on → due → t.odu.discretes.read d = { x with held := none }) ∧
              (x.held = none ∨ ¬due → t.odu.discretes.read d = x)) ∧
            (∀ k p, evenCh k = c → (s.odu.pairs.read k).run = some p →
              let q := s.odu.pairs.read k
              ∃ p', t.odu.pairs.read k = { q with run := some p' } ∧
                (∀ d, p.state = .safeWaiting d → p' = { p with state := .waiting }) ∧
                (p.state = .safeRest → PairRun.judgedAs q { p with state := .idle } p') ∧
                (∀ d, (p.state = .safeDriving d ∨ p.state = .safeEnd d) →
                  PairRun.judgedAs q { (p.afterRelease q d) with state := .idle } p')) ∧
            t.cmdt = s.cmdt ∧ t.evu = s.evu ∧ t.lbi = s.lbi))) ∧
  ∀ (s t : State) (c : OutCh), step s = .next t → s.shutOff c = true → t.shutOff c = false →
    ∃ i rest, s.pending = i :: rest ∧ ((∃ st, i = .powerOnReset st) ∨
      (∃ seat r, i = .rearm seat ∧ s.serves seat .rearm r ∧ s.editor seat = true ∧ (r.word 0).toNat = c.val ∧
        cleared s c) ∨
      ∃ seat r k, i = .pairForm seat ∧ s.servesWrite seat (.pair k) r ∧ s.editor seat = true ∧
        (s.odu.pairs.read k).run = none ∧ oddCh k = c)

/-! ### What every step keeps -/

/-- R8, R10, R11, R13, R14: in every record in use the winner is the one its live demands, the rank table and the
standings give; the arbitrated value is the winner's, or with none the fallback's; the effective command is the
arbitrated value within the static limits and under the guard bound; and that bound is the one the bounds of the
record's circuit give its role, none without a circuit or with a DISABLED one. So an enabled circuit's guard bound is
satisfied by its channels' effective commands. Every step keeps it so. -/
def Obligations.RecordsStayJudged : Prop :=
  (∀ s t : State, s.winnersRight → s.commandsSettled → step s = .next t → t.winnersRight ∧ t.commandsSettled) ∧
  (∀ s t : State, s.valuesRight → step s = .next t → t.valuesRight) ∧
  (∀ s t : State, s.boundsHanded → step s = .next t → t.boundsHanded) ∧
  ∀ (s : State) (c : OutCh) (n : CircuitNo), s.boundsHanded → s.commandsSettled → (s.record c).circuit = some n →
    (∀ v, (s.record c).role = .fan → (s.circuit n).bounds.fanCeiling = some v → (s.record c).effective ≤ v) ∧
    (∀ v, (s.record c).role = .bypass → (s.circuit n).bounds.bypassFloor = some v → v ≤ (s.record c).effective) ∧
    ∀ v, (s.record c).role = .pump →
      (if 24 ≤ c.val then (s.circuit n).bounds.discretePump else (s.circuit n).bounds.modulatedPump) = some v →
      v ≤ (s.record c).effective

/-- R1, R2: no record holds a slot of a BARRED seat, and the odd record of a formed pair holds none: every step keeps
it so. -/
def Obligations.BarredSeatsHoldNoSlot : Prop :=
  ∀ s t : State, s.slotsAllowed → step s = .next t → t.slotsAllowed

/-- R13: every effective command lies from 0 to 1000, with the ranges of the settings, slots and bounds it is made of:
every step keeps it so. -/
def Obligations.EffectiveCommandsStayInRange : Prop :=
  ∀ s t : State, s.commandsInRange → step s = .next t → t.commandsInRange

/-- R122, R123, R128: every formed pair's estimate lies from 0 to 1000 and is 0 while UNSYNCED, and while a dead time
runs only the drive released last may be asserted: every step keeps it so. -/
def Obligations.PairsStaySafe : Prop :=
  ∀ s t : State, s.pairsSafe → step s = .next t → t.pairsSafe

/-- R146, R151: no fault count exceeds 511 and no line holds more than four requests: every step keeps it so. -/
def Obligations.CountsAndLinesStayBounded : Prop :=
  ∀ s t : State, s.linesBounded → step s = .next t → t.linesBounded

/-- Every step keeps what the model's own form of the directory memory and of the cache rests on. Memory lists no zero
word, its addresses strictly rising: the model's representation of R24 (assumption 26). R52, R55, R56: each valid entry
stands in the set of its point, no two valid entries match one seat and point, and no global entry carries the
write-guard. -/
def Obligations.MemoryStaysCanonical : Prop :=
  (∀ s t : State, s.memoryCanonical = true → step s = .next t → t.memoryCanonical = true) ∧
    ∀ s t : State, s.cacheUnambiguous → step s = .next t → t.cacheUnambiguous

/-- The ten invariants hold right after the power-on reset. -/
def Obligations.InvariantsHoldAtReset : Prop :=
  State.reset.winnersRight ∧ State.reset.slotsAllowed ∧ State.reset.commandsSettled ∧ State.reset.commandsInRange ∧
    State.reset.pairsSafe ∧ State.reset.linesBounded ∧ State.reset.memoryCanonical = true ∧
    State.reset.cacheUnambiguous ∧ State.reset.valuesRight ∧ State.reset.boundsHanded
end

