-- ==== Sys2Proof/Laws/State.lean ====
section
/-! SUPPORT. What each operation that only writes some fields of the state leaves of the others: one lemma per field
and operation, true by unfolding, so that no proof unfolds a record update. -/

namespace Sys2Proof.Machine

@[simp] theorem State.raiseAll_pending (s : State) (f : Flag) :
    (s.raiseAll f).pending = s.pending := by simp only [State.raiseAll]
@[simp] theorem State.raiseAll_cmdt (s : State) (f : Flag) :
    (s.raiseAll f).cmdt = s.cmdt := by simp only [State.raiseAll]
@[simp] theorem State.raiseAll_pdir (s : State) (f : Flag) :
    (s.raiseAll f).pdir = s.pdir := by simp only [State.raiseAll]
@[simp] theorem State.raiseAll_pcache (s : State) (f : Flag) :
    (s.raiseAll f).pcache = s.pcache := by simp only [State.raiseAll]
@[simp] theorem State.raiseAll_smu (s : State) (f : Flag) :
    (s.raiseAll f).smu = s.smu := by simp only [State.raiseAll]
@[simp] theorem State.raiseAll_piu (s : State) (f : Flag) :
    (s.raiseAll f).piu = s.piu := by simp only [State.raiseAll]
@[simp] theorem State.raiseAll_circuits (s : State) (f : Flag) :
    (s.raiseAll f).circuits = s.circuits := by simp only [State.raiseAll]
@[simp] theorem State.raiseAll_odu (s : State) (f : Flag) :
    (s.raiseAll f).odu = s.odu := by simp only [State.raiseAll]
@[simp] theorem State.raiseAll_shu (s : State) (f : Flag) :
    (s.raiseAll f).shu = s.shu := by simp only [State.raiseAll]
@[simp] theorem State.raiseAll_lbi (s : State) (f : Flag) :
    (s.raiseAll f).lbi = s.lbi := by simp only [State.raiseAll]
@[simp] theorem State.raiseAll_moment (s : State) (f : Flag) :
    (s.raiseAll f).moment = s.moment := by simp only [State.raiseAll]

@[simp] theorem State.withRecords_pending (s : State) (f : OutCh → Record → Record) :
    (s.withRecords f).pending = s.pending := by simp only [State.withRecords]
@[simp] theorem State.withRecords_pdir (s : State) (f : OutCh → Record → Record) :
    (s.withRecords f).pdir = s.pdir := by simp only [State.withRecords]
@[simp] theorem State.withRecords_pcache (s : State) (f : OutCh → Record → Record) :
    (s.withRecords f).pcache = s.pcache := by simp only [State.withRecords]
@[simp] theorem State.withRecords_smu (s : State) (f : OutCh → Record → Record) :
    (s.withRecords f).smu = s.smu := by simp only [State.withRecords]
@[simp] theorem State.withRecords_piu (s : State) (f : OutCh → Record → Record) :
    (s.withRecords f).piu = s.piu := by simp only [State.withRecords]
@[simp] theorem State.withRecords_circuits (s : State) (f : OutCh → Record → Record) :
    (s.withRecords f).circuits = s.circuits := by simp only [State.withRecords]
@[simp] theorem State.withRecords_shu (s : State) (f : OutCh → Record → Record) :
    (s.withRecords f).shu = s.shu := by simp only [State.withRecords]
@[simp] theorem State.withRecords_lbi (s : State) (f : OutCh → Record → Record) :
    (s.withRecords f).lbi = s.lbi := by simp only [State.withRecords]
@[simp] theorem State.withRecords_evu (s : State) (f : OutCh → Record → Record) :
    (s.withRecords f).evu = s.evu := by simp only [State.withRecords]
@[simp] theorem State.withRecords_moment (s : State) (f : OutCh → Record → Record) :
    (s.withRecords f).moment = s.moment := by simp only [State.withRecords]

@[simp] theorem State.withRecord_pending (s : State) (c : OutCh) (f : Record → Record) :
    (s.withRecord c f).pending = s.pending := by simp [State.withRecord]
@[simp] theorem State.withRecord_pdir (s : State) (c : OutCh) (f : Record → Record) :
    (s.withRecord c f).pdir = s.pdir := by simp [State.withRecord]
@[simp] theorem State.withRecord_pcache (s : State) (c : OutCh) (f : Record → Record) :
    (s.withRecord c f).pcache = s.pcache := by simp [State.withRecord]
@[simp] theorem State.withRecord_smu (s : State) (c : OutCh) (f : Record → Record) :
    (s.withRecord c f).smu = s.smu := by simp [State.withRecord]
@[simp] theorem State.withRecord_piu (s : State) (c : OutCh) (f : Record → Record) :
    (s.withRecord c f).piu = s.piu := by simp [State.withRecord]
@[simp] theorem State.withRecord_circuits (s : State) (c : OutCh) (f : Record → Record) :
    (s.withRecord c f).circuits = s.circuits := by simp [State.withRecord]
@[simp] theorem State.withRecord_shu (s : State) (c : OutCh) (f : Record → Record) :
    (s.withRecord c f).shu = s.shu := by simp [State.withRecord]
@[simp] theorem State.withRecord_lbi (s : State) (c : OutCh) (f : Record → Record) :
    (s.withRecord c f).lbi = s.lbi := by simp [State.withRecord]
@[simp] theorem State.withRecord_evu (s : State) (c : OutCh) (f : Record → Record) :
    (s.withRecord c f).evu = s.evu := by simp [State.withRecord]
@[simp] theorem State.withRecord_moment (s : State) (c : OutCh) (f : Record → Record) :
    (s.withRecord c f).moment = s.moment := by simp [State.withRecord]

@[simp] theorem State.placeDemand_pending (s : State) (c : OutCh) (seat : Seat) (d : Slot) :
    (s.placeDemand c seat d).pending = s.pending := by simp [State.placeDemand]
@[simp] theorem State.placeDemand_pdir (s : State) (c : OutCh) (seat : Seat) (d : Slot) :
    (s.placeDemand c seat d).pdir = s.pdir := by simp [State.placeDemand]
@[simp] theorem State.placeDemand_pcache (s : State) (c : OutCh) (seat : Seat) (d : Slot) :
    (s.placeDemand c seat d).pcache = s.pcache := by simp [State.placeDemand]
@[simp] theorem State.placeDemand_smu (s : State) (c : OutCh) (seat : Seat) (d : Slot) :
    (s.placeDemand c seat d).smu = s.smu := by simp [State.placeDemand]
@[simp] theorem State.placeDemand_piu (s : State) (c : OutCh) (seat : Seat) (d : Slot) :
    (s.placeDemand c seat d).piu = s.piu := by simp [State.placeDemand]
@[simp] theorem State.placeDemand_circuits (s : State) (c : OutCh) (seat : Seat) (d : Slot) :
    (s.placeDemand c seat d).circuits = s.circuits := by simp [State.placeDemand]
@[simp] theorem State.placeDemand_shu (s : State) (c : OutCh) (seat : Seat) (d : Slot) :
    (s.placeDemand c seat d).shu = s.shu := by simp [State.placeDemand]
@[simp] theorem State.placeDemand_lbi (s : State) (c : OutCh) (seat : Seat) (d : Slot) :
    (s.placeDemand c seat d).lbi = s.lbi := by simp [State.placeDemand]
@[simp] theorem State.placeDemand_evu (s : State) (c : OutCh) (seat : Seat) (d : Slot) :
    (s.placeDemand c seat d).evu = s.evu := by simp [State.placeDemand]
@[simp] theorem State.placeDemand_moment (s : State) (c : OutCh) (seat : Seat) (d : Slot) :
    (s.placeDemand c seat d).moment = s.moment := by simp [State.placeDemand]

@[simp] theorem State.removeDemands_pending (s : State) (f : OutCh → Bool) (p : Seat → Bool) :
    (s.removeDemands f p).pending = s.pending := by simp [State.removeDemands]
@[simp] theorem State.removeDemands_pdir (s : State) (f : OutCh → Bool) (p : Seat → Bool) :
    (s.removeDemands f p).pdir = s.pdir := by simp [State.removeDemands]
@[simp] theorem State.removeDemands_pcache (s : State) (f : OutCh → Bool) (p : Seat → Bool) :
    (s.removeDemands f p).pcache = s.pcache := by simp [State.removeDemands]
@[simp] theorem State.removeDemands_smu (s : State) (f : OutCh → Bool) (p : Seat → Bool) :
    (s.removeDemands f p).smu = s.smu := by simp [State.removeDemands]
@[simp] theorem State.removeDemands_piu (s : State) (f : OutCh → Bool) (p : Seat → Bool) :
    (s.removeDemands f p).piu = s.piu := by simp [State.removeDemands]
@[simp] theorem State.removeDemands_circuits (s : State) (f : OutCh → Bool) (p : Seat → Bool) :
    (s.removeDemands f p).circuits = s.circuits := by simp [State.removeDemands]
@[simp] theorem State.removeDemands_shu (s : State) (f : OutCh → Bool) (p : Seat → Bool) :
    (s.removeDemands f p).shu = s.shu := by simp [State.removeDemands]
@[simp] theorem State.removeDemands_lbi (s : State) (f : OutCh → Bool) (p : Seat → Bool) :
    (s.removeDemands f p).lbi = s.lbi := by simp [State.removeDemands]
@[simp] theorem State.removeDemands_evu (s : State) (f : OutCh → Bool) (p : Seat → Bool) :
    (s.removeDemands f p).evu = s.evu := by simp [State.removeDemands]
@[simp] theorem State.removeDemands_moment (s : State) (f : OutCh → Bool) (p : Seat → Bool) :
    (s.removeDemands f p).moment = s.moment := by simp [State.removeDemands]

@[simp] theorem State.runCounters_pending (s : State) :
    (s.runCounters).pending = s.pending := by simp only [State.runCounters]
@[simp] theorem State.runCounters_cmdt (s : State) : (s.runCounters).cmdt = s.cmdt := by simp only [State.runCounters]
@[simp] theorem State.runCounters_pdir (s : State) : (s.runCounters).pdir = s.pdir := by simp only [State.runCounters]
@[simp] theorem State.runCounters_pcache (s : State) :
    (s.runCounters).pcache = s.pcache := by simp only [State.runCounters]
@[simp] theorem State.runCounters_smu (s : State) : (s.runCounters).smu = s.smu := by simp only [State.runCounters]
@[simp] theorem State.runCounters_piu (s : State) : (s.runCounters).piu = s.piu := by simp only [State.runCounters]
@[simp] theorem State.runCounters_circuits (s : State) :
    (s.runCounters).circuits = s.circuits := by simp only [State.runCounters]
@[simp] theorem State.runCounters_shu (s : State) : (s.runCounters).shu = s.shu := by simp only [State.runCounters]
@[simp] theorem State.runCounters_lbi (s : State) : (s.runCounters).lbi = s.lbi := by simp only [State.runCounters]
@[simp] theorem State.runCounters_evu (s : State) : (s.runCounters).evu = s.evu := by simp only [State.runCounters]

@[simp] theorem State.forceOutputs_pending (s : State) (hit : OutCh → Bool) :
    (s.forceOutputs hit).pending = s.pending := by simp [State.forceOutputs]
@[simp] theorem State.forceOutputs_cmdt (s : State) (hit : OutCh → Bool) :
    (s.forceOutputs hit).cmdt = s.cmdt := by simp [State.forceOutputs]
@[simp] theorem State.forceOutputs_pdir (s : State) (hit : OutCh → Bool) :
    (s.forceOutputs hit).pdir = s.pdir := by simp [State.forceOutputs]
@[simp] theorem State.forceOutputs_pcache (s : State) (hit : OutCh → Bool) :
    (s.forceOutputs hit).pcache = s.pcache := by simp [State.forceOutputs]
@[simp] theorem State.forceOutputs_smu (s : State) (hit : OutCh → Bool) :
    (s.forceOutputs hit).smu = s.smu := by simp [State.forceOutputs]
@[simp] theorem State.forceOutputs_piu (s : State) (hit : OutCh → Bool) :
    (s.forceOutputs hit).piu = s.piu := by simp [State.forceOutputs]
@[simp] theorem State.forceOutputs_circuits (s : State) (hit : OutCh → Bool) :
    (s.forceOutputs hit).circuits = s.circuits := by simp [State.forceOutputs]
@[simp] theorem State.forceOutputs_shu (s : State) (hit : OutCh → Bool) :
    (s.forceOutputs hit).shu = s.shu := by simp [State.forceOutputs]
@[simp] theorem State.forceOutputs_lbi (s : State) (hit : OutCh → Bool) :
    (s.forceOutputs hit).lbi = s.lbi := by simp [State.forceOutputs]
@[simp] theorem State.forceOutputs_evu (s : State) (hit : OutCh → Bool) :
    (s.forceOutputs hit).evu = s.evu := by simp [State.forceOutputs]

@[simp] theorem State.handBounds_pending (s : State) (n : CircuitNo) (was now : Bounds) :
    (s.handBounds n was now).pending = s.pending := by simp [State.handBounds]
@[simp] theorem State.handBounds_pdir (s : State) (n : CircuitNo) (was now : Bounds) :
    (s.handBounds n was now).pdir = s.pdir := by simp [State.handBounds]
@[simp] theorem State.handBounds_pcache (s : State) (n : CircuitNo) (was now : Bounds) :
    (s.handBounds n was now).pcache = s.pcache := by simp [State.handBounds]
@[simp] theorem State.handBounds_smu (s : State) (n : CircuitNo) (was now : Bounds) :
    (s.handBounds n was now).smu = s.smu := by simp [State.handBounds]
@[simp] theorem State.handBounds_piu (s : State) (n : CircuitNo) (was now : Bounds) :
    (s.handBounds n was now).piu = s.piu := by simp [State.handBounds]
@[simp] theorem State.handBounds_circuits (s : State) (n : CircuitNo) (was now : Bounds) :
    (s.handBounds n was now).circuits = s.circuits := by simp [State.handBounds]
@[simp] theorem State.handBounds_shu (s : State) (n : CircuitNo) (was now : Bounds) :
    (s.handBounds n was now).shu = s.shu := by simp [State.handBounds]
@[simp] theorem State.handBounds_lbi (s : State) (n : CircuitNo) (was now : Bounds) :
    (s.handBounds n was now).lbi = s.lbi := by simp [State.handBounds]
@[simp] theorem State.handBounds_evu (s : State) (n : CircuitNo) (was now : Bounds) :
    (s.handBounds n was now).evu = s.evu := by simp [State.handBounds]
@[simp] theorem State.handBounds_moment (s : State) (n : CircuitNo) (was now : Bounds) :
    (s.handBounds n was now).moment = s.moment := by simp [State.handBounds]

@[simp] theorem State.setService_pending (s : State) (seat : Seat) (i : Option InService) :
    (s.setService seat i).pending = s.pending := by simp only [State.setService]
@[simp] theorem State.setService_cmdt (s : State) (seat : Seat) (i : Option InService) :
    (s.setService seat i).cmdt = s.cmdt := by simp only [State.setService]
@[simp] theorem State.setService_pdir (s : State) (seat : Seat) (i : Option InService) :
    (s.setService seat i).pdir = s.pdir := by simp only [State.setService]
@[simp] theorem State.setService_pcache (s : State) (seat : Seat) (i : Option InService) :
    (s.setService seat i).pcache = s.pcache := by simp only [State.setService]
@[simp] theorem State.setService_smu (s : State) (seat : Seat) (i : Option InService) :
    (s.setService seat i).smu = s.smu := by simp only [State.setService]
@[simp] theorem State.setService_piu (s : State) (seat : Seat) (i : Option InService) :
    (s.setService seat i).piu = s.piu := by simp only [State.setService]
@[simp] theorem State.setService_circuits (s : State) (seat : Seat) (i : Option InService) :
    (s.setService seat i).circuits = s.circuits := by simp only [State.setService]
@[simp] theorem State.setService_odu (s : State) (seat : Seat) (i : Option InService) :
    (s.setService seat i).odu = s.odu := by simp only [State.setService]
@[simp] theorem State.setService_shu (s : State) (seat : Seat) (i : Option InService) :
    (s.setService seat i).shu = s.shu := by simp only [State.setService]
@[simp] theorem State.setService_evu (s : State) (seat : Seat) (i : Option InService) :
    (s.setService seat i).evu = s.evu := by simp only [State.setService]
@[simp] theorem State.setService_moment (s : State) (seat : Seat) (i : Option InService) :
    (s.setService seat i).moment = s.moment := by simp only [State.setService]

@[simp] theorem State.append_pending (s : State) (seat : Seat) (e : IntakeEntry) :
    (s.append seat e).pending = s.pending := by simp only [State.append]
@[simp] theorem State.append_cmdt (s : State) (seat : Seat) (e : IntakeEntry) :
    (s.append seat e).cmdt = s.cmdt := by simp only [State.append]
@[simp] theorem State.append_pdir (s : State) (seat : Seat) (e : IntakeEntry) :
    (s.append seat e).pdir = s.pdir := by simp only [State.append]
@[simp] theorem State.append_pcache (s : State) (seat : Seat) (e : IntakeEntry) :
    (s.append seat e).pcache = s.pcache := by simp only [State.append]
@[simp] theorem State.append_smu (s : State) (seat : Seat) (e : IntakeEntry) :
    (s.append seat e).smu = s.smu := by simp only [State.append]
@[simp] theorem State.append_piu (s : State) (seat : Seat) (e : IntakeEntry) :
    (s.append seat e).piu = s.piu := by simp only [State.append]
@[simp] theorem State.append_circuits (s : State) (seat : Seat) (e : IntakeEntry) :
    (s.append seat e).circuits = s.circuits := by simp only [State.append]
@[simp] theorem State.append_odu (s : State) (seat : Seat) (e : IntakeEntry) :
    (s.append seat e).odu = s.odu := by simp only [State.append]
@[simp] theorem State.append_shu (s : State) (seat : Seat) (e : IntakeEntry) :
    (s.append seat e).shu = s.shu := by simp only [State.append]
@[simp] theorem State.append_evu (s : State) (seat : Seat) (e : IntakeEntry) :
    (s.append seat e).evu = s.evu := by simp only [State.append]
@[simp] theorem State.append_moment (s : State) (seat : Seat) (e : IntakeEntry) :
    (s.append seat e).moment = s.moment := by simp only [State.append]

@[simp] theorem State.setChannel_pending (s : State) (ch : PulseCh) (p : PulseChannel) :
    (s.setChannel ch p).pending = s.pending := by simp only [State.setChannel]
@[simp] theorem State.setChannel_cmdt (s : State) (ch : PulseCh) (p : PulseChannel) :
    (s.setChannel ch p).cmdt = s.cmdt := by simp only [State.setChannel]
@[simp] theorem State.setChannel_pdir (s : State) (ch : PulseCh) (p : PulseChannel) :
    (s.setChannel ch p).pdir = s.pdir := by simp only [State.setChannel]
@[simp] theorem State.setChannel_pcache (s : State) (ch : PulseCh) (p : PulseChannel) :
    (s.setChannel ch p).pcache = s.pcache := by simp only [State.setChannel]
@[simp] theorem State.setChannel_smu (s : State) (ch : PulseCh) (p : PulseChannel) :
    (s.setChannel ch p).smu = s.smu := by simp only [State.setChannel]
@[simp] theorem State.setChannel_circuits (s : State) (ch : PulseCh) (p : PulseChannel) :
    (s.setChannel ch p).circuits = s.circuits := by simp only [State.setChannel]
@[simp] theorem State.setChannel_odu (s : State) (ch : PulseCh) (p : PulseChannel) :
    (s.setChannel ch p).odu = s.odu := by simp only [State.setChannel]
@[simp] theorem State.setChannel_shu (s : State) (ch : PulseCh) (p : PulseChannel) :
    (s.setChannel ch p).shu = s.shu := by simp only [State.setChannel]
@[simp] theorem State.setChannel_lbi (s : State) (ch : PulseCh) (p : PulseChannel) :
    (s.setChannel ch p).lbi = s.lbi := by simp only [State.setChannel]
@[simp] theorem State.setChannel_evu (s : State) (ch : PulseCh) (p : PulseChannel) :
    (s.setChannel ch p).evu = s.evu := by simp only [State.setChannel]
@[simp] theorem State.setChannel_moment (s : State) (ch : PulseCh) (p : PulseChannel) :
    (s.setChannel ch p).moment = s.moment := by simp only [State.setChannel]

@[simp] theorem State.setCircuit_pending (s : State) (n : CircuitNo) (c : Circuit) :
    (s.setCircuit n c).pending = s.pending := by simp only [State.setCircuit]
@[simp] theorem State.setCircuit_cmdt (s : State) (n : CircuitNo) (c : Circuit) :
    (s.setCircuit n c).cmdt = s.cmdt := by simp only [State.setCircuit]
@[simp] theorem State.setCircuit_pdir (s : State) (n : CircuitNo) (c : Circuit) :
    (s.setCircuit n c).pdir = s.pdir := by simp only [State.setCircuit]
@[simp] theorem State.setCircuit_pcache (s : State) (n : CircuitNo) (c : Circuit) :
    (s.setCircuit n c).pcache = s.pcache := by simp only [State.setCircuit]
@[simp] theorem State.setCircuit_smu (s : State) (n : CircuitNo) (c : Circuit) :
    (s.setCircuit n c).smu = s.smu := by simp only [State.setCircuit]
@[simp] theorem State.setCircuit_piu (s : State) (n : CircuitNo) (c : Circuit) :
    (s.setCircuit n c).piu = s.piu := by simp only [State.setCircuit]
@[simp] theorem State.setCircuit_odu (s : State) (n : CircuitNo) (c : Circuit) :
    (s.setCircuit n c).odu = s.odu := by simp only [State.setCircuit]
@[simp] theorem State.setCircuit_shu (s : State) (n : CircuitNo) (c : Circuit) :
    (s.setCircuit n c).shu = s.shu := by simp only [State.setCircuit]
@[simp] theorem State.setCircuit_lbi (s : State) (n : CircuitNo) (c : Circuit) :
    (s.setCircuit n c).lbi = s.lbi := by simp only [State.setCircuit]
@[simp] theorem State.setCircuit_evu (s : State) (n : CircuitNo) (c : Circuit) :
    (s.setCircuit n c).evu = s.evu := by simp only [State.setCircuit]
@[simp] theorem State.setCircuit_moment (s : State) (n : CircuitNo) (c : Circuit) :
    (s.setCircuit n c).moment = s.moment := by simp only [State.setCircuit]

@[simp] theorem State.markNoLoad_pending (s : State) (p : Walk → Bool) :
    (s.markNoLoad p).pending = s.pending := by simp only [State.markNoLoad]
@[simp] theorem State.markNoLoad_cmdt (s : State) (p : Walk → Bool) :
    (s.markNoLoad p).cmdt = s.cmdt := by simp only [State.markNoLoad]
@[simp] theorem State.markNoLoad_pcache (s : State) (p : Walk → Bool) :
    (s.markNoLoad p).pcache = s.pcache := by simp only [State.markNoLoad]
@[simp] theorem State.markNoLoad_smu (s : State) (p : Walk → Bool) :
    (s.markNoLoad p).smu = s.smu := by simp only [State.markNoLoad]
@[simp] theorem State.markNoLoad_piu (s : State) (p : Walk → Bool) :
    (s.markNoLoad p).piu = s.piu := by simp only [State.markNoLoad]
@[simp] theorem State.markNoLoad_circuits (s : State) (p : Walk → Bool) :
    (s.markNoLoad p).circuits = s.circuits := by simp only [State.markNoLoad]
@[simp] theorem State.markNoLoad_odu (s : State) (p : Walk → Bool) :
    (s.markNoLoad p).odu = s.odu := by simp only [State.markNoLoad]
@[simp] theorem State.markNoLoad_shu (s : State) (p : Walk → Bool) :
    (s.markNoLoad p).shu = s.shu := by simp only [State.markNoLoad]
@[simp] theorem State.markNoLoad_lbi (s : State) (p : Walk → Bool) :
    (s.markNoLoad p).lbi = s.lbi := by simp only [State.markNoLoad]
@[simp] theorem State.markNoLoad_evu (s : State) (p : Walk → Bool) :
    (s.markNoLoad p).evu = s.evu := by simp only [State.markNoLoad]
@[simp] theorem State.markNoLoad_moment (s : State) (p : Walk → Bool) :
    (s.markNoLoad p).moment = s.moment := by simp only [State.markNoLoad]

@[simp] theorem State.grantWalker_pending (s : State) :
    (s.grantWalker).pending = s.pending := by simp only [State.grantWalker]
@[simp] theorem State.grantWalker_cmdt (s : State) : (s.grantWalker).cmdt = s.cmdt := by simp only [State.grantWalker]
@[simp] theorem State.grantWalker_pcache (s : State) :
    (s.grantWalker).pcache = s.pcache := by simp only [State.grantWalker]
@[simp] theorem State.grantWalker_smu (s : State) : (s.grantWalker).smu = s.smu := by simp only [State.grantWalker]
@[simp] theorem State.grantWalker_piu (s : State) : (s.grantWalker).piu = s.piu := by simp only [State.grantWalker]
@[simp] theorem State.grantWalker_circuits (s : State) :
    (s.grantWalker).circuits = s.circuits := by simp only [State.grantWalker]
@[simp] theorem State.grantWalker_odu (s : State) : (s.grantWalker).odu = s.odu := by simp only [State.grantWalker]
@[simp] theorem State.grantWalker_shu (s : State) : (s.grantWalker).shu = s.shu := by simp only [State.grantWalker]
@[simp] theorem State.grantWalker_lbi (s : State) : (s.grantWalker).lbi = s.lbi := by simp only [State.grantWalker]
@[simp] theorem State.grantWalker_evu (s : State) : (s.grantWalker).evu = s.evu := by simp only [State.grantWalker]
@[simp] theorem State.grantWalker_moment (s : State) :
    (s.grantWalker).moment = s.moment := by simp only [State.grantWalker]

@[simp] theorem State.writeMark_pending (s : State) (addr : DirAddr) (word : DirWord) :
    (s.writeMark addr word).pending = s.pending := by simp only [State.writeMark]
@[simp] theorem State.writeMark_cmdt (s : State) (addr : DirAddr) (word : DirWord) :
    (s.writeMark addr word).cmdt = s.cmdt := by simp only [State.writeMark]
@[simp] theorem State.writeMark_pcache (s : State) (addr : DirAddr) (word : DirWord) :
    (s.writeMark addr word).pcache = s.pcache := by simp only [State.writeMark]
@[simp] theorem State.writeMark_smu (s : State) (addr : DirAddr) (word : DirWord) :
    (s.writeMark addr word).smu = s.smu := by simp only [State.writeMark]
@[simp] theorem State.writeMark_piu (s : State) (addr : DirAddr) (word : DirWord) :
    (s.writeMark addr word).piu = s.piu := by simp only [State.writeMark]
@[simp] theorem State.writeMark_circuits (s : State) (addr : DirAddr) (word : DirWord) :
    (s.writeMark addr word).circuits = s.circuits := by simp only [State.writeMark]
@[simp] theorem State.writeMark_odu (s : State) (addr : DirAddr) (word : DirWord) :
    (s.writeMark addr word).odu = s.odu := by simp only [State.writeMark]
@[simp] theorem State.writeMark_shu (s : State) (addr : DirAddr) (word : DirWord) :
    (s.writeMark addr word).shu = s.shu := by simp only [State.writeMark]
@[simp] theorem State.writeMark_lbi (s : State) (addr : DirAddr) (word : DirWord) :
    (s.writeMark addr word).lbi = s.lbi := by simp only [State.writeMark]
@[simp] theorem State.writeMark_evu (s : State) (addr : DirAddr) (word : DirWord) :
    (s.writeMark addr word).evu = s.evu := by simp only [State.writeMark]
@[simp] theorem State.writeMark_moment (s : State) (addr : DirAddr) (word : DirWord) :
    (s.writeMark addr word).moment = s.moment := by simp only [State.writeMark]

@[simp] theorem State.setRoot_pending (s : State) (named : Seat) (root : Root) :
    (s.setRoot named root).pending = s.pending := by simp [State.setRoot]
@[simp] theorem State.setRoot_cmdt (s : State) (named : Seat) (root : Root) :
    (s.setRoot named root).cmdt = s.cmdt := by simp [State.setRoot]
@[simp] theorem State.setRoot_smu (s : State) (named : Seat) (root : Root) :
    (s.setRoot named root).smu = s.smu := by simp [State.setRoot]
@[simp] theorem State.setRoot_piu (s : State) (named : Seat) (root : Root) :
    (s.setRoot named root).piu = s.piu := by simp [State.setRoot]
@[simp] theorem State.setRoot_circuits (s : State) (named : Seat) (root : Root) :
    (s.setRoot named root).circuits = s.circuits := by simp [State.setRoot]
@[simp] theorem State.setRoot_odu (s : State) (named : Seat) (root : Root) :
    (s.setRoot named root).odu = s.odu := by simp [State.setRoot]
@[simp] theorem State.setRoot_shu (s : State) (named : Seat) (root : Root) :
    (s.setRoot named root).shu = s.shu := by simp [State.setRoot]
@[simp] theorem State.setRoot_lbi (s : State) (named : Seat) (root : Root) :
    (s.setRoot named root).lbi = s.lbi := by simp [State.setRoot]
@[simp] theorem State.setRoot_evu (s : State) (named : Seat) (root : Root) :
    (s.setRoot named root).evu = s.evu := by simp [State.setRoot]
@[simp] theorem State.setRoot_moment (s : State) (named : Seat) (root : Root) :
    (s.setRoot named root).moment = s.moment := by simp [State.setRoot]

@[simp] theorem State.setEventMask_pending (s : State) (named : Seat) (mask : BitVec 12) (enable : Bool) :
    (s.setEventMask named mask enable).pending = s.pending := by simp only [State.setEventMask]
@[simp] theorem State.setEventMask_cmdt (s : State) (named : Seat) (mask : BitVec 12) (enable : Bool) :
    (s.setEventMask named mask enable).cmdt = s.cmdt := by simp only [State.setEventMask]
@[simp] theorem State.setEventMask_pdir (s : State) (named : Seat) (mask : BitVec 12) (enable : Bool) :
    (s.setEventMask named mask enable).pdir = s.pdir := by simp only [State.setEventMask]
@[simp] theorem State.setEventMask_pcache (s : State) (named : Seat) (mask : BitVec 12) (enable : Bool) :
    (s.setEventMask named mask enable).pcache = s.pcache := by simp only [State.setEventMask]
@[simp] theorem State.setEventMask_smu (s : State) (named : Seat) (mask : BitVec 12) (enable : Bool) :
    (s.setEventMask named mask enable).smu = s.smu := by simp only [State.setEventMask]
@[simp] theorem State.setEventMask_piu (s : State) (named : Seat) (mask : BitVec 12) (enable : Bool) :
    (s.setEventMask named mask enable).piu = s.piu := by simp only [State.setEventMask]
@[simp] theorem State.setEventMask_circuits (s : State) (named : Seat) (mask : BitVec 12) (enable : Bool) :
    (s.setEventMask named mask enable).circuits = s.circuits := by simp only [State.setEventMask]
@[simp] theorem State.setEventMask_odu (s : State) (named : Seat) (mask : BitVec 12) (enable : Bool) :
    (s.setEventMask named mask enable).odu = s.odu := by simp only [State.setEventMask]
@[simp] theorem State.setEventMask_shu (s : State) (named : Seat) (mask : BitVec 12) (enable : Bool) :
    (s.setEventMask named mask enable).shu = s.shu := by simp only [State.setEventMask]
@[simp] theorem State.setEventMask_lbi (s : State) (named : Seat) (mask : BitVec 12) (enable : Bool) :
    (s.setEventMask named mask enable).lbi = s.lbi := by simp only [State.setEventMask]
@[simp] theorem State.setEventMask_moment (s : State) (named : Seat) (mask : BitVec 12) (enable : Bool) :
    (s.setEventMask named mask enable).moment = s.moment := by simp only [State.setEventMask]

@[simp] theorem State.bufferPeriod_pending (s : State) (g : GroupNo) (p : Nat) :
    (s.bufferPeriod g p).pending = s.pending := by simp only [State.bufferPeriod]
@[simp] theorem State.bufferPeriod_cmdt (s : State) (g : GroupNo) (p : Nat) :
    (s.bufferPeriod g p).cmdt = s.cmdt := by simp only [State.bufferPeriod]
@[simp] theorem State.bufferPeriod_pdir (s : State) (g : GroupNo) (p : Nat) :
    (s.bufferPeriod g p).pdir = s.pdir := by simp only [State.bufferPeriod]
@[simp] theorem State.bufferPeriod_pcache (s : State) (g : GroupNo) (p : Nat) :
    (s.bufferPeriod g p).pcache = s.pcache := by simp only [State.bufferPeriod]
@[simp] theorem State.bufferPeriod_smu (s : State) (g : GroupNo) (p : Nat) :
    (s.bufferPeriod g p).smu = s.smu := by simp only [State.bufferPeriod]
@[simp] theorem State.bufferPeriod_piu (s : State) (g : GroupNo) (p : Nat) :
    (s.bufferPeriod g p).piu = s.piu := by simp only [State.bufferPeriod]
@[simp] theorem State.bufferPeriod_circuits (s : State) (g : GroupNo) (p : Nat) :
    (s.bufferPeriod g p).circuits = s.circuits := by simp only [State.bufferPeriod]
@[simp] theorem State.bufferPeriod_shu (s : State) (g : GroupNo) (p : Nat) :
    (s.bufferPeriod g p).shu = s.shu := by simp only [State.bufferPeriod]
@[simp] theorem State.bufferPeriod_lbi (s : State) (g : GroupNo) (p : Nat) :
    (s.bufferPeriod g p).lbi = s.lbi := by simp only [State.bufferPeriod]
@[simp] theorem State.bufferPeriod_evu (s : State) (g : GroupNo) (p : Nat) :
    (s.bufferPeriod g p).evu = s.evu := by simp only [State.bufferPeriod]
@[simp] theorem State.bufferPeriod_moment (s : State) (g : GroupNo) (p : Nat) :
    (s.bufferPeriod g p).moment = s.moment := by simp only [State.bufferPeriod]

@[simp] theorem State.setPolarity_pending (s : State) (m : ModCh) (p : Polarity) :
    (s.setPolarity m p).pending = s.pending := by simp only [State.setPolarity]
@[simp] theorem State.setPolarity_cmdt (s : State) (m : ModCh) (p : Polarity) :
    (s.setPolarity m p).cmdt = s.cmdt := by simp only [State.setPolarity]
@[simp] theorem State.setPolarity_pdir (s : State) (m : ModCh) (p : Polarity) :
    (s.setPolarity m p).pdir = s.pdir := by simp only [State.setPolarity]
@[simp] theorem State.setPolarity_pcache (s : State) (m : ModCh) (p : Polarity) :
    (s.setPolarity m p).pcache = s.pcache := by simp only [State.setPolarity]
@[simp] theorem State.setPolarity_smu (s : State) (m : ModCh) (p : Polarity) :
    (s.setPolarity m p).smu = s.smu := by simp only [State.setPolarity]
@[simp] theorem State.setPolarity_piu (s : State) (m : ModCh) (p : Polarity) :
    (s.setPolarity m p).piu = s.piu := by simp only [State.setPolarity]
@[simp] theorem State.setPolarity_circuits (s : State) (m : ModCh) (p : Polarity) :
    (s.setPolarity m p).circuits = s.circuits := by simp only [State.setPolarity]
@[simp] theorem State.setPolarity_shu (s : State) (m : ModCh) (p : Polarity) :
    (s.setPolarity m p).shu = s.shu := by simp only [State.setPolarity]
@[simp] theorem State.setPolarity_lbi (s : State) (m : ModCh) (p : Polarity) :
    (s.setPolarity m p).lbi = s.lbi := by simp only [State.setPolarity]
@[simp] theorem State.setPolarity_evu (s : State) (m : ModCh) (p : Polarity) :
    (s.setPolarity m p).evu = s.evu := by simp only [State.setPolarity]
@[simp] theorem State.setPolarity_moment (s : State) (m : ModCh) (p : Polarity) :
    (s.setPolarity m p).moment = s.moment := by simp only [State.setPolarity]

@[simp] theorem State.setMinimums_pending (s : State) (d : DiscCh) (on off : Nat) :
    (s.setMinimums d on off).pending = s.pending := by simp only [State.setMinimums]
@[simp] theorem State.setMinimums_cmdt (s : State) (d : DiscCh) (on off : Nat) :
    (s.setMinimums d on off).cmdt = s.cmdt := by simp only [State.setMinimums]
@[simp] theorem State.setMinimums_pdir (s : State) (d : DiscCh) (on off : Nat) :
    (s.setMinimums d on off).pdir = s.pdir := by simp only [State.setMinimums]
@[simp] theorem State.setMinimums_pcache (s : State) (d : DiscCh) (on off : Nat) :
    (s.setMinimums d on off).pcache = s.pcache := by simp only [State.setMinimums]
@[simp] theorem State.setMinimums_smu (s : State) (d : DiscCh) (on off : Nat) :
    (s.setMinimums d on off).smu = s.smu := by simp only [State.setMinimums]
@[simp] theorem State.setMinimums_piu (s : State) (d : DiscCh) (on off : Nat) :
    (s.setMinimums d on off).piu = s.piu := by simp only [State.setMinimums]
@[simp] theorem State.setMinimums_circuits (s : State) (d : DiscCh) (on off : Nat) :
    (s.setMinimums d on off).circuits = s.circuits := by simp only [State.setMinimums]
@[simp] theorem State.setMinimums_shu (s : State) (d : DiscCh) (on off : Nat) :
    (s.setMinimums d on off).shu = s.shu := by simp only [State.setMinimums]
@[simp] theorem State.setMinimums_lbi (s : State) (d : DiscCh) (on off : Nat) :
    (s.setMinimums d on off).lbi = s.lbi := by simp only [State.setMinimums]
@[simp] theorem State.setMinimums_evu (s : State) (d : DiscCh) (on off : Nat) :
    (s.setMinimums d on off).evu = s.evu := by simp only [State.setMinimums]
@[simp] theorem State.setMinimums_moment (s : State) (d : DiscCh) (on off : Nat) :
    (s.setMinimums d on off).moment = s.moment := by simp only [State.setMinimums]

@[simp] theorem State.setPair_pending (s : State) (k : PairNo) (f : PairFields) :
    (s.setPair k f).pending = s.pending := by simp only [State.setPair]
@[simp] theorem State.setPair_cmdt (s : State) (k : PairNo) (f : PairFields) :
    (s.setPair k f).cmdt = s.cmdt := by simp only [State.setPair]
@[simp] theorem State.setPair_pdir (s : State) (k : PairNo) (f : PairFields) :
    (s.setPair k f).pdir = s.pdir := by simp only [State.setPair]
@[simp] theorem State.setPair_pcache (s : State) (k : PairNo) (f : PairFields) :
    (s.setPair k f).pcache = s.pcache := by simp only [State.setPair]
@[simp] theorem State.setPair_smu (s : State) (k : PairNo) (f : PairFields) :
    (s.setPair k f).smu = s.smu := by simp only [State.setPair]
@[simp] theorem State.setPair_piu (s : State) (k : PairNo) (f : PairFields) :
    (s.setPair k f).piu = s.piu := by simp only [State.setPair]
@[simp] theorem State.setPair_circuits (s : State) (k : PairNo) (f : PairFields) :
    (s.setPair k f).circuits = s.circuits := by simp only [State.setPair]
@[simp] theorem State.setPair_shu (s : State) (k : PairNo) (f : PairFields) :
    (s.setPair k f).shu = s.shu := by simp only [State.setPair]
@[simp] theorem State.setPair_lbi (s : State) (k : PairNo) (f : PairFields) :
    (s.setPair k f).lbi = s.lbi := by simp only [State.setPair]
@[simp] theorem State.setPair_evu (s : State) (k : PairNo) (f : PairFields) :
    (s.setPair k f).evu = s.evu := by simp only [State.setPair]
@[simp] theorem State.setPair_moment (s : State) (k : PairNo) (f : PairFields) :
    (s.setPair k f).moment = s.moment := by simp only [State.setPair]

@[simp] theorem State.formPair_pending (s : State) (k : PairNo) (f : PairFields) :
    (s.formPair k f).pending = s.pending := by simp [State.formPair]
@[simp] theorem State.formPair_pdir (s : State) (k : PairNo) (f : PairFields) :
    (s.formPair k f).pdir = s.pdir := by simp [State.formPair]
@[simp] theorem State.formPair_pcache (s : State) (k : PairNo) (f : PairFields) :
    (s.formPair k f).pcache = s.pcache := by simp [State.formPair]
@[simp] theorem State.formPair_smu (s : State) (k : PairNo) (f : PairFields) :
    (s.formPair k f).smu = s.smu := by simp [State.formPair]
@[simp] theorem State.formPair_piu (s : State) (k : PairNo) (f : PairFields) :
    (s.formPair k f).piu = s.piu := by simp [State.formPair]
@[simp] theorem State.formPair_circuits (s : State) (k : PairNo) (f : PairFields) :
    (s.formPair k f).circuits = s.circuits := by simp [State.formPair]
@[simp] theorem State.formPair_lbi (s : State) (k : PairNo) (f : PairFields) :
    (s.formPair k f).lbi = s.lbi := by simp [State.formPair]
@[simp] theorem State.formPair_evu (s : State) (k : PairNo) (f : PairFields) :
    (s.formPair k f).evu = s.evu := by simp [State.formPair]
@[simp] theorem State.formPair_moment (s : State) (k : PairNo) (f : PairFields) :
    (s.formPair k f).moment = s.moment := by simp [State.formPair]

@[simp] theorem State.partPair_pending (s : State) (k : PairNo) (f : PairFields) :
    (s.partPair k f).pending = s.pending := by simp [State.partPair]
@[simp] theorem State.partPair_pdir (s : State) (k : PairNo) (f : PairFields) :
    (s.partPair k f).pdir = s.pdir := by simp [State.partPair]
@[simp] theorem State.partPair_pcache (s : State) (k : PairNo) (f : PairFields) :
    (s.partPair k f).pcache = s.pcache := by simp [State.partPair]
@[simp] theorem State.partPair_smu (s : State) (k : PairNo) (f : PairFields) :
    (s.partPair k f).smu = s.smu := by simp [State.partPair]
@[simp] theorem State.partPair_piu (s : State) (k : PairNo) (f : PairFields) :
    (s.partPair k f).piu = s.piu := by simp [State.partPair]
@[simp] theorem State.partPair_circuits (s : State) (k : PairNo) (f : PairFields) :
    (s.partPair k f).circuits = s.circuits := by simp [State.partPair]
@[simp] theorem State.partPair_shu (s : State) (k : PairNo) (f : PairFields) :
    (s.partPair k f).shu = s.shu := by simp [State.partPair]
@[simp] theorem State.partPair_lbi (s : State) (k : PairNo) (f : PairFields) :
    (s.partPair k f).lbi = s.lbi := by simp [State.partPair]
@[simp] theorem State.partPair_evu (s : State) (k : PairNo) (f : PairFields) :
    (s.partPair k f).evu = s.evu := by simp [State.partPair]
@[simp] theorem State.partPair_moment (s : State) (k : PairNo) (f : PairFields) :
    (s.partPair k f).moment = s.moment := by simp [State.partPair]

@[simp] theorem State.endPeriod_pending (s : State) (g : GroupNo) :
    (s.endPeriod g).pending = s.pending := by simp only [State.endPeriod]
@[simp] theorem State.endPeriod_cmdt (s : State) (g : GroupNo) :
    (s.endPeriod g).cmdt = s.cmdt := by simp only [State.endPeriod]
@[simp] theorem State.endPeriod_pdir (s : State) (g : GroupNo) :
    (s.endPeriod g).pdir = s.pdir := by simp only [State.endPeriod]
@[simp] theorem State.endPeriod_pcache (s : State) (g : GroupNo) :
    (s.endPeriod g).pcache = s.pcache := by simp only [State.endPeriod]
@[simp] theorem State.endPeriod_smu (s : State) (g : GroupNo) :
    (s.endPeriod g).smu = s.smu := by simp only [State.endPeriod]
@[simp] theorem State.endPeriod_piu (s : State) (g : GroupNo) :
    (s.endPeriod g).piu = s.piu := by simp only [State.endPeriod]
@[simp] theorem State.endPeriod_circuits (s : State) (g : GroupNo) :
    (s.endPeriod g).circuits = s.circuits := by simp only [State.endPeriod]
@[simp] theorem State.endPeriod_shu (s : State) (g : GroupNo) :
    (s.endPeriod g).shu = s.shu := by simp only [State.endPeriod]
@[simp] theorem State.endPeriod_lbi (s : State) (g : GroupNo) :
    (s.endPeriod g).lbi = s.lbi := by simp only [State.endPeriod]
@[simp] theorem State.endPeriod_evu (s : State) (g : GroupNo) :
    (s.endPeriod g).evu = s.evu := by simp only [State.endPeriod]
@[simp] theorem State.endPeriod_moment (s : State) (g : GroupNo) :
    (s.endPeriod g).moment = s.moment := by simp only [State.endPeriod]

@[simp] theorem State.rearmChannel_pending (s : State) (c : OutCh) :
    (s.rearmChannel c).pending = s.pending := by simp only [State.rearmChannel]
@[simp] theorem State.rearmChannel_cmdt (s : State) (c : OutCh) :
    (s.rearmChannel c).cmdt = s.cmdt := by simp only [State.rearmChannel]
@[simp] theorem State.rearmChannel_pdir (s : State) (c : OutCh) :
    (s.rearmChannel c).pdir = s.pdir := by simp only [State.rearmChannel]
@[simp] theorem State.rearmChannel_pcache (s : State) (c : OutCh) :
    (s.rearmChannel c).pcache = s.pcache := by simp only [State.rearmChannel]
@[simp] theorem State.rearmChannel_smu (s : State) (c : OutCh) :
    (s.rearmChannel c).smu = s.smu := by simp only [State.rearmChannel]
@[simp] theorem State.rearmChannel_piu (s : State) (c : OutCh) :
    (s.rearmChannel c).piu = s.piu := by simp only [State.rearmChannel]
@[simp] theorem State.rearmChannel_circuits (s : State) (c : OutCh) :
    (s.rearmChannel c).circuits = s.circuits := by simp only [State.rearmChannel]
@[simp] theorem State.rearmChannel_lbi (s : State) (c : OutCh) :
    (s.rearmChannel c).lbi = s.lbi := by simp only [State.rearmChannel]
@[simp] theorem State.rearmChannel_evu (s : State) (c : OutCh) :
    (s.rearmChannel c).evu = s.evu := by simp only [State.rearmChannel]
@[simp] theorem State.rearmChannel_moment (s : State) (c : OutCh) :
    (s.rearmChannel c).moment = s.moment := by simp only [State.rearmChannel]

end Sys2Proof.Machine
end

