-- ==== Sys2Proof/Laws/Frames.lean ====
section
/-! SUPPORT. What each compound operation leaves of the fields it does not concern. -/

namespace Sys2Proof.Machine

/-- A fold of steps that each keep `g` keeps `g`. -/
theorem foldl_frame {α β : Type} (g : State → α) (step : State → β → State) (h : ∀ s b, g (step s b) = g s)
    (l : List β) (s : State) : g (l.foldl step s) = g s := by
  induction l generalizing s with
  | nil => rfl
  | cons b l ih => rw [List.foldl_cons, ih, h]

@[simp] theorem State.raiseIf_pending (s : State) (b : Bool) (f : Flag) :
    (s.raiseIf b f).pending = s.pending := by
  unfold State.raiseIf; split <;> simp
@[simp] theorem State.raiseIf_cmdt (s : State) (b : Bool) (f : Flag) :
    (s.raiseIf b f).cmdt = s.cmdt := by
  unfold State.raiseIf; split <;> simp
@[simp] theorem State.raiseIf_pdir (s : State) (b : Bool) (f : Flag) :
    (s.raiseIf b f).pdir = s.pdir := by
  unfold State.raiseIf; split <;> simp
@[simp] theorem State.raiseIf_pcache (s : State) (b : Bool) (f : Flag) :
    (s.raiseIf b f).pcache = s.pcache := by
  unfold State.raiseIf; split <;> simp
@[simp] theorem State.raiseIf_smu (s : State) (b : Bool) (f : Flag) :
    (s.raiseIf b f).smu = s.smu := by
  unfold State.raiseIf; split <;> simp
@[simp] theorem State.raiseIf_piu (s : State) (b : Bool) (f : Flag) :
    (s.raiseIf b f).piu = s.piu := by
  unfold State.raiseIf; split <;> simp
@[simp] theorem State.raiseIf_circuits (s : State) (b : Bool) (f : Flag) :
    (s.raiseIf b f).circuits = s.circuits := by
  unfold State.raiseIf; split <;> simp
@[simp] theorem State.raiseIf_odu (s : State) (b : Bool) (f : Flag) :
    (s.raiseIf b f).odu = s.odu := by
  unfold State.raiseIf; split <;> simp
@[simp] theorem State.raiseIf_shu (s : State) (b : Bool) (f : Flag) :
    (s.raiseIf b f).shu = s.shu := by
  unfold State.raiseIf; split <;> simp
@[simp] theorem State.raiseIf_lbi (s : State) (b : Bool) (f : Flag) :
    (s.raiseIf b f).lbi = s.lbi := by
  unfold State.raiseIf; split <;> simp
@[simp] theorem State.raiseIf_moment (s : State) (b : Bool) (f : Flag) :
    (s.raiseIf b f).moment = s.moment := by
  unfold State.raiseIf; split <;> simp

@[simp] theorem State.handReply_pending (s : State) (seat : Seat) (h : Word) (c : Code) (p : List Word) (restart : Bool) :
    (s.handReply seat h c p restart).pending = s.pending := by
  unfold State.handReply; dsimp only; split <;> simp
@[simp] theorem State.handReply_cmdt (s : State) (seat : Seat) (h : Word) (c : Code) (p : List Word) (restart : Bool) :
    (s.handReply seat h c p restart).cmdt = s.cmdt := by
  unfold State.handReply; dsimp only; split <;> simp
@[simp] theorem State.handReply_pdir (s : State) (seat : Seat) (h : Word) (c : Code) (p : List Word) (restart : Bool) :
    (s.handReply seat h c p restart).pdir = s.pdir := by
  unfold State.handReply; dsimp only; split <;> simp
@[simp] theorem State.handReply_pcache (s : State) (seat : Seat) (h : Word) (c : Code) (p : List Word) (restart : Bool) :
    (s.handReply seat h c p restart).pcache = s.pcache := by
  unfold State.handReply; dsimp only; split <;> simp
@[simp] theorem State.handReply_smu (s : State) (seat : Seat) (h : Word) (c : Code) (p : List Word) (restart : Bool) :
    (s.handReply seat h c p restart).smu = s.smu := by
  unfold State.handReply; dsimp only; split <;> simp
@[simp] theorem State.handReply_piu (s : State) (seat : Seat) (h : Word) (c : Code) (p : List Word) (restart : Bool) :
    (s.handReply seat h c p restart).piu = s.piu := by
  unfold State.handReply; dsimp only; split <;> simp
@[simp] theorem State.handReply_circuits (s : State) (seat : Seat) (h : Word) (c : Code) (p : List Word) (restart : Bool) :
    (s.handReply seat h c p restart).circuits = s.circuits := by
  unfold State.handReply; dsimp only; split <;> simp
@[simp] theorem State.handReply_odu (s : State) (seat : Seat) (h : Word) (c : Code) (p : List Word) (restart : Bool) :
    (s.handReply seat h c p restart).odu = s.odu := by
  unfold State.handReply; dsimp only; split <;> simp
@[simp] theorem State.handReply_shu (s : State) (seat : Seat) (h : Word) (c : Code) (p : List Word) (restart : Bool) :
    (s.handReply seat h c p restart).shu = s.shu := by
  unfold State.handReply; dsimp only; split <;> simp
@[simp] theorem State.handReply_evu (s : State) (seat : Seat) (h : Word) (c : Code) (p : List Word) (restart : Bool) :
    (s.handReply seat h c p restart).evu = s.evu := by
  unfold State.handReply; dsimp only; split <;> simp
@[simp] theorem State.handReply_moment (s : State) (seat : Seat) (h : Word) (c : Code) (p : List Word) (restart : Bool) :
    (s.handReply seat h c p restart).moment = s.moment := by
  unfold State.handReply; dsimp only; split <;> simp

@[simp] theorem State.settleArbiter_pending (s : State) :
    (s.settleArbiter).pending = s.pending := by
  unfold State.settleArbiter; dsimp only; split <;> simp
@[simp] theorem State.settleArbiter_cmdt (s : State) :
    (s.settleArbiter).cmdt = s.cmdt := by
  unfold State.settleArbiter; dsimp only; split <;> simp
@[simp] theorem State.settleArbiter_pdir (s : State) :
    (s.settleArbiter).pdir = s.pdir := by
  unfold State.settleArbiter; dsimp only; split <;> simp
@[simp] theorem State.settleArbiter_pcache (s : State) :
    (s.settleArbiter).pcache = s.pcache := by
  unfold State.settleArbiter; dsimp only; split <;> simp
@[simp] theorem State.settleArbiter_smu (s : State) :
    (s.settleArbiter).smu = s.smu := by
  unfold State.settleArbiter; dsimp only; split <;> simp
@[simp] theorem State.settleArbiter_piu (s : State) :
    (s.settleArbiter).piu = s.piu := by
  unfold State.settleArbiter; dsimp only; split <;> simp
@[simp] theorem State.settleArbiter_circuits (s : State) :
    (s.settleArbiter).circuits = s.circuits := by
  unfold State.settleArbiter; dsimp only; split <;> simp
@[simp] theorem State.settleArbiter_odu (s : State) :
    (s.settleArbiter).odu = s.odu := by
  unfold State.settleArbiter; dsimp only; split <;> simp
@[simp] theorem State.settleArbiter_shu (s : State) :
    (s.settleArbiter).shu = s.shu := by
  unfold State.settleArbiter; dsimp only; split <;> simp
@[simp] theorem State.settleArbiter_evu (s : State) :
    (s.settleArbiter).evu = s.evu := by
  unfold State.settleArbiter; dsimp only; split <;> simp
@[simp] theorem State.settleArbiter_moment (s : State) :
    (s.settleArbiter).moment = s.moment := by
  unfold State.settleArbiter; dsimp only; split <;> simp

@[simp] theorem State.onPair_pending (s : State) (k : PairNo) (p : PairRun → Bool) (f : Pair → PairRun → PairRun) :
    (s.onPair k p f).pending = s.pending := by
  unfold State.onPair; dsimp only; split <;> simp
@[simp] theorem State.onPair_cmdt (s : State) (k : PairNo) (p : PairRun → Bool) (f : Pair → PairRun → PairRun) :
    (s.onPair k p f).cmdt = s.cmdt := by
  unfold State.onPair; dsimp only; split <;> simp
@[simp] theorem State.onPair_pdir (s : State) (k : PairNo) (p : PairRun → Bool) (f : Pair → PairRun → PairRun) :
    (s.onPair k p f).pdir = s.pdir := by
  unfold State.onPair; dsimp only; split <;> simp
@[simp] theorem State.onPair_pcache (s : State) (k : PairNo) (p : PairRun → Bool) (f : Pair → PairRun → PairRun) :
    (s.onPair k p f).pcache = s.pcache := by
  unfold State.onPair; dsimp only; split <;> simp
@[simp] theorem State.onPair_smu (s : State) (k : PairNo) (p : PairRun → Bool) (f : Pair → PairRun → PairRun) :
    (s.onPair k p f).smu = s.smu := by
  unfold State.onPair; dsimp only; split <;> simp
@[simp] theorem State.onPair_piu (s : State) (k : PairNo) (p : PairRun → Bool) (f : Pair → PairRun → PairRun) :
    (s.onPair k p f).piu = s.piu := by
  unfold State.onPair; dsimp only; split <;> simp
@[simp] theorem State.onPair_circuits (s : State) (k : PairNo) (p : PairRun → Bool) (f : Pair → PairRun → PairRun) :
    (s.onPair k p f).circuits = s.circuits := by
  unfold State.onPair; dsimp only; split <;> simp
@[simp] theorem State.onPair_shu (s : State) (k : PairNo) (p : PairRun → Bool) (f : Pair → PairRun → PairRun) :
    (s.onPair k p f).shu = s.shu := by
  unfold State.onPair; dsimp only; split <;> simp
@[simp] theorem State.onPair_lbi (s : State) (k : PairNo) (p : PairRun → Bool) (f : Pair → PairRun → PairRun) :
    (s.onPair k p f).lbi = s.lbi := by
  unfold State.onPair; dsimp only; split <;> simp
@[simp] theorem State.onPair_evu (s : State) (k : PairNo) (p : PairRun → Bool) (f : Pair → PairRun → PairRun) :
    (s.onPair k p f).evu = s.evu := by
  unfold State.onPair; dsimp only; split <;> simp
@[simp] theorem State.onPair_moment (s : State) (k : PairNo) (p : PairRun → Bool) (f : Pair → PairRun → PairRun) :
    (s.onPair k p f).moment = s.moment := by
  unfold State.onPair; dsimp only; split <;> simp

@[simp] theorem State.shutOffWhere_pending (s : State) (p : OutCh → Bool) :
    (s.shutOffWhere p).pending = s.pending := by
  unfold State.shutOffWhere; dsimp only; split <;> simp
@[simp] theorem State.shutOffWhere_cmdt (s : State) (p : OutCh → Bool) :
    (s.shutOffWhere p).cmdt = s.cmdt := by
  unfold State.shutOffWhere; dsimp only; split <;> simp
@[simp] theorem State.shutOffWhere_pdir (s : State) (p : OutCh → Bool) :
    (s.shutOffWhere p).pdir = s.pdir := by
  unfold State.shutOffWhere; dsimp only; split <;> simp
@[simp] theorem State.shutOffWhere_pcache (s : State) (p : OutCh → Bool) :
    (s.shutOffWhere p).pcache = s.pcache := by
  unfold State.shutOffWhere; dsimp only; split <;> simp
@[simp] theorem State.shutOffWhere_smu (s : State) (p : OutCh → Bool) :
    (s.shutOffWhere p).smu = s.smu := by
  unfold State.shutOffWhere; dsimp only; split <;> simp
@[simp] theorem State.shutOffWhere_piu (s : State) (p : OutCh → Bool) :
    (s.shutOffWhere p).piu = s.piu := by
  unfold State.shutOffWhere; dsimp only; split <;> simp
@[simp] theorem State.shutOffWhere_circuits (s : State) (p : OutCh → Bool) :
    (s.shutOffWhere p).circuits = s.circuits := by
  unfold State.shutOffWhere; dsimp only; split <;> simp
@[simp] theorem State.shutOffWhere_lbi (s : State) (p : OutCh → Bool) :
    (s.shutOffWhere p).lbi = s.lbi := by
  unfold State.shutOffWhere; dsimp only; split <;> simp

@[simp] theorem State.causeBegins_pending (s : State) (c : Cause) (f : OutCh → Bool) :
    (s.causeBegins c f).pending = s.pending := by simp [State.causeBegins]
@[simp] theorem State.causeBegins_cmdt (s : State) (c : Cause) (f : OutCh → Bool) :
    (s.causeBegins c f).cmdt = s.cmdt := by simp [State.causeBegins]
@[simp] theorem State.causeBegins_pdir (s : State) (c : Cause) (f : OutCh → Bool) :
    (s.causeBegins c f).pdir = s.pdir := by simp [State.causeBegins]
@[simp] theorem State.causeBegins_pcache (s : State) (c : Cause) (f : OutCh → Bool) :
    (s.causeBegins c f).pcache = s.pcache := by simp [State.causeBegins]
@[simp] theorem State.causeBegins_smu (s : State) (c : Cause) (f : OutCh → Bool) :
    (s.causeBegins c f).smu = s.smu := by simp [State.causeBegins]
@[simp] theorem State.causeBegins_piu (s : State) (c : Cause) (f : OutCh → Bool) :
    (s.causeBegins c f).piu = s.piu := by simp [State.causeBegins]
@[simp] theorem State.causeBegins_circuits (s : State) (c : Cause) (f : OutCh → Bool) :
    (s.causeBegins c f).circuits = s.circuits := by simp [State.causeBegins]
@[simp] theorem State.causeBegins_lbi (s : State) (c : Cause) (f : OutCh → Bool) :
    (s.causeBegins c f).lbi = s.lbi := by simp [State.causeBegins]

@[simp] theorem State.changeCircuit_pending (s : State) (n : CircuitNo) (c : Circuit) :
    (s.changeCircuit n c).pending = s.pending := by
  unfold State.changeCircuit; dsimp only; (repeat' split) <;> simp
@[simp] theorem State.changeCircuit_pdir (s : State) (n : CircuitNo) (c : Circuit) :
    (s.changeCircuit n c).pdir = s.pdir := by
  unfold State.changeCircuit; dsimp only; (repeat' split) <;> simp
@[simp] theorem State.changeCircuit_pcache (s : State) (n : CircuitNo) (c : Circuit) :
    (s.changeCircuit n c).pcache = s.pcache := by
  unfold State.changeCircuit; dsimp only; (repeat' split) <;> simp
@[simp] theorem State.changeCircuit_smu (s : State) (n : CircuitNo) (c : Circuit) :
    (s.changeCircuit n c).smu = s.smu := by
  unfold State.changeCircuit; dsimp only; (repeat' split) <;> simp
@[simp] theorem State.changeCircuit_piu (s : State) (n : CircuitNo) (c : Circuit) :
    (s.changeCircuit n c).piu = s.piu := by
  unfold State.changeCircuit; dsimp only; (repeat' split) <;> simp
@[simp] theorem State.changeCircuit_lbi (s : State) (n : CircuitNo) (c : Circuit) :
    (s.changeCircuit n c).lbi = s.lbi := by
  unfold State.changeCircuit; dsimp only; (repeat' split) <;> simp

@[simp] theorem State.evaluate_pending (s : State) (n : CircuitNo) :
    (s.evaluate n).pending = s.pending := by
  unfold State.evaluate; (repeat' split) <;> simp
@[simp] theorem State.evaluate_pdir (s : State) (n : CircuitNo) :
    (s.evaluate n).pdir = s.pdir := by
  unfold State.evaluate; (repeat' split) <;> simp
@[simp] theorem State.evaluate_pcache (s : State) (n : CircuitNo) :
    (s.evaluate n).pcache = s.pcache := by
  unfold State.evaluate; (repeat' split) <;> simp
@[simp] theorem State.evaluate_smu (s : State) (n : CircuitNo) :
    (s.evaluate n).smu = s.smu := by
  unfold State.evaluate; (repeat' split) <;> simp
@[simp] theorem State.evaluate_piu (s : State) (n : CircuitNo) :
    (s.evaluate n).piu = s.piu := by
  unfold State.evaluate; (repeat' split) <;> simp
@[simp] theorem State.evaluate_lbi (s : State) (n : CircuitNo) :
    (s.evaluate n).lbi = s.lbi := by
  unfold State.evaluate; (repeat' split) <;> simp

@[simp] theorem State.judgeProof_pending (s : State) (n : CircuitNo) :
    (s.judgeProof n).pending = s.pending := by
  unfold State.judgeProof; dsimp only; (repeat' split) <;> simp
@[simp] theorem State.judgeProof_pdir (s : State) (n : CircuitNo) :
    (s.judgeProof n).pdir = s.pdir := by
  unfold State.judgeProof; dsimp only; (repeat' split) <;> simp
@[simp] theorem State.judgeProof_pcache (s : State) (n : CircuitNo) :
    (s.judgeProof n).pcache = s.pcache := by
  unfold State.judgeProof; dsimp only; (repeat' split) <;> simp
@[simp] theorem State.judgeProof_smu (s : State) (n : CircuitNo) :
    (s.judgeProof n).smu = s.smu := by
  unfold State.judgeProof; dsimp only; (repeat' split) <;> simp
@[simp] theorem State.judgeProof_lbi (s : State) (n : CircuitNo) :
    (s.judgeProof n).lbi = s.lbi := by
  unfold State.judgeProof; dsimp only; (repeat' split) <;> simp

@[simp] theorem State.judgeProofOf_pending (s : State) (ch : PulseCh) :
    (s.judgeProofOf ch).pending = s.pending := by
  unfold State.judgeProofOf
  exact foldl_frame (·.pending) _ (fun s n => by split <;> simp) _ s
@[simp] theorem State.judgeProofOf_pdir (s : State) (ch : PulseCh) :
    (s.judgeProofOf ch).pdir = s.pdir := by
  unfold State.judgeProofOf
  exact foldl_frame (·.pdir) _ (fun s n => by split <;> simp) _ s
@[simp] theorem State.judgeProofOf_pcache (s : State) (ch : PulseCh) :
    (s.judgeProofOf ch).pcache = s.pcache := by
  unfold State.judgeProofOf
  exact foldl_frame (·.pcache) _ (fun s n => by split <;> simp) _ s
@[simp] theorem State.judgeProofOf_smu (s : State) (ch : PulseCh) :
    (s.judgeProofOf ch).smu = s.smu := by
  unfold State.judgeProofOf
  exact foldl_frame (·.smu) _ (fun s n => by split <;> simp) _ s
@[simp] theorem State.judgeProofOf_lbi (s : State) (ch : PulseCh) :
    (s.judgeProofOf ch).lbi = s.lbi := by
  unfold State.judgeProofOf
  exact foldl_frame (·.lbi) _ (fun s n => by split <;> simp) _ s

@[simp] theorem State.takeStanding_pending (s : State) (b : BusSeat) (now : Standing) :
    (s.takeStanding b now).pending = s.pending := by
  unfold State.takeStanding; dsimp only; (repeat' split) <;> simp
@[simp] theorem State.takeStanding_pdir (s : State) (b : BusSeat) (now : Standing) :
    (s.takeStanding b now).pdir = s.pdir := by
  unfold State.takeStanding; dsimp only; (repeat' split) <;> simp
@[simp] theorem State.takeStanding_pcache (s : State) (b : BusSeat) (now : Standing) :
    (s.takeStanding b now).pcache = s.pcache := by
  unfold State.takeStanding; dsimp only; (repeat' split) <;> simp
@[simp] theorem State.takeStanding_smu (s : State) (b : BusSeat) (now : Standing) :
    (s.takeStanding b now).smu = s.smu := by
  unfold State.takeStanding; dsimp only; (repeat' split) <;> simp
@[simp] theorem State.takeStanding_piu (s : State) (b : BusSeat) (now : Standing) :
    (s.takeStanding b now).piu = s.piu := by
  unfold State.takeStanding; dsimp only; (repeat' split) <;> simp
@[simp] theorem State.takeStanding_circuits (s : State) (b : BusSeat) (now : Standing) :
    (s.takeStanding b now).circuits = s.circuits := by
  unfold State.takeStanding; dsimp only; (repeat' split) <;> simp
@[simp] theorem State.takeStanding_shu (s : State) (b : BusSeat) (now : Standing) :
    (s.takeStanding b now).shu = s.shu := by
  unfold State.takeStanding; dsimp only; (repeat' split) <;> simp
@[simp] theorem State.takeStanding_moment (s : State) (b : BusSeat) (now : Standing) :
    (s.takeStanding b now).moment = s.moment := by
  unfold State.takeStanding; dsimp only; (repeat' split) <;> simp

@[simp] theorem State.setCount_pending (s : State) (b : BusSeat) (n : Nat) :
    (s.setCount b n).pending = s.pending := by
  unfold State.setCount; dsimp only; (repeat' split) <;> simp
@[simp] theorem State.setCount_pdir (s : State) (b : BusSeat) (n : Nat) :
    (s.setCount b n).pdir = s.pdir := by
  unfold State.setCount; dsimp only; (repeat' split) <;> simp
@[simp] theorem State.setCount_pcache (s : State) (b : BusSeat) (n : Nat) :
    (s.setCount b n).pcache = s.pcache := by
  unfold State.setCount; dsimp only; (repeat' split) <;> simp
@[simp] theorem State.setCount_smu (s : State) (b : BusSeat) (n : Nat) :
    (s.setCount b n).smu = s.smu := by
  unfold State.setCount; dsimp only; (repeat' split) <;> simp
@[simp] theorem State.setCount_piu (s : State) (b : BusSeat) (n : Nat) :
    (s.setCount b n).piu = s.piu := by
  unfold State.setCount; dsimp only; (repeat' split) <;> simp
@[simp] theorem State.setCount_circuits (s : State) (b : BusSeat) (n : Nat) :
    (s.setCount b n).circuits = s.circuits := by
  unfold State.setCount; dsimp only; (repeat' split) <;> simp
@[simp] theorem State.setCount_shu (s : State) (b : BusSeat) (n : Nat) :
    (s.setCount b n).shu = s.shu := by
  unfold State.setCount; dsimp only; (repeat' split) <;> simp
@[simp] theorem State.setCount_moment (s : State) (b : BusSeat) (n : Nat) :
    (s.setCount b n).moment = s.moment := by
  unfold State.setCount; dsimp only; (repeat' split) <;> simp

@[simp] theorem State.applyOutcome_pending (s : State) (seat : Seat) (c : Code) :
    (s.applyOutcome seat c).pending = s.pending := by
  unfold State.applyOutcome; (repeat' split) <;> simp
@[simp] theorem State.applyOutcome_pdir (s : State) (seat : Seat) (c : Code) :
    (s.applyOutcome seat c).pdir = s.pdir := by
  unfold State.applyOutcome; (repeat' split) <;> simp
@[simp] theorem State.applyOutcome_pcache (s : State) (seat : Seat) (c : Code) :
    (s.applyOutcome seat c).pcache = s.pcache := by
  unfold State.applyOutcome; (repeat' split) <;> simp
@[simp] theorem State.applyOutcome_smu (s : State) (seat : Seat) (c : Code) :
    (s.applyOutcome seat c).smu = s.smu := by
  unfold State.applyOutcome; (repeat' split) <;> simp
@[simp] theorem State.applyOutcome_piu (s : State) (seat : Seat) (c : Code) :
    (s.applyOutcome seat c).piu = s.piu := by
  unfold State.applyOutcome; (repeat' split) <;> simp
@[simp] theorem State.applyOutcome_circuits (s : State) (seat : Seat) (c : Code) :
    (s.applyOutcome seat c).circuits = s.circuits := by
  unfold State.applyOutcome; (repeat' split) <;> simp
@[simp] theorem State.applyOutcome_shu (s : State) (seat : Seat) (c : Code) :
    (s.applyOutcome seat c).shu = s.shu := by
  unfold State.applyOutcome; (repeat' split) <;> simp
@[simp] theorem State.applyOutcome_moment (s : State) (seat : Seat) (c : Code) :
    (s.applyOutcome seat c).moment = s.moment := by
  unfold State.applyOutcome; (repeat' split) <;> simp

@[simp] theorem State.answer_pending (s : State) (seat : Seat) (r : Request) (c : Code) (p : List Word) :
    (s.answer seat r c p).pending = s.pending := by simp [State.answer]
@[simp] theorem State.answer_pdir (s : State) (seat : Seat) (r : Request) (c : Code) (p : List Word) :
    (s.answer seat r c p).pdir = s.pdir := by simp [State.answer]
@[simp] theorem State.answer_pcache (s : State) (seat : Seat) (r : Request) (c : Code) (p : List Word) :
    (s.answer seat r c p).pcache = s.pcache := by simp [State.answer]
@[simp] theorem State.answer_smu (s : State) (seat : Seat) (r : Request) (c : Code) (p : List Word) :
    (s.answer seat r c p).smu = s.smu := by simp [State.answer]
@[simp] theorem State.answer_piu (s : State) (seat : Seat) (r : Request) (c : Code) (p : List Word) :
    (s.answer seat r c p).piu = s.piu := by simp [State.answer]
@[simp] theorem State.answer_circuits (s : State) (seat : Seat) (r : Request) (c : Code) (p : List Word) :
    (s.answer seat r c p).circuits = s.circuits := by simp [State.answer]
@[simp] theorem State.answer_shu (s : State) (seat : Seat) (r : Request) (c : Code) (p : List Word) :
    (s.answer seat r c p).shu = s.shu := by simp [State.answer]
@[simp] theorem State.answer_moment (s : State) (seat : Seat) (r : Request) (c : Code) (p : List Word) :
    (s.answer seat r c p).moment = s.moment := by simp [State.answer]

@[simp] theorem State.awaitWalk_pending (s : State) (seat : Seat) (r : Request) (b : Bool) :
    (s.awaitWalk seat r b).pending = s.pending := by simp [State.awaitWalk]
@[simp] theorem State.awaitWalk_cmdt (s : State) (seat : Seat) (r : Request) (b : Bool) :
    (s.awaitWalk seat r b).cmdt = s.cmdt := by simp [State.awaitWalk]
@[simp] theorem State.awaitWalk_pdir (s : State) (seat : Seat) (r : Request) (b : Bool) :
    (s.awaitWalk seat r b).pdir = s.pdir := by simp [State.awaitWalk]
@[simp] theorem State.awaitWalk_pcache (s : State) (seat : Seat) (r : Request) (b : Bool) :
    (s.awaitWalk seat r b).pcache = s.pcache := by simp [State.awaitWalk]
@[simp] theorem State.awaitWalk_smu (s : State) (seat : Seat) (r : Request) (b : Bool) :
    (s.awaitWalk seat r b).smu = s.smu := by simp [State.awaitWalk]
@[simp] theorem State.awaitWalk_piu (s : State) (seat : Seat) (r : Request) (b : Bool) :
    (s.awaitWalk seat r b).piu = s.piu := by simp [State.awaitWalk]
@[simp] theorem State.awaitWalk_circuits (s : State) (seat : Seat) (r : Request) (b : Bool) :
    (s.awaitWalk seat r b).circuits = s.circuits := by simp [State.awaitWalk]
@[simp] theorem State.awaitWalk_odu (s : State) (seat : Seat) (r : Request) (b : Bool) :
    (s.awaitWalk seat r b).odu = s.odu := by simp [State.awaitWalk]
@[simp] theorem State.awaitWalk_shu (s : State) (seat : Seat) (r : Request) (b : Bool) :
    (s.awaitWalk seat r b).shu = s.shu := by simp [State.awaitWalk]
@[simp] theorem State.awaitWalk_evu (s : State) (seat : Seat) (r : Request) (b : Bool) :
    (s.awaitWalk seat r b).evu = s.evu := by simp [State.awaitWalk]
@[simp] theorem State.awaitWalk_moment (s : State) (seat : Seat) (r : Request) (b : Bool) :
    (s.awaitWalk seat r b).moment = s.moment := by simp [State.awaitWalk]

@[simp] theorem State.orphanBegins_pending (s : State) :
    (s.orphanBegins).pending = s.pending := by simp [State.orphanBegins]
@[simp] theorem State.orphanBegins_pdir (s : State) : (s.orphanBegins).pdir = s.pdir := by simp [State.orphanBegins]
@[simp] theorem State.orphanBegins_pcache (s : State) :
    (s.orphanBegins).pcache = s.pcache := by simp [State.orphanBegins]
@[simp] theorem State.orphanBegins_smu (s : State) : (s.orphanBegins).smu = s.smu := by simp [State.orphanBegins]
@[simp] theorem State.orphanBegins_piu (s : State) : (s.orphanBegins).piu = s.piu := by simp [State.orphanBegins]
@[simp] theorem State.orphanBegins_circuits (s : State) :
    (s.orphanBegins).circuits = s.circuits := by simp [State.orphanBegins]

@[simp] theorem State.orphanHeard_pending (s : State) :
    (s.orphanHeard).pending = s.pending := by simp [State.orphanHeard]
@[simp] theorem State.orphanHeard_cmdt (s : State) : (s.orphanHeard).cmdt = s.cmdt := by simp [State.orphanHeard]
@[simp] theorem State.orphanHeard_pdir (s : State) : (s.orphanHeard).pdir = s.pdir := by simp [State.orphanHeard]
@[simp] theorem State.orphanHeard_pcache (s : State) :
    (s.orphanHeard).pcache = s.pcache := by simp [State.orphanHeard]
@[simp] theorem State.orphanHeard_smu (s : State) : (s.orphanHeard).smu = s.smu := by simp [State.orphanHeard]
@[simp] theorem State.orphanHeard_piu (s : State) : (s.orphanHeard).piu = s.piu := by simp [State.orphanHeard]
@[simp] theorem State.orphanHeard_circuits (s : State) :
    (s.orphanHeard).circuits = s.circuits := by simp [State.orphanHeard]
@[simp] theorem State.orphanHeard_odu (s : State) : (s.orphanHeard).odu = s.odu := by simp [State.orphanHeard]
@[simp] theorem State.orphanHeard_shu (s : State) : (s.orphanHeard).shu = s.shu := by simp [State.orphanHeard]
@[simp] theorem State.orphanHeard_moment (s : State) :
    (s.orphanHeard).moment = s.moment := by simp [State.orphanHeard]

@[simp] theorem State.refuseAtArrival_pending (s : State) (seat : Seat) (r : Request) (c : Code) :
    (s.refuseAtArrival seat r c).pending = s.pending := by
  unfold State.refuseAtArrival; dsimp only; (repeat' split) <;> simp
@[simp] theorem State.refuseAtArrival_pdir (s : State) (seat : Seat) (r : Request) (c : Code) :
    (s.refuseAtArrival seat r c).pdir = s.pdir := by
  unfold State.refuseAtArrival; dsimp only; (repeat' split) <;> simp
@[simp] theorem State.refuseAtArrival_pcache (s : State) (seat : Seat) (r : Request) (c : Code) :
    (s.refuseAtArrival seat r c).pcache = s.pcache := by
  unfold State.refuseAtArrival; dsimp only; (repeat' split) <;> simp
@[simp] theorem State.refuseAtArrival_smu (s : State) (seat : Seat) (r : Request) (c : Code) :
    (s.refuseAtArrival seat r c).smu = s.smu := by
  unfold State.refuseAtArrival; dsimp only; (repeat' split) <;> simp
@[simp] theorem State.refuseAtArrival_piu (s : State) (seat : Seat) (r : Request) (c : Code) :
    (s.refuseAtArrival seat r c).piu = s.piu := by
  unfold State.refuseAtArrival; dsimp only; (repeat' split) <;> simp
@[simp] theorem State.refuseAtArrival_circuits (s : State) (seat : Seat) (r : Request) (c : Code) :
    (s.refuseAtArrival seat r c).circuits = s.circuits := by
  unfold State.refuseAtArrival; dsimp only; (repeat' split) <;> simp
@[simp] theorem State.refuseAtArrival_shu (s : State) (seat : Seat) (r : Request) (c : Code) :
    (s.refuseAtArrival seat r c).shu = s.shu := by
  unfold State.refuseAtArrival; dsimp only; (repeat' split) <;> simp
@[simp] theorem State.refuseAtArrival_moment (s : State) (seat : Seat) (r : Request) (c : Code) :
    (s.refuseAtArrival seat r c).moment = s.moment := by
  unfold State.refuseAtArrival; dsimp only; (repeat' split) <;> simp

@[simp] theorem State.enter_pending (s : State) (seat : Seat) (r : Request) :
    (s.enter seat r).pending = s.pending := by
  unfold State.enter; dsimp only; (repeat' split) <;> simp
@[simp] theorem State.enter_pdir (s : State) (seat : Seat) (r : Request) :
    (s.enter seat r).pdir = s.pdir := by
  unfold State.enter; dsimp only; (repeat' split) <;> simp
@[simp] theorem State.enter_pcache (s : State) (seat : Seat) (r : Request) :
    (s.enter seat r).pcache = s.pcache := by
  unfold State.enter; dsimp only; (repeat' split) <;> simp
@[simp] theorem State.enter_smu (s : State) (seat : Seat) (r : Request) :
    (s.enter seat r).smu = s.smu := by
  unfold State.enter; dsimp only; (repeat' split) <;> simp
@[simp] theorem State.enter_piu (s : State) (seat : Seat) (r : Request) :
    (s.enter seat r).piu = s.piu := by
  unfold State.enter; dsimp only; (repeat' split) <;> simp
@[simp] theorem State.enter_circuits (s : State) (seat : Seat) (r : Request) :
    (s.enter seat r).circuits = s.circuits := by
  unfold State.enter; dsimp only; (repeat' split) <;> simp
@[simp] theorem State.enter_shu (s : State) (seat : Seat) (r : Request) :
    (s.enter seat r).shu = s.shu := by
  unfold State.enter; dsimp only; (repeat' split) <;> simp
@[simp] theorem State.enter_moment (s : State) (seat : Seat) (r : Request) :
    (s.enter seat r).moment = s.moment := by
  unfold State.enter; dsimp only; (repeat' split) <;> simp

@[simp] theorem State.dissolvePair_pending (s : State) (k : PairNo) (f : PairFields) :
    (s.dissolvePair k f).pending = s.pending := by
  unfold State.dissolvePair; dsimp only; (repeat' split) <;> simp
@[simp] theorem State.dissolvePair_pdir (s : State) (k : PairNo) (f : PairFields) :
    (s.dissolvePair k f).pdir = s.pdir := by
  unfold State.dissolvePair; dsimp only; (repeat' split) <;> simp
@[simp] theorem State.dissolvePair_pcache (s : State) (k : PairNo) (f : PairFields) :
    (s.dissolvePair k f).pcache = s.pcache := by
  unfold State.dissolvePair; dsimp only; (repeat' split) <;> simp
@[simp] theorem State.dissolvePair_smu (s : State) (k : PairNo) (f : PairFields) :
    (s.dissolvePair k f).smu = s.smu := by
  unfold State.dissolvePair; dsimp only; (repeat' split) <;> simp
@[simp] theorem State.dissolvePair_piu (s : State) (k : PairNo) (f : PairFields) :
    (s.dissolvePair k f).piu = s.piu := by
  unfold State.dissolvePair; dsimp only; (repeat' split) <;> simp
@[simp] theorem State.dissolvePair_circuits (s : State) (k : PairNo) (f : PairFields) :
    (s.dissolvePair k f).circuits = s.circuits := by
  unfold State.dissolvePair; dsimp only; (repeat' split) <;> simp
@[simp] theorem State.dissolvePair_lbi (s : State) (k : PairNo) (f : PairFields) :
    (s.dissolvePair k f).lbi = s.lbi := by
  unfold State.dissolvePair; dsimp only; (repeat' split) <;> simp

@[simp] theorem State.setShutoff_pending (s : State) (c : OutCh) (f : ShutoffFields) :
    (s.setShutoff c f).pending = s.pending := by
  unfold State.setShutoff; dsimp only; (repeat' split) <;> simp
@[simp] theorem State.setShutoff_cmdt (s : State) (c : OutCh) (f : ShutoffFields) :
    (s.setShutoff c f).cmdt = s.cmdt := by
  unfold State.setShutoff; dsimp only; (repeat' split) <;> simp
@[simp] theorem State.setShutoff_pdir (s : State) (c : OutCh) (f : ShutoffFields) :
    (s.setShutoff c f).pdir = s.pdir := by
  unfold State.setShutoff; dsimp only; (repeat' split) <;> simp
@[simp] theorem State.setShutoff_pcache (s : State) (c : OutCh) (f : ShutoffFields) :
    (s.setShutoff c f).pcache = s.pcache := by
  unfold State.setShutoff; dsimp only; (repeat' split) <;> simp
@[simp] theorem State.setShutoff_smu (s : State) (c : OutCh) (f : ShutoffFields) :
    (s.setShutoff c f).smu = s.smu := by
  unfold State.setShutoff; dsimp only; (repeat' split) <;> simp
@[simp] theorem State.setShutoff_piu (s : State) (c : OutCh) (f : ShutoffFields) :
    (s.setShutoff c f).piu = s.piu := by
  unfold State.setShutoff; dsimp only; (repeat' split) <;> simp
@[simp] theorem State.setShutoff_circuits (s : State) (c : OutCh) (f : ShutoffFields) :
    (s.setShutoff c f).circuits = s.circuits := by
  unfold State.setShutoff; dsimp only; (repeat' split) <;> simp
@[simp] theorem State.setShutoff_lbi (s : State) (c : OutCh) (f : ShutoffFields) :
    (s.setShutoff c f).lbi = s.lbi := by
  unfold State.setShutoff; dsimp only; (repeat' split) <;> simp

end Sys2Proof.Machine
end

