-- ==== Sys2Proof/Laws/Records.lean ====
section
/-! SUPPORT. What the operations over the command records leave in each record, in the outputs' forming and in the
latches. -/

namespace Sys2Proof.Machine

/-! ### Records -/

/-- A change of records, record by record: the odd record of a formed pair takes none. -/
theorem State.withRecords_record (s : State) (f : OutCh → Record → Record) (c : OutCh) :
    (s.withRecords f).record c = if s.odu.oddMember c = true then s.record c else f c (s.record c) := by
  simp only [State.withRecords, State.record, Bank.read_fill]

/-- A change of one record leaves every other. -/
theorem State.withRecord_record (s : State) (c : OutCh) (f : Record → Record) (c' : OutCh) :
    (s.withRecord c f).record c' =
      if c' = c ∧ s.odu.oddMember c' = false then f (s.record c') else s.record c' := by
  simp only [State.withRecord, State.withRecords_record]
  by_cases h : c' = c <;> cases s.odu.oddMember c' <;> simp [h]

@[simp] theorem State.withRecords_ranks (s : State) (f : OutCh → Record → Record) :
    (s.withRecords f).cmdt.ranks = s.cmdt.ranks := by simp only [State.withRecords]

@[simp] theorem State.withRecords_holdPhase (s : State) (f : OutCh → Record → Record) :
    (s.withRecords f).cmdt.holdPhase = s.cmdt.holdPhase := by simp only [State.withRecords]

@[simp] theorem State.withRecord_ranks (s : State) (c : OutCh) (f : Record → Record) :
    (s.withRecord c f).cmdt.ranks = s.cmdt.ranks := by simp [State.withRecord]

@[simp] theorem State.removeDemands_ranks (s : State) (f : OutCh → Bool) (p : Seat → Bool) :
    (s.removeDemands f p).cmdt.ranks = s.cmdt.ranks := by simp [State.removeDemands]

@[simp] theorem State.placeDemand_ranks (s : State) (c : OutCh) (seat : Seat) (d : Slot) :
    (s.placeDemand c seat d).cmdt.ranks = s.cmdt.ranks := by simp [State.placeDemand]

/-! ### Standing and rights depend on the loop bus interface alone -/

theorem State.standing_congr {s t : State} (h : s.lbi = t.lbi) (seat : Seat) : s.standing seat = t.standing seat := by
  simp only [State.standing, h]

theorem State.editor_congr {s t : State} (h : s.lbi = t.lbi) (seat : Seat) : s.editor seat = t.editor seat := by
  simp only [State.editor, h]

/-! ### Slots, winner and effective command of one record -/

@[simp] theorem Record.rearbitrate_slots (ranks : Bank Seat 4) (st : Seat → Standing) (r : Record) :
    (r.rearbitrate ranks st).slots = r.slots := by
  unfold Record.rearbitrate
  split <;> rfl

@[simp] theorem Record.settle_slots (r : Record) : r.settle.slots = r.slots := rfl

@[simp] theorem Record.settle_winner (r : Record) : r.settle.winner = r.winner := rfl

@[simp] theorem Record.settle_arbitrated (r : Record) : r.settle.arbitrated = r.arbitrated := rfl

@[simp] theorem Record.judge_slots (ranks : Bank Seat 4) (st : Seat → Standing) (r : Record) :
    (r.judge ranks st).slots = r.slots := by
  simp [Record.judge]

/-- The choice of a winner reads the slots alone. -/
theorem chooseWinner_congr {r r' : Record} (h : r.slots = r'.slots) (ranks : Bank Seat 4) (st : Seat → Standing) :
    chooseWinner ranks st r = chooseWinner ranks st r' := by
  simp only [chooseWinner, Record.slot, h]

/-- R8: after a re-arbitration the winner is the one the choice gives. -/
theorem Record.rearbitrate_winner (ranks : Bank Seat 4) (st : Seat → Standing) (r : Record) :
    (r.rearbitrate ranks st).winner = chooseWinner ranks st r := by
  unfold Record.rearbitrate
  split <;> simp_all

/-- R8, R9: after a judgement the winner is the one the choice gives. -/
theorem Record.judge_winner (ranks : Bank Seat 4) (st : Seat → Standing) (r : Record) :
    (r.judge ranks st).winner = chooseWinner ranks st r := by
  simp [Record.judge, Record.rearbitrate_winner]

/-- R13: after a judgement the effective command is the arbitrated value, limited and bounded. -/
theorem Record.judge_effective (ranks : Bank Seat 4) (st : Seat → Standing) (r : Record) :
    (r.judge ranks st).effective = (r.judge ranks st).bound.apply (r.judge ranks st).limited := rfl

theorem Record.place_slot (r : Record) (seat : Seat) (d : Slot) (q : Seat) :
    (r.place seat d).slot q = if seat = q then some d else r.slot q := by
  simp only [Record.place, Record.slot, Bank.read_write]

theorem Record.remove_slot (r : Record) (p : Seat → Bool) (q : Seat) :
    (r.remove p).slot q = if p q = true then none else r.slot q := by
  simp only [Record.remove, Record.slot, Bank.read_fill]

/-- What a removal of demands leaves in each slot: nothing for the seats removed, in a record that takes changes. -/
theorem State.removeDemands_slot (s : State) (f : OutCh → Bool) (p : Seat → Bool) (c : OutCh) (q : Seat) :
    ((s.removeDemands f p).record c).slot q =
      if f c = true ∧ p q = true ∧ s.odu.oddMember c = false then none else (s.record c).slot q := by
  simp only [State.removeDemands, State.withRecords_record, State.judgeRecord]
  cases ho : s.odu.oddMember c
  · cases hf : f c
    · simp
    · by_cases hany : ((List.finRange 4).any fun seat => p seat && ((s.record c).slot seat).isSome) = true
      · simp only [Bool.false_eq_true, if_false, Bool.true_and, hany, if_true, true_and, and_true]
        simp only [Record.slot, Record.judge_slots]
        exact Record.remove_slot _ _ _
      · simp only [Bool.false_eq_true, if_false, Bool.true_and, hany, true_and, and_true]
        by_cases hp : p q = true
        · simp only [hp, if_true]
          have := fun h => hany (List.any_eq_true.mpr ⟨q, List.mem_finRange q, h⟩)
          simp only [hp, Bool.true_and] at this
          exact Option.not_isSome_iff_eq_none.mp this
        · simp [hp]
  · simp

/-- What placing a demand leaves in each slot. -/
theorem State.placeDemand_slot (s : State) (c : OutCh) (seat : Seat) (d : Slot) (c' : OutCh) (q : Seat) :
    ((s.placeDemand c seat d).record c').slot q =
      if c' = c ∧ seat = q ∧ s.odu.oddMember c = false then some d else (s.record c').slot q := by
  simp only [State.placeDemand, State.withRecord_record, State.judgeRecord]
  by_cases h : c' = c
  · subst h
    cases ho : s.odu.oddMember c'
    · simp only [true_and, if_true, and_true]
      simp only [Record.slot, Record.judge_slots]
      exact Record.place_slot _ _ _ _
    · simp
  · simp [h]

/-! ### The forming of pairs -/

@[simp] theorem Pair.change_isFormed (q : Pair) (f : PairRun → PairRun) : (q.change f).isFormed = q.isFormed := by
  simp [Pair.change, Pair.isFormed]

@[simp] theorem Odu.takeCommands_formed (o : Odu) (l : OutCh → Bool) (was now : Bank Record 32) (k : PairNo) :
    (o.takeCommands l was now).formed k = o.formed k := by
  simp only [Odu.takeCommands, Odu.formed, Bank.read_fill]
  split <;> simp

/-- Two output units with the same pairs formed have the same members. -/
theorem Odu.member_congr {o o' : Odu} (h : ∀ k, o.formed k = o'.formed k) (c : OutCh) : o.member c = o'.member c := by
  simp only [Odu.member, h]

theorem Odu.oddMember_congr {o o' : Odu} (h : ∀ k, o.formed k = o'.formed k) (c : OutCh) :
    o.oddMember c = o'.oddMember c := by
  simp only [Odu.oddMember, Odu.member_congr h]

@[simp] theorem State.withRecords_formed (s : State) (f : OutCh → Record → Record) (k : PairNo) :
    (s.withRecords f).odu.formed k = s.odu.formed k := by
  simp only [State.withRecords, Odu.takeCommands_formed]

@[simp] theorem State.withRecords_oddMember (s : State) (f : OutCh → Record → Record) (c : OutCh) :
    (s.withRecords f).odu.oddMember c = s.odu.oddMember c :=
  Odu.oddMember_congr (s.withRecords_formed f) c

@[simp] theorem State.withRecord_oddMember (s : State) (c : OutCh) (f : Record → Record) (c' : OutCh) :
    (s.withRecord c f).odu.oddMember c' = s.odu.oddMember c' := by simp [State.withRecord]

@[simp] theorem State.placeDemand_oddMember (s : State) (c : OutCh) (seat : Seat) (d : Slot) (c' : OutCh) :
    (s.placeDemand c seat d).odu.oddMember c' = s.odu.oddMember c' := by simp [State.placeDemand]

@[simp] theorem State.removeDemands_oddMember (s : State) (f : OutCh → Bool) (p : Seat → Bool) (c : OutCh) :
    (s.removeDemands f p).odu.oddMember c = s.odu.oddMember c := by simp [State.removeDemands]

@[simp] theorem State.forceOutputs_formed (s : State) (hit : OutCh → Bool) (k : PairNo) :
    (s.forceOutputs hit).odu.formed k = s.odu.formed k := by
  simp only [State.forceOutputs, Odu.formed, Bank.read_fill, State.runCounters]
  split <;> simp

@[simp] theorem State.forceOutputs_oddMember (s : State) (hit : OutCh → Bool) (c : OutCh) :
    (s.forceOutputs hit).odu.oddMember c = s.odu.oddMember c :=
  Odu.oddMember_congr (s.forceOutputs_formed hit) c

@[simp] theorem State.shutOffWhere_formed (s : State) (p : OutCh → Bool) (k : PairNo) :
    (s.shutOffWhere p).odu.formed k = s.odu.formed k := by
  unfold State.shutOffWhere
  dsimp only
  split <;> simp

@[simp] theorem State.shutOffWhere_oddMember (s : State) (p : OutCh → Bool) (c : OutCh) :
    (s.shutOffWhere p).odu.oddMember c = s.odu.oddMember c :=
  Odu.oddMember_congr (s.shutOffWhere_formed p) c

@[simp] theorem State.causeBegins_oddMember (s : State) (cause : Cause) (f : OutCh → Bool) (c : OutCh) :
    (s.causeBegins cause f).odu.oddMember c = s.odu.oddMember c := by simp [State.causeBegins]

@[simp] theorem State.handBounds_oddMember (s : State) (n : CircuitNo) (was now : Bounds) (c : OutCh) :
    (s.handBounds n was now).odu.oddMember c = s.odu.oddMember c := by simp [State.handBounds]

/-! ### Latches -/

/-- R136: after a shutting off, exactly the channels that were shut off before, or that `p` names, are shut off; the odd
member of a formed pair keeps its latch. -/
theorem State.shutOffWhere_shutOff (s : State) (p : OutCh → Bool) (c : OutCh) :
    (s.shutOffWhere p).shutOff c = (s.shutOff c || (p c && !s.odu.oddMember c)) := by
  unfold State.shutOffWhere
  dsimp only
  split
  · simp only [State.shutOff, State.shutoff, State.raiseAll_shu, Bank.read_fill, State.forceOutputs_shu]
    cases (s.shu.records.read c).latched <;> simp
  · rename_i h
    have : ¬ ((p c && !s.shutOff c && !s.odu.oddMember c) = true) := fun hc =>
      h (List.any_eq_true.mpr ⟨c, List.mem_finRange c, hc⟩)
    revert this
    cases s.shutOff c <;> cases p c <;> cases s.odu.oddMember c <;> simp

end Sys2Proof.Machine
end

