-- ==== Sys2Proof/Laws/Answer.lean ====
section
/-! SUPPORT. What the answering of a request leaves in the loop bus interface, and when it leaves everything else. -/

namespace Sys2Proof.Machine

@[simp] theorem State.takeStanding_lbi_station (s : State) (b : BusSeat) (now : Standing) :
    (s.takeStanding b now).lbi.station = s.lbi.station := by
  unfold State.takeStanding; dsimp only; split <;> simp

@[simp] theorem State.takeStanding_lbi_rate (s : State) (b : BusSeat) (now : Standing) :
    (s.takeStanding b now).lbi.rate = s.lbi.rate := by
  unfold State.takeStanding; dsimp only; split <;> simp

@[simp] theorem State.takeStanding_lbi_roster (s : State) (b : BusSeat) (now : Standing) :
    (s.takeStanding b now).lbi.roster = s.lbi.roster := by
  unfold State.takeStanding; dsimp only; split <;> simp

@[simp] theorem State.takeStanding_lbi_service (s : State) (b : BusSeat) (now : Standing) :
    (s.takeStanding b now).lbi.service = s.lbi.service := by
  unfold State.takeStanding; dsimp only; split <;> simp

@[simp] theorem State.takeStanding_lbi_bus (s : State) (b : BusSeat) (now : Standing) :
    (s.takeStanding b now).lbi.bus = s.lbi.bus := by
  unfold State.takeStanding; dsimp only; split <;> simp

@[simp] theorem State.takeStanding_lbi_port (s : State) (b : BusSeat) (now : Standing) :
    (s.takeStanding b now).lbi.port = s.lbi.port := by
  unfold State.takeStanding; dsimp only; split <;> simp

@[simp] theorem State.takeStanding_lbi_arbiter (s : State) (b : BusSeat) (now : Standing) :
    (s.takeStanding b now).lbi.arbiter = s.lbi.arbiter := by
  unfold State.takeStanding; dsimp only; split <;> simp

@[simp] theorem State.takeStanding_lbi_orphan (s : State) (b : BusSeat) (now : Standing) :
    (s.takeStanding b now).lbi.orphan = s.lbi.orphan := by
  unfold State.takeStanding; dsimp only; split <;> simp

@[simp] theorem State.takeStanding_lbi_restartDue (s : State) (b : BusSeat) (now : Standing) :
    (s.takeStanding b now).lbi.restartDue = s.lbi.restartDue := by
  unfold State.takeStanding; dsimp only; split <;> simp

@[simp] theorem State.takeStanding_lbi_faults (s : State) (b : BusSeat) (now : Standing) :
    (s.takeStanding b now).lbi.faults = s.lbi.faults := by
  unfold State.takeStanding; dsimp only; split <;> simp

@[simp] theorem State.setCount_lbi_station (s : State) (b : BusSeat) (n : Nat) :
    (s.setCount b n).lbi.station = s.lbi.station := by
  unfold State.setCount; dsimp only; split <;> simp

@[simp] theorem State.setCount_lbi_rate (s : State) (b : BusSeat) (n : Nat) :
    (s.setCount b n).lbi.rate = s.lbi.rate := by
  unfold State.setCount; dsimp only; split <;> simp

@[simp] theorem State.setCount_lbi_roster (s : State) (b : BusSeat) (n : Nat) :
    (s.setCount b n).lbi.roster = s.lbi.roster := by
  unfold State.setCount; dsimp only; split <;> simp

@[simp] theorem State.setCount_lbi_service (s : State) (b : BusSeat) (n : Nat) :
    (s.setCount b n).lbi.service = s.lbi.service := by
  unfold State.setCount; dsimp only; split <;> simp

@[simp] theorem State.setCount_lbi_bus (s : State) (b : BusSeat) (n : Nat) :
    (s.setCount b n).lbi.bus = s.lbi.bus := by
  unfold State.setCount; dsimp only; split <;> simp

@[simp] theorem State.setCount_lbi_port (s : State) (b : BusSeat) (n : Nat) :
    (s.setCount b n).lbi.port = s.lbi.port := by
  unfold State.setCount; dsimp only; split <;> simp

@[simp] theorem State.setCount_lbi_arbiter (s : State) (b : BusSeat) (n : Nat) :
    (s.setCount b n).lbi.arbiter = s.lbi.arbiter := by
  unfold State.setCount; dsimp only; split <;> simp

@[simp] theorem State.setCount_lbi_orphan (s : State) (b : BusSeat) (n : Nat) :
    (s.setCount b n).lbi.orphan = s.lbi.orphan := by
  unfold State.setCount; dsimp only; split <;> simp

@[simp] theorem State.setCount_lbi_restartDue (s : State) (b : BusSeat) (n : Nat) :
    (s.setCount b n).lbi.restartDue = s.lbi.restartDue := by
  unfold State.setCount; dsimp only; split <;> simp

/-- R151: setting a count sets that count alone. -/
@[simp] theorem State.setCount_lbi_faults (s : State) (b : BusSeat) (n : Nat) :
    (s.setCount b n).lbi.faults = s.lbi.faults.write b n := by
  unfold State.setCount; dsimp only; split <;> simp

@[simp] theorem State.applyOutcome_lbi_station (s : State) (seat : Seat) (c : Code) :
    (s.applyOutcome seat c).lbi.station = s.lbi.station := by
  unfold State.applyOutcome; (repeat' split) <;> simp

@[simp] theorem State.applyOutcome_lbi_rate (s : State) (seat : Seat) (c : Code) :
    (s.applyOutcome seat c).lbi.rate = s.lbi.rate := by
  unfold State.applyOutcome; (repeat' split) <;> simp

@[simp] theorem State.applyOutcome_lbi_roster (s : State) (seat : Seat) (c : Code) :
    (s.applyOutcome seat c).lbi.roster = s.lbi.roster := by
  unfold State.applyOutcome; (repeat' split) <;> simp

@[simp] theorem State.applyOutcome_lbi_service (s : State) (seat : Seat) (c : Code) :
    (s.applyOutcome seat c).lbi.service = s.lbi.service := by
  unfold State.applyOutcome; (repeat' split) <;> simp

@[simp] theorem State.applyOutcome_lbi_bus (s : State) (seat : Seat) (c : Code) :
    (s.applyOutcome seat c).lbi.bus = s.lbi.bus := by
  unfold State.applyOutcome; (repeat' split) <;> simp

@[simp] theorem State.applyOutcome_lbi_port (s : State) (seat : Seat) (c : Code) :
    (s.applyOutcome seat c).lbi.port = s.lbi.port := by
  unfold State.applyOutcome; (repeat' split) <;> simp

@[simp] theorem State.applyOutcome_lbi_arbiter (s : State) (seat : Seat) (c : Code) :
    (s.applyOutcome seat c).lbi.arbiter = s.lbi.arbiter := by
  unfold State.applyOutcome; (repeat' split) <;> simp

@[simp] theorem State.applyOutcome_lbi_orphan (s : State) (seat : Seat) (c : Code) :
    (s.applyOutcome seat c).lbi.orphan = s.lbi.orphan := by
  unfold State.applyOutcome; (repeat' split) <;> simp

@[simp] theorem State.applyOutcome_lbi_restartDue (s : State) (seat : Seat) (c : Code) :
    (s.applyOutcome seat c).lbi.restartDue = s.lbi.restartDue := by
  unfold State.applyOutcome; (repeat' split) <;> simp

@[simp] theorem State.handReply_lbi_station (s : State) (seat : Seat) (h : Word) (c : Code) (p : List Word) (b : Bool) :
    (s.handReply seat h c p b).lbi.station = s.lbi.station := by
  unfold State.handReply; dsimp only; split <;> rfl

@[simp] theorem State.handReply_lbi_rate (s : State) (seat : Seat) (h : Word) (c : Code) (p : List Word) (b : Bool) :
    (s.handReply seat h c p b).lbi.rate = s.lbi.rate := by
  unfold State.handReply; dsimp only; split <;> rfl

@[simp] theorem State.handReply_lbi_roster (s : State) (seat : Seat) (h : Word) (c : Code) (p : List Word) (b : Bool) :
    (s.handReply seat h c p b).lbi.roster = s.lbi.roster := by
  unfold State.handReply; dsimp only; split <;> rfl

@[simp] theorem State.handReply_lbi_service (s : State) (seat : Seat) (h : Word) (c : Code) (p : List Word) (b : Bool) :
    (s.handReply seat h c p b).lbi.service = s.lbi.service := by
  unfold State.handReply; dsimp only; split <;> rfl

@[simp] theorem State.handReply_lbi_arbiter (s : State) (seat : Seat) (h : Word) (c : Code) (p : List Word) (b : Bool) :
    (s.handReply seat h c p b).lbi.arbiter = s.lbi.arbiter := by
  unfold State.handReply; dsimp only; split <;> rfl

@[simp] theorem State.handReply_lbi_orphan (s : State) (seat : Seat) (h : Word) (c : Code) (p : List Word) (b : Bool) :
    (s.handReply seat h c p b).lbi.orphan = s.lbi.orphan := by
  unfold State.handReply; dsimp only; split <;> rfl

@[simp] theorem State.handReply_lbi_restartDue (s : State) (seat : Seat) (h : Word) (c : Code) (p : List Word) (b : Bool) :
    (s.handReply seat h c p b).lbi.restartDue = s.lbi.restartDue := by
  unfold State.handReply; dsimp only; split <;> rfl

@[simp] theorem State.handReply_lbi_lines (s : State) (seat : Seat) (h : Word) (c : Code) (p : List Word) (b : Bool) :
    (s.handReply seat h c p b).lbi.lines = s.lbi.lines := by
  unfold State.handReply; dsimp only; split <;> rfl

@[simp] theorem State.handReply_lbi_faults (s : State) (seat : Seat) (h : Word) (c : Code) (p : List Word) (b : Bool) :
    (s.handReply seat h c p b).lbi.faults = s.lbi.faults := by
  unfold State.handReply; dsimp only; split <;> rfl

@[simp] theorem State.setService_lbi_station (s : State) (seat : Seat) (i : Option InService) :
    (s.setService seat i).lbi.station = s.lbi.station := rfl

@[simp] theorem State.setService_lbi_rate (s : State) (seat : Seat) (i : Option InService) :
    (s.setService seat i).lbi.rate = s.lbi.rate := rfl

@[simp] theorem State.setService_lbi_roster (s : State) (seat : Seat) (i : Option InService) :
    (s.setService seat i).lbi.roster = s.lbi.roster := rfl

@[simp] theorem State.setService_lbi_bus (s : State) (seat : Seat) (i : Option InService) :
    (s.setService seat i).lbi.bus = s.lbi.bus := rfl

@[simp] theorem State.setService_lbi_port (s : State) (seat : Seat) (i : Option InService) :
    (s.setService seat i).lbi.port = s.lbi.port := rfl

@[simp] theorem State.setService_lbi_arbiter (s : State) (seat : Seat) (i : Option InService) :
    (s.setService seat i).lbi.arbiter = s.lbi.arbiter := rfl

@[simp] theorem State.setService_lbi_orphan (s : State) (seat : Seat) (i : Option InService) :
    (s.setService seat i).lbi.orphan = s.lbi.orphan := rfl

@[simp] theorem State.setService_lbi_restartDue (s : State) (seat : Seat) (i : Option InService) :
    (s.setService seat i).lbi.restartDue = s.lbi.restartDue := rfl

@[simp] theorem State.setService_lbi_lines (s : State) (seat : Seat) (i : Option InService) :
    (s.setService seat i).lbi.lines = s.lbi.lines := rfl

@[simp] theorem State.setService_lbi_faults (s : State) (seat : Seat) (i : Option InService) :
    (s.setService seat i).lbi.faults = s.lbi.faults := rfl

@[simp] theorem State.answer_lbi_station (s : State) (seat : Seat) (r : Request) (c : Code) (p : List Word) :
    (s.answer seat r c p).lbi.station = s.lbi.station := by simp [State.answer]

@[simp] theorem State.answer_lbi_rate (s : State) (seat : Seat) (r : Request) (c : Code) (p : List Word) :
    (s.answer seat r c p).lbi.rate = s.lbi.rate := by simp [State.answer]

@[simp] theorem State.answer_lbi_roster (s : State) (seat : Seat) (r : Request) (c : Code) (p : List Word) :
    (s.answer seat r c p).lbi.roster = s.lbi.roster := by simp [State.answer]

@[simp] theorem State.answer_lbi_arbiter (s : State) (seat : Seat) (r : Request) (c : Code) (p : List Word) :
    (s.answer seat r c p).lbi.arbiter = s.lbi.arbiter := by simp [State.answer]

@[simp] theorem State.answer_lbi_orphan (s : State) (seat : Seat) (r : Request) (c : Code) (p : List Word) :
    (s.answer seat r c p).lbi.orphan = s.lbi.orphan := by simp [State.answer]

@[simp] theorem State.answer_lbi_restartDue (s : State) (seat : Seat) (r : Request) (c : Code) (p : List Word) :
    (s.answer seat r c p).lbi.restartDue = s.lbi.restartDue := by simp [State.answer]

/-- R147: an answered request leaves the service, and no other seat's does. -/
theorem State.answer_service (s : State) (seat : Seat) (r : Request) (c : Code) (p : List Word) (q : Seat) :
    (s.answer seat r c p).lbi.service.read q = if seat = q then none else s.lbi.service.read q := by
  simp only [State.answer, State.setService, State.handReply_lbi_service, State.applyOutcome_lbi_service,
    Bank.read_write]

/-- R152: a count that stays in its class changes nothing but the count. -/
theorem State.setCount_same (s : State) (b : BusSeat) (n : Nat) (h : standingOf n = standingOf (s.lbi.faults.read b)) :
    s.setCount b n = { s with lbi := { s.lbi with faults := s.lbi.faults.write b n } } := by
  simp only [State.setCount, h, if_true]

/-- R151: the service seat's outcomes change nothing. -/
@[simp] theorem State.applyOutcome_service (s : State) (c : Code) : s.applyOutcome serviceSeat c = s := rfl

/-- R151: a BARRED seat's outcomes change nothing. -/
theorem State.applyOutcome_barred (s : State) (seat : Seat) (c : Code) (h : s.standing seat = .barred) :
    s.applyOutcome seat c = s := by
  unfold State.applyOutcome
  split
  · simp [h]
  · rfl

/-- R151: a bus seat's outcome moves its count, where it is not BARRED. -/
theorem State.applyOutcome_bus (s : State) (b : BusSeat) (c : Code) (h : s.standing (seatOf b) ≠ .barred) :
    s.applyOutcome (seatOf b) c = s.setCount b (countAfter (s.lbi.faults.read b) c) := by
  have hb : busSeat? (seatOf b) = some b := by
    have : b.val < 3 := b.isLt
    simp [busSeat?, seatOf, index?, this]
  simp only [State.applyOutcome, hb, h, if_false]

end Sys2Proof.Machine
end

