-- ==== Sys2Proof/Laws/Memory.lean ====
section
/-! SUPPORT. Directory memory: what a write leaves at each address, and that it keeps the canonical form. -/

namespace Sys2Proof.Machine

/-- A word below every listed address is unlisted. -/
theorem memRead_below (m : DirMemory) (lo a : Nat) (h : memWfFrom lo m = true) (ha : a < lo) : memRead m a = 0 := by
  induction m generalizing lo with
  | nil => rfl
  | cons e t ih =>
    obtain ⟨k, v⟩ := e
    simp only [memWfFrom, Bool.and_eq_true, decide_eq_true_eq] at h
    have : k ≠ a := by omega
    simp only [memRead, this, if_false]
    exact ih (k + 1) h.2 (by omega)

/-- The word written is the word read. -/
theorem memRead_memWrite_same (m : DirMemory) (lo a : Nat) (w : DirWord) (h : memWfFrom lo m = true) :
    memRead (memWrite m a w) a = w := by
  induction m generalizing lo with
  | nil => unfold memWrite; split <;> simp_all [memRead]
  | cons e t ih =>
    obtain ⟨k, v⟩ := e
    simp only [memWfFrom, Bool.and_eq_true, decide_eq_true_eq] at h
    unfold memWrite
    split
    · rename_i hlt
      split
      · rename_i hw
        have hk : k ≠ a := by omega
        simp only [memRead, hk, if_false]
        rw [hw]
        exact memRead_below t (k + 1) a h.2 (by omega)
      · simp [memRead]
    · split
      · rename_i hlt heq
        split
        · rename_i hw
          rw [hw]
          exact memRead_below t (k + 1) a h.2 (by omega)
        · simp [memRead]
      · rename_i hlt hne
        have hk : k ≠ a := fun e => hne e.symm
        simp only [memRead, hk, if_false]
        exact ih (k + 1) h.2

/-- Every other word reads as before. -/
theorem memRead_memWrite_ne (m : DirMemory) (a b : Nat) (w : DirWord) (h : a ≠ b) :
    memRead (memWrite m a w) b = memRead m b := by
  induction m with
  | nil => unfold memWrite; split <;> simp_all [memRead]
  | cons e t ih =>
    obtain ⟨k, v⟩ := e
    unfold memWrite
    split
    · split
      · rfl
      · simp [memRead, h]
    · split
      · rename_i heq
        have hk : k ≠ b := fun e => h (heq.trans e)
        split <;> simp [memRead, hk, h]
      · by_cases hk : k = b <;> simp [memRead, hk, ih]

/-- A lower limit may fall. -/
theorem memWfFrom_mono (m : DirMemory) (lo lo' : Nat) (hlo : lo' ≤ lo) (h : memWfFrom lo m = true) :
    memWfFrom lo' m = true := by
  cases m with
  | nil => rfl
  | cons e t =>
    obtain ⟨k, v⟩ := e
    simp only [memWfFrom, Bool.and_eq_true, decide_eq_true_eq] at h ⊢
    exact ⟨⟨⟨by omega, h.1.1.2⟩, h.1.2⟩, h.2⟩

/-- A write keeps the rising order, from any lower limit at or below the address written. -/
theorem memWfFrom_memWrite (m : DirMemory) (lo a : Nat) (w : DirWord) (h : memWfFrom lo m = true) (hlo : lo ≤ a)
    (ha : a < 4096) : memWfFrom lo (memWrite m a w) = true := by
  induction m generalizing lo with
  | nil => unfold memWrite; split <;> simp_all [memWfFrom]
  | cons e t ih =>
    obtain ⟨k, v⟩ := e
    have h0 := h
    simp only [memWfFrom, Bool.and_eq_true, decide_eq_true_eq] at h
    obtain ⟨⟨⟨h1, h2⟩, h3⟩, h4⟩ := h
    unfold memWrite
    split
    · split
      · exact h0
      · rename_i hlt hw
        simp only [memWfFrom, Bool.and_eq_true, decide_eq_true_eq]
        exact ⟨⟨⟨hlo, ha⟩, hw⟩, ⟨⟨by omega, h2⟩, h3⟩, h4⟩
    · split
      · rename_i hlt heq
        split
        · exact memWfFrom_mono t (k + 1) lo (by omega) h4
        · rename_i hw
          simp only [memWfFrom, Bool.and_eq_true, decide_eq_true_eq]
          subst heq
          exact ⟨⟨⟨hlo, ha⟩, hw⟩, h4⟩
      · rename_i hlt hne
        simp only [memWfFrom, Bool.and_eq_true, decide_eq_true_eq]
        exact ⟨⟨⟨h1, h2⟩, h3⟩, ih (k + 1) h4 (by omega)⟩

/-- A write of a word of directory memory keeps the canonical form. -/
theorem memWf_memWrite (m : DirMemory) (addr : DirAddr) (w : DirWord) (h : memWf m = true) :
    memWf (memWrite m addr.toNat w) = true :=
  memWfFrom_memWrite m 0 addr.toNat w h (Nat.zero_le _) addr.isLt

/-- What a mark write or a DIR_WRITE leaves at every address. -/
theorem memRead_writeMark (s : State) (addr : DirAddr) (w : DirWord) (h : memWf s.pdir.memory = true) (a : Nat) :
    memRead (s.writeMark addr w).pdir.memory a = if addr.toNat = a then w else memRead s.pdir.memory a := by
  by_cases ha : addr.toNat = a
  · subst ha
    simp only [State.writeMark, if_true]
    exact memRead_memWrite_same _ 0 _ _ h
  · simp only [State.writeMark, ha, if_false]
    exact memRead_memWrite_ne _ _ _ _ ha

end Sys2Proof.Machine
end

