-- ==== Sys2Proof/Laws/Outputs.lean ====
section
/-! SUPPORT. What a shutting off does to the outputs and to the state: each operation meets its relation of Safety.lean,
which a proof cites in place of unfolding it. -/

namespace Sys2Proof.Machine

/-! ### Pairs -/

theorem PairRun.mayAssert_iff (p : PairRun) (d : Dir) :
    p.mayAssert d = true ↔ p.deadLeft = none ∨ p.lastReleased = some d := by
  simp [PairRun.mayAssert, Option.isNone_iff_eq_none]

/-- A release with a drive asserted. -/
theorem PairRun.release_eq {q : Pair} {p : PairRun} {d : Dir} (h : p.state.drive = some d) :
    p.release q = p.afterRelease q d := by
  simp [PairRun.release, h, PairRun.afterRelease]

theorem PairRun.assertSafe_spec (q : Pair) (d : Dir) (p : PairRun) : p.safeAsserted q d (p.assertSafe q d) := by
  refine ⟨fun h => ?_, fun h h2 => ?_, fun h h2 => ?_⟩
  · simp [PairRun.assertSafe, h, Nat.mul_comm]
  · cases d <;> simp [PairRun.assertSafe, h, Dir.limit, show p.estimate = _ from h2, Nat.mul_comm]
  · cases d <;> simp [PairRun.assertSafe, h, Dir.limit, show p.estimate ≠ _ from h2]

/-- R139: a pair that takes its safe action. -/
theorem PairRun.takeSafe_spec (q : Pair) (a : PairAction) (p : PairRun) : p.safeTaken q a (p.takeSafe q a) := by
  refine ⟨?_, ?_⟩
  · rintro rfl
    refine ⟨fun h => ?_, fun d h => ?_⟩
    · simp [PairRun.takeSafe, PairRun.release, h]
    · simp only [PairRun.takeSafe, PairRun.release_eq h]
  · rintro d rfl
    refine ⟨fun h => ?_, fun d' h hne => ?_, fun h => ⟨fun hm => ?_, fun hm => ?_⟩⟩
    · simp only [PairRun.takeSafe, h, if_true]
      exact PairRun.assertSafe_spec _ _ _
    · have hno : (p.afterRelease q d').mayAssert d = false := by simp [PairRun.mayAssert, PairRun.afterRelease, hne]
      simp [PairRun.takeSafe, h, hne, PairRun.release_eq h, PairRun.startSafe, hno]
    · simp only [PairRun.takeSafe, h, PairRun.startSafe, (PairRun.mayAssert_iff p d).2 hm, if_true]
      exact PairRun.assertSafe_spec _ _ _
    · have hno : p.mayAssert d = false := by simpa using (PairRun.mayAssert_iff p d).not.2 hm
      simp [PairRun.takeSafe, h, PairRun.startSafe, hno]

/-! ### Modulated channels -/

/-- A modulated channel is a member of a formed pair exactly where its pair is formed. -/
theorem Odu.member_modCh (o : Odu) (m : ModCh) : o.member (modCh m) = (o.pairs.read (pairOfMod m)).isFormed := by
  have h : pairOf (modCh m) = some (pairOfMod m) := by
    revert m
    decide +kernel
  simp [Odu.member, h, Odu.formed]

/-- A channel outside a formed pair stands at its own level. -/
theorem State.pinLevel_alone {s : State} {m : ModCh} (h : s.odu.member (modCh m) = false) :
    s.pinLevel m = (s.odu.mods.read m).level (s.odu.groups.read (groupOf m)).counter := by
  have h' : (s.odu.pairs.read (pairOfMod m)).run = none := by simpa [Odu.member_modCh, Pair.isFormed] using h
  simp only [State.pinLevel, h']

/-! ### Shutting off -/

/-- R137 to R139: outputs forced at the channels that `hit` names. -/
theorem State.forceOutputs_struck (s : State) (hit : OutCh → Bool) :
    outputsStruck s (s.forceOutputs hit).odu fun c => hit c = true := by
  refine ⟨⟨fun g => Config.countAt s.moment g.val % (s.odu.groups.read g).period, fun g => ⟨Nat.mod_lt _, ?_⟩, ?_⟩,
    ?_, fun d => ⟨fun h => ?_, fun h => ?_⟩, fun k => ⟨fun h p hp => ?_, fun h => ?_⟩⟩
  · simp only [State.forceOutputs, State.runCounters, Bank.read_fill]
  · intro m g hg hh hm
    have hgm : groupOf m = g := by
      ext
      simp [groupOf]
      omega
    have hpin : s.runCounters.pinLevel m = (s.odu.mods.read m).level
        (Config.countAt s.moment g.val % (s.odu.groups.read g).period) := by
      rw [State.pinLevel_alone (s := s.runCounters) hm]
      simp [State.runCounters, hgm]
    have hmod : (s.forceOutputs hit).odu.mods.read m = { s.odu.mods.read m with
        forced := some (struckLevel (s.odu.mods.read m) (s.shutoff (modCh m)).line
          (Config.countAt s.moment g.val % (s.odu.groups.read g).period)) } := by
      have hmem : s.runCounters.odu.member (modCh m) = false := hm
      simp only [State.forceOutputs, Bank.read_fill, hh, hmem, Bool.not_false, Bool.and_self, if_true, hpin]
      show (s.odu.mods.read m).hold (s.shutoff (modCh m)).line _ = _
      simp only [Modulated.hold, struckLevel, Modulated.level]
      cases (s.shutoff (modCh m)).line <;> cases (s.odu.mods.read m).forced <;> rfl
    refine ⟨hmod, ?_⟩
    have hmem : (s.forceOutputs hit).odu.member (modCh m) = false :=
      (Odu.member_congr (s.forceOutputs_formed hit) (modCh m)).trans hm
    rw [State.pinLevel_alone (s := { s with odu := (s.forceOutputs hit).odu }) hmem]
    show Modulated.level ((s.forceOutputs hit).odu.mods.read m) _ = _
    rw [hmod]
    rfl
  · intro m h
    have hmod : (s.forceOutputs hit).odu.mods.read m =
        if (hit (modCh m) && !s.odu.member (modCh m)) = true then
          (s.odu.mods.read m).hold (s.shutoff (modCh m)).line (s.runCounters.pinLevel m)
        else s.odu.mods.read m := by
      simp only [State.forceOutputs, Bank.read_fill]
      rfl
    rw [hmod, if_neg]
    rcases h with h | h <;> simp [h]
  · have hd : (s.forceOutputs hit).odu.discretes.read d =
        (s.odu.discretes.read d).safe (s.shutoff (discCh d)).line := by
      simp only [State.forceOutputs, Bank.read_fill, h, if_true]
      rfl
    rw [hd]
    simp only [Discrete.safe, Discrete.change, struckDiscrete]
    cases (s.shutoff (discCh d)).line <;> rfl
  · simp only [State.forceOutputs, Bank.read_fill, if_neg h]
    rfl
  · refine ⟨_, ?_, PairRun.takeSafe_spec (s.odu.pairs.read k) (s.shutoff (evenCh k)).pair p⟩
    have hk : (s.forceOutputs hit).odu.pairs.read k =
        (s.odu.pairs.read k).change (PairRun.takeSafe (s.odu.pairs.read k) (s.shutoff (evenCh k)).pair) := by
      simp only [State.forceOutputs, Bank.read_fill, h, if_true]
      rfl
    rw [hk]
    simp [Pair.change, hp]
  · have hk : (s.forceOutputs hit).odu.pairs.read k = if hit (evenCh k) = true then
        (s.odu.pairs.read k).change (PairRun.takeSafe (s.odu.pairs.read k) (s.shutoff (evenCh k)).pair)
        else s.odu.pairs.read k := by
      simp only [State.forceOutputs, Bank.read_fill]
      rfl
    rw [hk]
    split
    · next hh =>
      have hn : (s.odu.pairs.read k).run = none := h.resolve_left fun hx => hx hh
      simp only [Pair.change, hn]
      generalize s.odu.pairs.read k = q at hn
      cases q
      simp_all
    · rfl

/-- R136: the channels that `p` names and that drive, but for the odd members of formed pairs, are shut off. -/
theorem State.shutOffWhere_shutDown (s : State) (p : OutCh → Bool) :
    shutDown s (s.shutOffWhere p) fun c => p c = true ∧ s.shutOff c = false ∧ s.odu.oddMember c = false := by
  have hhit : ∀ c, (p c && !s.shutOff c && !s.odu.oddMember c) = true ↔
      p c = true ∧ s.shutOff c = false ∧ s.odu.oddMember c = false := by
    intro c
    simp [and_assoc]
  have hany : (List.finRange 32).any (fun c => p c && !s.shutOff c && !s.odu.oddMember c) = true ↔
      ∃ c, p c = true ∧ s.shutOff c = false ∧ s.odu.oddMember c = false := by
    simp only [List.any_eq_true, List.mem_finRange, true_and, hhit]
  refine ⟨fun h => ?_, fun h => ?_⟩
  · unfold State.shutOffWhere
    dsimp only
    rw [if_neg]
    rw [hany]
    rintro ⟨c, hc⟩
    exact h c hc
  · have he : s.shutOffWhere p =
        let forced := s.forceOutputs fun c => p c && !s.shutOff c && !s.odu.oddMember c
        State.raiseAll
          { forced with
            shu :=
              { forced.shu with
                records := Bank.fill fun c =>
                  let r := forced.shu.records.read c
                  { r with latched := r.latched || (p c && !s.shutOff c && !s.odu.oddMember c) } } }
          .shutoff := by
      unfold State.shutOffWhere
      dsimp only
      rw [if_pos (hany.2 h)]
    have hs := s.forceOutputs_struck fun c => p c && !s.shutOff c && !s.odu.oddMember c
    simp only [hhit] at hs
    refine ⟨?_, fun c => ⟨?_, ?_⟩, ?_⟩
    · rw [he]
      exact hs
    · rw [State.shutOffWhere_shutOff]
      cases h : s.shutOff c <;> simp [h]
    · rw [he]
      simp only [State.shutOff, State.shutoff, State.raiseAll_shu, Bank.read_fill, State.forceOutputs_shu]
    · rw [he]
      rfl

end Sys2Proof.Machine
end

