-- ==== Sys2Proof/Laws/Requests.lean ====
section
/-! SUPPORT. How a request in service is read: what the steps of a kind and of an item come to where the handler has
taken a request of that kind and item, and the small facts about fields and channels they rest on. -/

namespace Sys2Proof.Machine

/-- A step of a kind acts on the request of that kind in service. -/
theorem State.onRequest_of_serves {s : State} {seat : Seat} {k : Kind} {r : Request} (h : s.serves seat k r)
    (f : Request → State) : s.onRequest seat k f = f r := by
  obtain ⟨h1, h2⟩ := h
  simp only [State.onRequest, h1, h2, if_true]

/-- A CONFIG_WRITE step of the item in service comes to its verdict. -/
theorem State.onWrite_of_servesWrite {s : State} {seat : Seat} {i : Item} {r : Request} {v : Verdict}
    {pick : Item → Request → Option Verdict} (h : s.servesWrite seat i r) (hv : pick i r = some v) :
    s.onWrite seat pick = s.conclude seat r v := by
  obtain ⟨h1, h2⟩ := h
  simp only [State.onWrite, State.onRequest_of_serves h1, h2, Option.bind_some, hv]

/-- A CONFIG_WRITE step of another item leaves the request to its own. -/
theorem State.onWrite_other {s : State} {seat : Seat} {i : Item} {r : Request}
    {pick : Item → Request → Option Verdict} (h : s.servesWrite seat i r) (hv : pick i r = none) :
    s.onWrite seat pick = s := by
  obtain ⟨h1, h2⟩ := h
  simp only [State.onWrite, State.onRequest_of_serves h1, h2, Option.bind_some, hv]

/-- A word that carries a mark is read as it. -/
@[simp] theorem mark?_ofNat (b : Bool) : mark? (BitVec.ofNat 16 (if b = true then 1 else 0)) = some b := by
  cases b <;> rfl

/-- An index in range is found. -/
@[simp] theorem index?_val {n : Nat} (i : Fin n) : index? n i.val = some i := by simp [index?]

/-- A modulated channel is found among the output channels. -/
@[simp] theorem modOf_modCh (m : ModCh) : modOf (modCh m) = some m := by simp [modOf, modCh, index?]

/-- A discrete channel is found among the output channels. -/
@[simp] theorem discOf_discCh (d : DiscCh) : discOf (discCh d) = some d := by simp [discOf, discCh, index?]

/-- No discrete channel belongs to a pair. -/
@[simp] theorem oddMember_discCh (o : Odu) (d : DiscCh) : o.oddMember (discCh d) = false := by
  have h : ¬(discCh d).val / 2 < 12 := by
    show ¬(24 + d.val) / 2 < 12
    omega
  simp [Odu.oddMember, Odu.member, pairOf, index?, h]

/-- A channel of no circuit's flow decides no proof. -/
theorem State.judgeProofOf_unnamed {s : State} {ch : PulseCh} (h : ∀ n p, (s.circuit n).flow ≠ some (ch, p)) :
    s.judgeProofOf ch = s := by
  have hn : ∀ n, ((s.circuit n).flow.map (·.1)) ≠ some ch := by
    intro n
    cases hf : (s.circuit n).flow with
    | none => simp
    | some q =>
      obtain ⟨a, b⟩ := q
      simp only [Option.map_some, ne_eq, Option.some.injEq]
      rintro rfl
      exact h n b hf
  have e : List.finRange 4 = [0, 1, 2, 3] := by decide
  simp [State.judgeProofOf, e, hn]

/-- A word with T set is the word itself exactly where T was set. -/
theorem withTouched_eq (w : DirWord) : withTouched w = w ↔ descTouched w = true := by
  constructor
  · intro h
    have := congrArg (fun x => x.getLsbD 28) h
    simpa [withTouched, descTouched] using this.symm
  · intro h
    apply BitVec.eq_of_getLsbD_eq
    intro i hi
    simp [withTouched]
    intro h2
    have : i = 28 := by
      revert h2; revert i; decide
    subst this
    exact h

end Sys2Proof.Machine
end

