-- ==== Sys2Proof/Tests/Slice0.lean ====
section
/-! SUPPORT. The model's own tests: ill-formed commands are refused, frames and words read as chapter 11 lays them out,
one step of each family of commands gives what the spec gives, and each statement with hypotheses has a state and
operands that meet them. -/

set_option Elab.async false

namespace Sys2Proof.Machine.Tests

/-! ### Helpers -/

/-- A request of kind code `kind` with a payload, from station 0. -/
def req (kind : Nat) (payload : List Word) : Request :=
  { header := natWord (kind * 8 + payload.length), payload := payload }

/-- The state with a request taken by a seat's handler. -/
def ask (s : State) (seat : Seat) (r : Request) : State := s.setService seat (some { request := r, progress := .taken })

/-- A CONFIG_WRITE of an item of part 0. -/
def write (code index : Nat) (fields : List Word) : Request := req 9 (natWord (code * 256 + index) :: fields)

/-- A request taken is in service. -/
theorem ask_serves (s : State) (seat : Seat) {r : Request} {k : Kind} (h : r.kind = some k) :
    (ask s seat r).serves seat k r := by
  refine ⟨?_, h⟩
  simp [ask, State.taken, State.setService]

/-- A CONFIG_WRITE taken is in service, for the item of its selector. -/
theorem ask_writes (s : State) (seat : Seat) {r : Request} {i : Item} (h : r.kind = some .configWrite)
    (hi : r.item = some i) : (ask s seat r).servesWrite seat i r := ⟨ask_serves s seat h, hi⟩

/-- A step answers a next state that satisfies `p`. -/
def gives (o : Outcome) (p : State → Bool) : Bool :=
  match o with
  | .next t => p t
  | .fault _ => false
  | .refused _ => false

/-- Commands taken one after the other. -/
def after (s : State) (c : Instr) : State :=
  match exec c s with
  | .next t => t
  | .fault _ => s
  | .refused _ => s

/-- The last reply handed to the service port. -/
def lastReply (s : State) : List Word := (s.lbi.port.replies.getLast?.map (·.words)).getD []

/-- The power-on state, its records of one channel changed. -/
def withRec (s : State) (c : OutCh) (f : Record → Record) : State :=
  { s with cmdt := { s.cmdt with records := s.cmdt.records.update c f } }

/-- A demand of 600 with a hold of 10 s. -/
def demand : Slot := { value := 600, hold := .counted 100 }

/-- The power-on state, with one circuit changed. -/
def withCircuit (s : State) (n : CircuitNo) (f : Circuit → Circuit) : State :=
  { s with circuits := s.circuits.update n f }

/-- The power-on state, with a pair in a state of its own. -/
def withPair (s : State) (k : PairNo) (p : PairRun) : State :=
  { s with odu := { s.odu with pairs := s.odu.pairs.update k fun q => { q with run := some p } } }

/-- The power-on state, with a shut-off channel. -/
def withOff (s : State) (c : OutCh) : State :=
  { s with shu := { s.shu with records := s.shu.records.update c fun r => { r with latched := true } } }

/-- Window 0 open to every seat for zone 0, guarded or not. -/
def windowed (guarded : Bool) : State :=
  { State.reset with
    pcache :=
      { State.reset.pcache with
        windows := State.reset.pcache.windows.write 0
          { enable := true, zoneBase := 0, zoneMask := 0, seats := 15, guarded := guarded } } }

/-- The directory OPEN, seat 3's root valid, and the cache holding an entry of seat 3 for point 0x200. -/
def cached : State :=
  { State.reset with
    pdir := { State.reset.pdir with isOpen := true, roots := State.reset.pdir.roots.write 3 { base := 0, valid := true } }
    pcache := State.reset.pcache.load
      { seat := 3, global := false, point := 0x200, channel := 5, guarded := false, driven := true, link := false } }

/-- The directory OPEN, and the cache holding an entry of seat 3 for point 0x200, with W and D as given. -/
def cachedAs (guarded driven : Bool) : State :=
  { cached with
    pcache := State.reset.pcache.load
      { seat := 3, global := false, point := 0x200, channel := 5, guarded := guarded, driven := driven, link := false } }

/-- A walk of seat 3 for point 0x200 at a step. -/
def walk (step : WalkStep) : Walk :=
  { seat := 3, point := 0x200, access := .read, rewalk := false, rootBase := 0, guarded := false, throughLink := false,
    noLoad := false, readWords := [], step := step }

/-- The directory OPEN with that walk in flight, over some memory. -/
def walking (step : WalkStep) (m : DirMemory) : State :=
  let s := ask cached 3 (req 4 [0x200])
  let s := s.setService 3 (some { request := req 4 [0x200], progress := .walking })
  { s with pdir := { s.pdir with memory := m, walk := some (walk step) } }

/-- The directory OPEN with a walk in flight for a request of its seat, over some memory. -/
def walkingAs (w : Walk) (r : Request) (m : DirMemory) : State :=
  let s := State.setService { cached with pcache := State.reset.pcache } w.seat
    (some { request := r, progress := .walking })
  { s with pdir := { s.pdir with memory := m, walk := some w } }

/-- A frame with its CRC. -/
def framed (words : List Word) : Frame := { words := words ++ [crc16 words] }

/-- A bus seat's fault count set. -/
def withCount (s : State) (b : BusSeat) (n : Nat) : State :=
  { s with lbi := { s.lbi with faults := s.lbi.faults.write b n } }

/-- A seat's line set. -/
def withLine (s : State) (seat : Seat) (l : List IntakeEntry) : State :=
  { s with lbi := { s.lbi with lines := s.lbi.lines.write seat l } }

/-- A discrete channel changed. -/
def withDisc (s : State) (d : DiscCh) (f : Discrete → Discrete) : State :=
  { s with odu := { s.odu with discretes := s.odu.discretes.update d f } }

/-- A modulated channel with a held command, 1000 steps waiting in the buffer of its group. -/
def withHeld (m : ModCh) (held : Nat) : State :=
  { State.reset with
    odu :=
      { State.reset.odu with
        mods := State.reset.odu.mods.update m fun mod => { mod with held := held }
        groups := State.reset.odu.groups.update (groupOf m) fun g => { g with buffered := some 1000 } } }

/-- One sensor channel enabled. -/
def enabled (n : SensorCh) : State :=
  { State.reset with
    smu :=
      { State.reset.smu with
        settings := State.reset.smu.settings.update n fun g => { g with enabled := true } } }

/-- A scan of channel 23 alone, its conversion in a phase. -/
def converting (phase : Phase) : State :=
  { enabled 23 with
    smu :=
      { (enabled 23).smu with
        running := some .continuous
        conversion := some { channel := 23, reference := 0, table := 0, shift := 0, cycles := 1024, phase := phase } } }

/-- Pulse channel 7 timing, 2 ms spacing, its last edge `age` steps ago. -/
def pulsing (age : Nat) : State :=
  { State.reset with
    piu :=
      { State.reset.piu with
        channels := State.reset.piu.channels.update 7 fun p =>
          { p with enabled := true, spacing := 2, timing := true, age := some age } } }

/-- A channel's mask names FROST_TRIP. -/
def fanMasked (c : OutCh) : State :=
  { State.reset with
    shu :=
      { State.reset.shu with
        records := State.reset.shu.records.update c fun r => { r with mask := { r.mask with frostTrip := true } } } }

/-- A channel's mask names EMERGENCY, its line safe action HIGH. -/
def emergencyMasked (c : OutCh) : State :=
  { State.reset with
    shu :=
      { State.reset.shu with
        records := State.reset.shu.records.update c fun r =>
          { r with mask := { r.mask with emergency := true }, line := .high } } }

/-! ### Ill-formed commands are refused -/

/-- A bus frame whose length field gives one payload word, and that holds none. -/
theorem test_wf_busFrame : (Instr.busFrameReceive { words := [0x0009, 0] }).wf = false := by decide +kernel

/-- A service frame without a CRC. -/
theorem test_wf_serviceFrame : (Instr.serviceFrameReceive { words := [0x0008] }).wf = false := by decide +kernel

/-- A frame cut short that is whole. -/
theorem test_wf_cutShort : (Instr.frameReceptionCutShort [0x0008, 0]).wf = false := by decide +kernel

/-- An edge beyond the range of the 20-bit counter. -/
theorem test_wf_edge : (Instr.pulseRisingEdge 0 1048576).wf = false := by decide +kernel

/-- A HELLO that names a period item. -/
theorem test_wf_period : (Instr.busFrameReceive { words := [0x0008, 0], period := some 1 }).wf = false := by
  decide +kernel

/-- Well-formed commands are let pass. -/
theorem test_wf_passes :
    (Instr.busFrameReceive { words := [0x0009, 0, 0] }).wf = true ∧
      (Instr.busFrameReceive { words := [0x0049, 0, 0], period := some 2 }).wf = true ∧
      (Instr.serviceFrameReceive { words := [0x0008, 0] }).wf = true ∧
      (Instr.frameReceptionCutShort [0x0008]).wf = true ∧ (Instr.pulseRisingEdge 0 1048575).wf = true := by
  decide +kernel

/-! ### Formats (chapter 11) -/

/-- No word spells a command: the table gives no row bits. -/
theorem test_decodeTableWord : decodeTableWord 16 0x0108 = none := rfl


/-- CRC-16 with polynomial 0x1021 from 0xFFFF, over the bytes "12345678" as four words. -/
theorem test_crc : crc16 [0x3132, 0x3334, 0x3536, 0x3738] = 0xA12B := by decide +kernel

/-- Header word A: destination 2, source 5, kind 16 EVENTS, length 0. -/
theorem test_header :
    headerDest 0x2580 = 2 ∧ headerSource 0x2580 = 5 ∧ headerKind? 0x2580 = some .events ∧ lengthField 0x2580 = 0 := by
  decide +kernel

/-- Selectors of section 11.5: code 16 index 33 is breakpoint 1 of table 1, code 20 part 1 index 23 a result detail;
code 0, the first and the last code that the table does not list, an index beyond an item's range and a part where an
item has none name nothing. -/
theorem test_selectors :
    selectorItem 0x1021 = some (.breakpoint 1 1) ∧ selectorItem 0x1457 = some (.resultDetail 23 1) ∧
      selectorItem 0x0D3F = some (.shutoff 63) ∧ selectorItem 0x1B83 = some (.circuitStatus 3 2) ∧
      selectorItem 0x0000 = none ∧ selectorItem 0x1C00 = none ∧ selectorItem 0xFF00 = none ∧ selectorItem 0x0B0C = none ∧
      selectorItem 0x0741 = none := by decide +kernel

/-! ### The queue and the reset -/

/-- R163 (10): the power-on state has RESTART set, not reported, in every seat's set, and nothing waits. -/
theorem test_reset :
    State.reset.pending = [] ∧ State.reset.flag 0 .restart = .fresh ∧ State.reset.flag 3 .sensor = .clear ∧
      State.reset.cmdt.ranks.read 0 = 3 := by decide +kernel

/-- `EveryStepGoesOn`: no expiry is due right after reset, and a trip dwell that has run out is. -/
theorem witness_EveryStepGoesOn :
    (State.reset.pending = [] ∧ State.reset.dueExpiry = none) ∧
      (withCircuit State.reset 2 fun c => { c with stage := .level .trip, dwellLeft := some 0 }).dueExpiry =
        some (.tripDwellExpiry 2) := by decide +kernel

/-- `EveryStepGoesOn`: a tick short of the tenth of a second and one at it, with nothing due; holds of both kinds and one
that has run out. -/
theorem witness_EveryStepGoesOn_tick :
    let s := withRec State.reset 4 fun r => r.place 3 demand
    let held (h : Hold) := withRec { s with cmdt := { s.cmdt with holdPhase := 9 } } 4 fun r =>
      r.place 3 { demand with hold := h }
    (s.pending = [] ∧ s.dueExpiry = none ∧ s.cmdt.holdPhase < 9) ∧
      ((held .untilReleased).dueExpiry = none ∧ 9 ≤ (held .untilReleased).cmdt.holdPhase ∧
        ((held .untilReleased).record 4).slot 3 = some { demand with hold := .untilReleased }) ∧
      (held (.counted 0)).dueExpiry = some (.demandHoldExpiry 4 3) := by decide +kernel

/-- R4, R129, R154: at a tenth of a second a counted hold loses a step; the orphan count and a time in state gain one. -/
theorem test_tick_tenth :
    gives (step (withRec { State.reset with cmdt := { State.reset.cmdt with holdPhase := 9 } } 4 fun r => r.place 3 demand))
      (fun t => (t.record 4).slot 3 == some { demand with hold := .counted 99 } && t.cmdt.holdPhase == 0 &&
        t.lbi.orphan.count == 1 && (t.odu.discretes.read 7).time == 1) = true := by decide +kernel

/-- `PowerOnSetsEveryBlock`: pump posture takes channels 24 to 27 to 1000 and no other. -/
theorem test_powerOnReset :
    gives (exec (.powerOnReset { station := 2, rate0 := true, rate1 := false, pumpPosture := true }) State.reset) (fun t =>
      (t.record 24).effective == 1000 && (t.record 27).effective == 1000 && (t.record 28).effective == 0 &&
        (t.record 23).effective == 0 && !(t.lbi.roster.read 1).enabled && t.lbi.rate == .kbit125) = true := by
  decide +kernel

/-! ### Links, lines and answers -/

/-- `AnswerHandsTheReply`: an answer that keeps the standing, on either link. -/
theorem witness_AnswerHandsTheReply :
    ((ask State.reset 3 (req 1 [])).answer 3 (req 1 []) .done []).standing 3 = State.reset.standing 3 ∧
      ((ask State.reset 0 (req 1 [])).answer 0 (req 1 []) .done []).standing 0 = State.reset.standing 0 := by
  decide +kernel

/-- `BarringClearsAndReinstateLifts`: a count at the top, a code that moves no count, a seat one count from BARRED, and
REINSTATE from a seat without the right, with a seat out of range, and of a BARRED and an unbarred seat. -/
theorem witness_BarringClearsAndReinstateLifts :
    (511 ≤ 511 ∧ Code.inUse ∉ [Code.badForm, .busy, .guarded, .maintOnly, .done, .clamped]) ∧
    (standingOf ((withCount State.reset 1 255).lbi.faults.read 1) ≠ .barred ∧ 256 ≤ 256 ∧
      State.reset.odu.oddMember 31 = false) ∧
    (req 18 [1]).kind = some .reinstate ∧ State.reset.editor 0 = false ∧
    (State.reset.editor 3 = true ∧ State.reset.standing 3 = .good ∧ 3 ≤ ((req 18 [3]).word 0).toNat) ∧
    ((withCount State.reset 1 256).standing 1 = .barred ∧ ((req 18 [1]).word 0).toNat = (1 : BusSeat).val) ∧
    State.reset.standing (seatOf 2) ≠ .barred := by decide +kernel

/-- `BarringClearsAndReinstateLifts`: counts that keep the standing, change it without barring, and bar; a record that
holds a slot of the seat. -/
theorem witness_BarringClearsAndReinstateLifts_standing :
    standingOf 95 = State.reset.standing (seatOf 1) ∧ standingOf 96 ≠ State.reset.standing (seatOf 1) ∧ 96 < 256 ∧
      standingOf 256 ≠ State.reset.standing (seatOf 1) ∧
      (((withRec State.reset 4 fun r => r.place 1 demand).record 4).slot (seatOf 1)).isSome = true := by decide +kernel

/-- R152: the count that reaches 256 bars the seat; its request in line becomes a refusal. -/
theorem test_reinstate :
    gives (exec (.reinstate 3) (ask (withCount State.reset 1 300) 3 (req 18 [1]))) (fun t =>
      t.standing 1 == .good && t.lbi.faults.read 1 == 0 && t.flag 1 .standing == .fresh &&
        lastReply t == [0x0090, 0x0000]) = true := by decide +kernel

/-- `AnswerHandsTheReply`: a BARRED seat, and one whose standing a BAD_FORM changes. -/
theorem witness_AnswerHandsTheReply_standing :
    (withCount State.reset 1 256).standing 1 = .barred ∧ (withCount State.reset 1 90).standing 1 ≠ .barred ∧
      standingOf (countAfter 90 .badForm) ≠ (withCount State.reset 1 90).standing 1 := by decide +kernel

/-- `FramesJoinTheirLines`: a HELLO of station 1, whose seat is GOOD or BARRED, with three requests already in line, and
one on the service port. -/
theorem witness_FramesJoinTheirLines :
    receivedFrame (framed [0x0108]) = some { header := 0x0108, payload := [] } ∧
    headerDest 0x0108 = State.reset.lbi.station ∧
    State.reset.lbi.seatOfStation (headerSource 0x0108) = some 0 ∧
    Request.malformed { header := 0x0108, payload := [] } = false ∧ State.reset.standing (seatOf 0) ≠ .barred ∧
    ((withCount State.reset 0 256).standing (seatOf 0) = .barred ∧
      Request.kind { header := 0x0108, payload := [] } = some .hello ∧
      Request.kind { header := 0x0180, payload := [] } = some .events) ∧
    (((withLine State.reset 0 [.request (req 1 []), .request (req 1 []), .request (req 1 [])]).lbi.lines.read
      (seatOf 0)).filter IntakeEntry.isRequest).length < 4 ∧
    ((State.reset.lbi.lines.read serviceSeat).filter IntakeEntry.isRequest).length < 4 := by decide +kernel

/-- R146, R154: the request joins the line, and the orphan timer restarts. -/
theorem test_busFrameReceive :
    gives (exec (.busFrameReceive { words := [0x0108, 0xAF36] })
      { State.reset with lbi := { State.reset.lbi with orphan := { limit := 30, count := 3000, holds := true } } })
      (fun t => t.lbi.lines.read 0 == [.request { header := 0x0108, payload := [] }] && t.lbi.orphan.count == 0 &&
        !t.lbi.orphan.holds && t.flag 2 .orphan == .fresh) = true := by decide +kernel

/-- `FramesRefusedAtArrival`: kind code 0, a CLEAR and a HELLO of a BARRED seat, and a fifth request; both links. -/
theorem witness_FramesRefusedAtArrival :
    receivedFrame (framed [0x0100]) = some { header := 0x0100, payload := [] } ∧
    Request.malformed { header := 0x0100, payload := [] } = true ∧
    headerDest 0x0100 = State.reset.lbi.station ∧
    State.reset.lbi.seatOfStation (headerSource 0x0100) = some 0 ∧ State.reset.standing (seatOf 0) ≠ .barred ∧
    (withCount State.reset 0 256).standing (seatOf 0) = .barred ∧
    (receivedFrame (framed [0x0189, 0]) = some { header := 0x0189, payload := [0] } ∧
      Request.malformed { header := 0x0189, payload := [0] } = false ∧
      Request.kind { header := 0x0189, payload := [0] } = some .clear) ∧
    (Request.malformed { header := 0x0108, payload := [] } = false ∧
      Request.kind { header := 0x0108, payload := [] } = some .hello) ∧
    4 ≤ (((withLine State.reset 0 (List.replicate 4 (.request (req 1 [])))).lbi.lines.read (seatOf 0)).filter
      IntakeEntry.isRequest).length ∧
    4 ≤ (((withLine State.reset 3 (List.replicate 4 (.request (req 1 [])))).lbi.lines.read serviceSeat).filter
      IntakeEntry.isRequest).length := by decide +kernel

/-- R146: a BARRED seat's HELLO joins its line; its CLEAR is refused BARRED, and its count stays. -/
theorem test_busFrameReceive_barred :
    gives (exec (.busFrameReceive (framed [0x0108])) (withCount State.reset 0 256)) (fun t =>
      t.lbi.lines.read 0 == [.request { header := 0x0108, payload := [] }]) = true ∧
    gives (exec (.busFrameReceive (framed [0x0189, 0])) (withCount State.reset 0 256)) (fun t =>
      t.lbi.lines.read 0 == [.refusal 0x0189 .barred] && t.lbi.faults.read 0 == 256) = true := by decide +kernel

/-- R146, R151: a malformed frame costs eight counts, and is answered BAD_FORM later. -/
theorem test_busFrameReceive_malformed :
    gives (exec (.busFrameReceive (framed [0x0100])) State.reset) (fun t =>
      t.lbi.faults.read 0 == 8 && t.lbi.lines.read 0 == [.refusal 0x0100 .badForm]) = true := by decide +kernel

/-- `OnlyCheckedFramesArrive`: one payload word; a wrong CRC; another station's frame; a station of no entry. -/
theorem witness_OnlyCheckedFramesArrive :
    [(4 : Word)].length = lengthField 0x0119 ∧ receivedFrame { words := [0x0108, 0xAF37] } = none ∧
    (receivedFrame (framed [0x5108]) = some { header := 0x5108, payload := [] } ∧
      headerDest 0x5108 ≠ State.reset.lbi.station) ∧
    receivedFrame (framed [0x0908]) = some { header := 0x0908, payload := [] } ∧
      State.reset.lbi.seatOfStation (headerSource 0x0908) = none := by decide +kernel

/-- R144: a frame cut short changes nothing. -/
theorem test_frameReceptionCutShort :
    gives (exec (.frameReceptionCutShort [0x0108]) State.reset) (fun t => decide (t = State.reset)) = true := by
  decide +kernel

/-- `HandlerTakesTheHead`: a free handler with a request, and with a refusal, at the head of its line. -/
theorem witness_HandlerTakesTheHead :
    State.reset.lbi.service.read 3 = none ∧
      (withLine State.reset 3 [.request (req 1 [])]).lbi.lines.read 3 = .request (req 1 []) :: [] ∧
      (withLine State.reset 3 [.refusal 0 .busy]).lbi.lines.read 3 = .refusal 0 .busy :: [] := by decide +kernel

/-- R147: the refusal's reply carries BUSY, code 8, in bits 15–12 of header word B. -/
theorem test_handlerTakeHead :
    gives (exec (.handlerTakeHead 3) (withLine State.reset 3 [.refusal 0x0010 .busy])) (fun t =>
      lastReply t == [0x0010, 0x8000] && t.lbi.lines.read 3 == []) = true := by decide +kernel

/-- `PlainRequestsAreAnswered`: each of the four kinds, from the service seat and from a bus seat. -/
theorem witness_PlainRequestsAreAnswered :
    (req 1 []).kind = some .hello ∧ (req 10 []).kind = some .openDirectory ∧
      (req 11 []).kind = some .closeDirectory ∧ (req 19 []).kind = some .restart ∧ (0 : Seat) ≠ serviceSeat := by
  decide +kernel

/-- R156: seat 3, GOOD, directory CLOSED, station 0: payload 0x0030. -/
theorem test_hello :
    gives (exec (.hello 3) (ask State.reset 3 (req 1 []))) (fun t => lastReply t == [0x0009, 0x0000, 0x0030]) = true := by
  decide +kernel

/-- R44: the service seat opens the directory. -/
theorem test_openDirectory :
    gives (exec (.openDirectory 3) (ask State.reset 3 (req 10 []))) (fun t => t.pdir.isOpen) = true := by decide +kernel

/-- R44: and closes it. -/
theorem test_closeDirectory :
    gives (exec (.closeDirectory 3) (ask cached 3 (req 11 []))) (fun t => !t.pdir.isOpen) = true := by decide +kernel

/-- R157: the reply to an accepted RESTART carries the restart. -/
theorem test_restart :
    gives (exec (.restart 3) (ask State.reset 3 (req 19 []))) (fun t =>
      t.lbi.port.replies == [{ words := [0x0098, 0x0000], restart := true }]) = true := by decide +kernel

/-- `TransmittersSendInOrder`: an idle and a sending transmitter on each link. -/
theorem witness_TransmittersSendInOrder :
    let x : Reply := { words := [1, 2], restart := true }
    let bus : State := { State.reset with lbi := { State.reset.lbi with bus := { replies := [x], sending := none } } }
    let port : State := { State.reset with lbi := { State.reset.lbi with port := { replies := [x], sending := none } } }
    bus.lbi.bus = { replies := x :: [], sending := none } ∧ port.lbi.port = { replies := x :: [], sending := none } ∧
    (after bus .replyTransmit).lbi.bus = { replies := x :: [], sending := some [1, 2, crc16 [1, 2]] } ∧
    (after port .serviceReplyTransmit).lbi.port = { replies := x :: [], sending := some [1, 2, crc16 [1, 2]] } := by
  decide +kernel

/-- R150, R157: the RESTART reply sent whole leaves its list, and the restart is due. -/
theorem test_replySentWhole :
    gives (exec (.replySentWhole .service)
      { State.reset with
        lbi := { State.reset.lbi with
          port := { replies := [{ words := [1], restart := true }], sending := some [1, 0] } } })
      (fun t => t.lbi.port == Transmitter.idle && t.lbi.restartDue) = true := by decide +kernel

/-- R150: a reply abandoned at read-back leaves its list. -/
theorem test_replyReadbackAbandon :
    gives (exec .replyReadbackAbandon
      { State.reset with
        lbi := { State.reset.lbi with
          bus := { replies := [{ words := [1], restart := false }, { words := [2], restart := false }],
                   sending := some [1, 0] } } })
      (fun t => t.lbi.bus == { replies := [{ words := [2], restart := false }], sending := none }) = true := by
  decide +kernel

/-- `OrphanTimerAndLimitBeginTheCause`: the count at the limit of 30 s, and limits of 1 s and 600 s. -/
theorem witness_OrphanTimerAndLimitBeginTheCause :
    (let s : State := { State.reset with lbi := { State.reset.lbi with orphan := { limit := 30, count := 3000, holds := false } } }
     s.lbi.orphan.holds = false ∧ 100 * s.lbi.orphan.limit ≤ s.lbi.orphan.count) ∧
    (write 5 0 [1]).kind = some .configWrite ∧ (write 5 0 [1]).item = some .orphanLimit ∧
    2 ≤ (write 5 0 [1]).payload.length ∧ ((write 5 0 [1]).word 1).toNat = 1 ∧
    ((write 5 0 [600]).word 1).toNat = 600 := by decide +kernel

/-- `OrphanTimerAndLimitBeginTheCause`: a limit at the count, and the cause held with the count above every limit. -/
theorem witness_OrphanTimerAndLimitBeginTheCause_limit :
    let s (held : Bool) (n : Nat) : State :=
      { State.reset with lbi := { State.reset.lbi with orphan := { limit := 30, count := n, holds := held } } }
    100 * ((write 5 0 [2]).word 1).toNat ≤ (s false 200).lbi.orphan.count ∧
      (s false 199).lbi.orphan.count < 100 * ((write 5 0 [2]).word 1).toNat ∧
      (s true 60000).lbi.orphan.holds = true ∧ 100 * ((write 5 0 [600]).word 1).toNat ≤ (s true 60000).lbi.orphan.count := by
  decide +kernel

/-- R155: the demands of bus seats go and the service seat's stay. -/
theorem test_orphanTimerExpiry :
    gives (exec .orphanTimerExpiry
      { withRec State.reset 4 (fun r => { r with slots := (r.slots.write 0 (some demand)).write 3 (some demand) }) with
        lbi := { State.reset.lbi with orphan := { limit := 1, count := 100, holds := false } } })
      (fun t => (t.record 4).slot 0 == none && (t.record 4).slot 3 == some demand && t.lbi.orphan.holds) = true := by
  decide +kernel

/-- R154: a limit that the count has reached begins the cause. -/
theorem test_configWriteOrphanLimit :
    gives (exec (.configWriteOrphanLimit 3)
      (ask { State.reset with lbi := { State.reset.lbi with orphan := { limit := 30, count := 200, holds := false } } } 3
        (write 5 0 [2])))
      (fun t => t.lbi.orphan == { limit := 2, count := 200, holds := true } && t.flag 0 .orphan == .fresh) = true := by
  decide +kernel

/-- `WarmRestartDiscardsAndKeeps`: the restart is due. -/
theorem witness_WarmRestartDiscardsAndKeeps :
    ({ State.reset with lbi := { State.reset.lbi with restartDue := true } } : State).lbi.restartDue = true ∧
      State.reset.odu.oddMember 1 = false := by decide +kernel

/-- `WarmRestartDiscardsAndKeeps`: a mark write begun and a walk at a read; a scan that runs; a record of a circuit. -/
theorem witness_WarmRestartDiscardsAndKeeps_clauses :
    (walking (.mark 1 0x50000020 (.toGroup 0x20)) []).pdir.walk.map (·.step) = some (.mark 1 0x50000020 (.toGroup 0x20)) ∧
      memWf (walking (.mark 1 0x50000020 (.toGroup 0x20)) []).pdir.memory = true ∧
      (walking .zone []).pdir.walk.map (·.step) = some .zone ∧ (converting .reference).smu.running = some .continuous ∧
      ((withRec State.reset 4 fun r => { r with circuit := some 3 }).record 4).circuit = some 3 := by decide +kernel

/-- R46, R84: a mark write begun is completed, and a running scan begins its pass anew. -/
theorem test_restartIn_marks :
    gives (exec .restartIn (walking (.mark 1 0x50000020 (.toGroup 0x20)) [(1, 0x40000020)])) (fun t =>
      t.pdir.memory == [(1, 0x50000020)] && t.pdir.walk == none) = true ∧
    gives (exec .restartIn (converting (.sensor 1000))) (fun t =>
      t.smu.conversion.map (fun v => (v.channel, v.phase)) == some (23, .reference)) = true := by decide +kernel

/-- R20: RESTART_IN removes the demands; HOLD_LAST goes on at the last-won value. -/
theorem test_restartIn :
    gives (exec .restartIn (withRec State.reset 4 fun r =>
        { r with slots := r.slots.write 3 (some demand), winner := some 3, arbitrated := 600, lastWon := some 600,
                 effective := 600, fallbackMode := .holdLast }))
      (fun t => (t.record 4).slot 3 == none && (t.record 4).winner == none && (t.record 4).effective == 600) = true := by
  decide +kernel

/-- R157: with no restart due and none being sent, the step cannot occur. -/
theorem test_restartTake :
    gives (exec .restartTake State.reset) (fun t => decide (t = State.reset)) = true := by decide +kernel

/-! ### Events -/

/-- `EventsReportAndClearClears`: both kinds. -/
theorem witness_EventsReportAndClearClears :
    (req 16 []).kind = some .events ∧ (req 17 [0x0800]).kind = some .clear := by decide +kernel

/-- R163: RESTART is bit 11 of the first word; all 24 sensors are not VALID; the flag is then reported. -/
theorem test_events :
    gives (exec (.events 3) (ask State.reset 3 (req 16 []))) (fun t =>
      lastReply t == [0x0086, 0x0000, 0x0800, 0, 0x00FF, 0xFFFF, 0, 0] && t.flag 3 .restart == .reported &&
        t.flag 0 .restart == .fresh) = true := by decide +kernel

/-- R164: a flag not yet reported is not cleared. -/
theorem test_clear :
    gives (exec (.clear 3) (ask State.reset 3 (req 17 [0x0FFF]))) (fun t => t.flag 3 .restart == .fresh) = true := by
  decide +kernel

/-! ### The command table -/

/-- `WinnerIsHighestRankedOfItsClass`: the power-on rank table holds each seat. -/
theorem witness_WinnerIsHighestRankedOfItsClass : ∀ seat, ∃ i, State.reset.cmdt.ranks.read i = seat := by
  decide +kernel

/-- `RecordsArbitrateAndSettle`: a record with a winner, one without, and one under a floor of 1000. -/
theorem witness_RecordsArbitrateAndSettle :
    let won := (withRec State.reset 4 fun r => r.place 0 demand).record 4
    let free := State.reset.record 4
    chooseWinner State.reset.cmdt.ranks State.reset.standing won = some 0 ∧
      chooseWinner State.reset.cmdt.ranks State.reset.standing free = none ∧ free.staticMin ≤ free.staticMax ∧
      free.staticMax ≤ 1000 ∧ ({ free with bound := .floor 1000 } : Record).bound = .floor 1000 := by decide +kernel

/-- `SetPlacesTheDemand`: a SET of point 4 by a guarded window and by an open one, and of point 0x200 by a guarded cache
entry and by one with D set; an input channel, an odd member, and a seat that has become BARRED. -/
theorem witness_SetPlacesTheDemand :
    (req 2 [4, 700, 5]).kind = some .set ∧
    ((windowed true).pcache.window? 3 (wordPoint 4) = some 0 ∧
      ((windowed true).pcache.windows.read 0).guarded = true) ∧
    ((windowed false).pcache.window? 3 (wordPoint 4) = some 0 ∧
      ((windowed false).pcache.windows.read 0).guarded = false ∧ (windowChannel (wordPoint 4)).val = (4 : OutCh).val ∧
      (windowed false).odu.oddMember 4 = false ∧ (windowed false).standing 3 ≠ .barred ∧
      (withCount (windowed false) 0 256).standing 0 = .barred ∧ 32 ≤ (windowChannel (wordPoint 32)).val ∧
      (withPair (windowed false) 11 (PairRun.formed 0 60)).odu.oddMember 23 = true) ∧
    cached.pcache.window? 3 (wordPoint 0x200) = none ∧ cached.pdir.isOpen = true ∧
    (cached.pcache.lookup 3 (wordPoint 0x200)).map (fun e => (e.guarded, e.driven, e.channel.val)) =
      some (false, true, 5) ∧
    ((cachedAs true false).pcache.lookup 3 (wordPoint 0x200)).map (·.guarded) = some true := by decide +kernel

/-- R45, R53: a SET of an input channel is answered BAD_TARGET, code 5; one that a guarded entry takes GUARDED, code 3,
with the entry's channel. -/
theorem test_set_refused :
    gives (exec (.set 3) (ask (windowed false) 3 (req 2 [32, 700, 5]))) (fun t =>
      lastReply t == [0x0011, 0x5000, 0x2020]) = true ∧
    gives (exec (.set 3) (ask (cachedAs true true) 3 (req 2 [0x200, 700, 5]))) (fun t =>
      lastReply t == [0x0011, 0x3000, 0x6005] && (t.record 5).slot 3 == none) = true := by decide +kernel

/-- R3, R148: 1200 is taken as 1000, with result CLAMPED; translation by window 0 to channel 4. -/
theorem test_set :
    gives (exec (.set 3) (ask (windowed false) 3 (req 2 [4, 1200, 5]))) (fun t =>
      lastReply t == [0x0013, 0x1000, 0x2004, 1000, 3] &&
        (t.record 4).slot 3 == some { value := 1000, hold := .counted 50 } &&
        (t.odu.mods.read 4).held == 1000) = true := by decide +kernel

/-- `ReleaseRemovesItsOwnSlot`: by a window, and by the cache. -/
theorem witness_ReleaseRemovesItsOwnSlot :
    (req 3 [4]).kind = some .release ∧ (windowed false).odu.oddMember 4 = false ∧
    32 ≤ (windowChannel (wordPoint 32)).val ∧
    (windowed false).pcache.window? 3 (wordPoint 4) = some 0 ∧
    (cached.pcache.window? 3 (wordPoint 0x200) = none ∧ cached.pdir.isOpen = true ∧
      (cached.pcache.lookup 3 (wordPoint 0x200)).map (fun e => e.channel.val) = some 5) ∧
    ((withRec (windowed false) 4 fun r => r.place 3 demand).record 4).slot 3 ≠ none ∧
    ((windowed false).record 4).slot 3 = none := by decide +kernel

/-- R6, R10: the last demand released, the record goes to its fallback. -/
theorem test_release :
    gives (exec (.release 3)
      (ask (withRec (windowed false) 4 fun r => r.judge (windowed false).cmdt.ranks (windowed false).standing |>.place 3
        demand) 3 (req 3 [4])))
      (fun t => lastReply t == [0x001B, 0x0000, 0x2004, 0, 0xFFFF] && (t.record 4).slot 3 == none) = true := by
  decide +kernel

/-- `ReadReturnsTheView`: an output, a sensor and a pulse channel, at the ends of their ranges. -/
theorem witness_ReadReturnsTheView :
    (req 4 [31]).kind = some .read ∧ (windowed false).pcache.window? 3 (wordPoint 31) = some 0 ∧
    (windowChannel (wordPoint 31)).val = (31 : OutCh).val ∧ (windowed false).odu.oddMember 31 = false ∧
    ((windowed false).record 31).effective ≤ 1000 ∧
    (windowChannel (wordPoint 55)).val = 32 + (23 : SensorCh).val ∧
    ((windowed false).smu.results.read 23).samples ≤ 255 ∧
    (windowChannel (wordPoint 63)).val = 56 + (7 : PulseCh).val := by decide +kernel

/-- `ReadReturnsTheView`: an odd member with its even record, holds of both kinds, both bounds, and a channel's circuit. -/
theorem witness_ReadReturnsTheView_words :
    ((withPair State.reset 2 (PairRun.formed 0 60)).odu.oddMember 5 = true ∧ (5 : OutCh).val = (4 : OutCh).val + 1 ∧
      (4 : OutCh) = evenCh 2) ∧
    (let x := (withRec State.reset 4 fun r => { r.place 0 demand with bound := .floor 1000 }).record 4
     x.slot 0 = some { value := 600, hold := .counted 100 } ∧ x.bound = .floor 1000) ∧
    ∀ k, ((withCircuit State.reset 3 fun c => { c with flow := some (7, 6000) }).circuit k).flow =
      if k = 3 then some (7, 6000) else none := by decide +kernel

/-- R22: the odd member of an UNSYNCED pair shows its even record: seat 0's 600 under its ceiling of 500, held for 100
steps. -/
theorem test_read_odd :
    (withPair (withRec State.reset 4 fun r =>
        { r.place 0 demand with winner := some 0, arbitrated := 600, bound := .ceiling 500, effective := 500 })
      2 (PairRun.formed 0 60)).view 0 5 = [0x01F4, 0x8258, 100, 0x41F4, 0xC000] := by decide +kernel

/-- R22: no winner reads as 7 in bits 14–12; no slot, no bound and no pair read as 0. -/
theorem test_read :
    gives (exec (.read 3) (ask (windowed false) 3 (req 4 [31]))) (fun t =>
      lastReply t == [0x0026, 0x0000, 0x201F, 0x7000, 0, 0, 0, 0]) = true := by decide +kernel

/-- `HoldExpiryRemovesTheSlot`: UNTIL_RELEASED, two steps left, and the last step. -/
theorem witness_HoldExpiryRemovesTheSlot :
    let s (h : Hold) : State := withRec State.reset 31 fun r => r.place 0 { value := 600, hold := h }
    ((s .untilReleased).record 31).slot 0 = some { value := 600, hold := .untilReleased } ∧
    ((s (.counted 2)).record 31).slot 0 = some { value := 600, hold := .counted 2 } ∧
    ((s (.counted 1)).record 31).slot 0 = some { value := 600, hold := .counted 1 } ∧
    (s (.counted 1)).odu.oddMember 31 = false := by decide +kernel

/-- R4: the slot at its last step goes. -/
theorem test_demandHoldExpiry :
    gives (exec (.demandHoldExpiry 31 0)
      (withRec State.reset 31 fun r => r.place 0 { value := 600, hold := .counted 1 })) (fun t =>
        (t.record 31).slot 0 == none && (t.record 31).winner == none) = true := by decide +kernel

/-- `RecordsHandTheirCommands`: a modulated channel outside every pair. -/
theorem witness_RecordsHandTheirCommands : State.reset.odu.member (modCh 23) = false := by decide +kernel

/-- `ResolutionTriesTheCache`: no window takes the point; the directory CLOSED; a miss; a hit; a hit with W and D
clear. -/
theorem witness_ResolutionTriesTheCache :
    State.reset.pcache.window? 3 (wordPoint ((req 2 [0x200, 0, 0]).word 0)) = none ∧ State.reset.pdir.isOpen = false ∧
    (req 2 [0x200, 0, 0]).kind = some .set ∧ (req 3 [0x200]).kind = some .release ∧ (req 4 [0x200]).kind = some .read ∧
    (cached.pcache.window? 3 (wordPoint 0x210) = none ∧ cached.pdir.isOpen = true ∧
      cached.pcache.lookup 3 (wordPoint 0x210) = none) ∧
    cached.pcache.window? 3 (wordPoint 0x200) = none ∧ (cached.pcache.lookup 3 (wordPoint 0x200)).isSome = true ∧
    ((cachedAs false false).pcache.lookup 3 (wordPoint 0x200)).map (fun e => (e.guarded, e.driven)) =
      some (false, false) := by decide +kernel

/-- R54: a SET that hits an entry with D clear waits for a re-walk, and the victim pointer moves. -/
theorem test_set_rewalk :
    gives (exec (.set 3) (ask (cachedAs false false) 3 (req 2 [0x200, 700, 5]))) (fun t =>
      t.lbi.service.read 3 == some { request := req 2 [0x200, 700, 5], progress := .awaitingWalk true } &&
        (t.pcache.sets.read (cacheSetOf 0x200)).victim == 1 && t.lbi.arbiter.chosen == some 3) = true := by
  decide +kernel

/-! ### The directory and the cache -/

/-- `CacheLoadsAndFlushesExactly`: each form, the service seat naming seat 0 and a bus seat itself; the points of the
entries lie in their own sets. -/
theorem witness_CacheLoadsAndFlushesExactly :
    ((req 5 [0x0000, 0x200]).kind = some .flush ∧ (((req 5 [0x0000, 0x200]).word 0).extractLsb' 14 2).toNat = 0 ∧
      (((req 5 [0x0000, 0x200]).word 0).extractLsb' 0 4).toNat = (0 : Seat).val) ∧
    (((req 5 [0x4000, 0]).word 0).extractLsb' 14 2).toNat = 1 ∧
    (((req 5 [0x8000, 0]).word 0).extractLsb' 14 2).toNat = 2 := by decide +kernel

/-- Every entry of `cached` stands in its point's set. -/
theorem witness_CacheLoadsAndFlushesExactly_sets :
    ∀ i way e, (cached.pcache.sets.read i).ways.read way = some e → e.point = 0x200#14 → i = cacheSetOf 0x200#14 := by
  intro i way e h _
  revert h
  have : ∀ i way, ((cached.pcache.sets.read i).ways.read way).isSome = true → i = cacheSetOf 0x200#14 := by
    decide +kernel
  intro h
  exact this i way (by rw [h]; rfl)

/-- An entry that a load leaves alone. -/
theorem witness_CacheLoadsAndFlushesExactly_load :
    let e : CacheEntry :=
      { seat := 1, global := false, point := 0x200, channel := 6, guarded := false, driven := false, link := false }
    ((cached.pcache.sets.read (cacheSetOf e.point)).ways.read 0).any (fun old => !e.replaces old) = true := by
  decide +kernel

/-- `CacheLoadsAndFlushesExactly`: a set with an entry that a load replaces, one with a free way and nothing to replace,
and one that is full. -/
theorem witness_CacheLoadsAndFlushesExactly_way :
    let was := cached.pcache.sets.read (cacheSetOf 0x200)
    let entry (i : Fin 4) : CacheEntry :=
      { seat := 0, global := false, point := 0x200 + BitVec.ofNat 14 (i.val * 4096), channel := 1, guarded := false,
        driven := true, link := false }
    let full : CacheSet := { was with ways := Bank.fill fun i => some (entry i) }
    ((was.ways.read 0).map fun old => (old.point, old.seat)) = some (0x200, 3) ∧ was.ways.read 1 = none ∧
      (∀ i, full.ways.read i ≠ none) ∧ (∀ i, (full.ways.read i).all (fun e => e.point != 0x201) = true) ∧
      cacheSetOf 0x201 = cacheSetOf 0x200 := by decide +kernel

/-- R56: an entry of seat 1 for the point goes to the lowest invalid way, and a global one takes way 0 and drops the
rest. -/
theorem test_load :
    let e : CacheEntry :=
      { seat := 1, global := false, point := 0x200, channel := 6, guarded := false, driven := false, link := false }
    let c := cached.pcache.load e
    ((c.sets.read (cacheSetOf 0x200)).ways.read 1 = some e ∧ (c.lookup 3 0x200).isSome = true) ∧
      (let g := (c.load { e with global := true }).sets.read (cacheSetOf 0x200)
       g.ways.read 0 = some { e with global := true } ∧ g.ways.read 1 = none) := by decide +kernel

/-- R58: FLUSH SEAT of seat 3 removes its entry. -/
theorem test_flushSeat :
    gives (exec (.flushSeat 3) (ask cached 3 (req 5 [0x4003, 0]))) (fun t =>
      t.pcache.lookup 3 0x200 == none) = true := by decide +kernel

/-- R58: FLUSH POINT for seat 0 leaves seat 3's entry. -/
theorem test_flushPoint :
    gives (exec (.flushPoint 3) (ask cached 3 (req 5 [0x0000, 0x200]))) (fun t =>
      (t.pcache.lookup 3 0x200).isSome) = true := by decide +kernel

/-- R57: FLUSH ALL from a bus seat is refused NOT_EDITOR, code 10. -/
theorem test_flushAll :
    gives (exec (.flushAll 0) (ask cached 0 (req 5 [0x8000, 0]))) (fun t =>
      t.lbi.bus.replies.map (·.words) == [[0x0028, 0xA000]] && (t.pcache.lookup 3 0x200).isSome) = true := by
  decide +kernel

/-- `DirectoryAccessGoesThroughThePort`: a read and a write of the last word, an address above it, and the grants of
both; a port that no seat waits at, and one that stays with the walker. -/
theorem witness_DirectoryAccessGoesThroughThePort :
    ((req 6 [4095]).kind = some .dirRead ∧ State.reset.editor 3 = true ∧ ((req 6 [4095]).word 0).toNat < 4096 ∧
      4096 ≤ ((req 6 [4096]).word 0).toNat) ∧
    ((req 7 [4095, 1, 2]).kind = some .dirWrite ∧ State.reset.pdir.walk = none) ∧
    (let s := after (ask State.reset 3 (req 6 [4095])) (.dirRead 3)
     s.lbi.service.read 3 = some { request := req 6 [4095], progress := .awaitingPort 4095 none } ∧
       s.portToSeats = true ∧ s.portSeat = some 3) ∧
    (let s := after (ask State.reset 3 (req 7 [4095, 1, 2])) (.dirWrite 3)
     s.lbi.service.read 3 = some { request := req 7 [4095, 1, 2], progress := .awaitingPort 4095 (some 0x00010002) } ∧
       s.portToSeats = true ∧ s.portSeat = some 3 ∧ memWf s.pdir.memory = true) ∧
    (∀ q, State.reset.lbi.service.read q = none) ∧ (walking .zone []).portToSeats = false := by decide +kernel

/-- R25: with seats 0 and 2 waiting and seat 0 served last, the port goes to seat 2. -/
theorem test_portSeat :
    let s := after (after (ask (ask State.reset 3 (req 6 [1])) 0 (req 6 [1])) (.dirRead 3)) .dirPortGrant
    let waiting (q : Seat) (s : State) : State :=
      s.setService q (some { request := req 6 [1], progress := .awaitingPort 1 none })
    (waiting 2 (waiting 0 { s with pdir := { s.pdir with lastSeat := 0 } })).portSeat = some 2 := by decide +kernel

/-- R42: a DIR_WRITE and its grant put the word, its first half from the first word; a DIR_READ waits. -/
theorem test_dirWrite :
    (after (after (ask State.reset 3 (req 7 [4095, 1, 2])) (.dirWrite 3)) .dirPortGrant).pdir.memory =
      [(4095, 0x00010002)] ∧
    gives (exec (.dirRead 3) (ask State.reset 3 (req 6 [4096]))) (fun t => lastReply t == [0x0030, 0x7000]) = true := by
  decide +kernel

/-- `GrantBeginsTheWalk`: a seat that waits with a valid root, one whose root is not valid, one with the directory
CLOSED. -/
theorem witness_GrantBeginsTheWalk :
    let s := after (ask cached 3 (req 4 [0x210])) (.read 3)
    (s.pdir.walk = none ∧ s.lbi.arbiter.chosen = some 3 ∧
      s.lbi.service.read 3 = some { request := req 4 [0x210], progress := .awaitingWalk false } ∧
      (req 4 [0x210]).kind = some .read ∧ s.pdir.isOpen = true ∧ (s.pdir.roots.read 3).valid = true) ∧
    (let u := after (ask cached 0 (req 4 [0x210])) (.read 0)
     u.lbi.arbiter.chosen = some 0 ∧ u.pdir.isOpen = true ∧ (u.pdir.roots.read 0).valid = false) ∧
    ({ s with pdir := { s.pdir with isOpen := false } } : State).pdir.isOpen = false ∧
    ((req 2 [0x210, 0, 0]).kind = some .set ∧ (req 3 [0x210]).kind = some .release) := by decide +kernel

/-- R149: with seats 0 and 2 waiting and seat 0 served last, the walker goes to seat 2. -/
theorem test_arbiter :
    Arbiter.next { waiting := Bank.fill fun q => q == 0 || q == 2, last := 0, chosen := none } = some 2 := by
  decide +kernel

/-- R31: the grant begins the walk at the zone table. -/
theorem test_walkGrant :
    gives (exec .walkGrant (after (ask cached 3 (req 4 [0x210])) (.read 3))) (fun t =>
      t.pdir.walk.map (fun w => (w.seat.val, w.point, w.step)) == some (3, 0x210, .zone)) = true := by decide +kernel

/-- `WalksReadEachLevelAndMark`: a word of each kind the levels expect, with T set and clear, and a mark write. -/
theorem witness_WalksReadEachLevelAndMark :
    ((walking .zone [(1, 0x50000020)]).pdir.walk = some (walk .zone) ∧
      (walking .zone [(1, 0x50000020)]).portToWalker = true ∧ (walk .zone).access ≠ .set ∧
      ({ walk .zone with access := .set } : Walk).access = .set ∧ descGuarded 0x50000020 = false ∧
      descGuarded 0x60000020 = true ∧ descKind 0x60000020 = .table ∧ descKind 0x00000020 = .absent ∧
      (1 : DirAddr).toNat = ((walk .zone).rootBase.toNat * 16 + (zoneIndex (walk .zone).point).toNat) % 4096 ∧
      descKind 0x50000020 = .table ∧ descTouched 0x50000020 = true ∧ descTouched 0x40000020 = false) ∧
    ((0xFE0 : DirAddr).toNat % 32 = 0 ∧
      (0xFE0 : DirAddr).toNat = ((0xFE0 : DirAddr).toNat + (groupIndex 0x200).toNat) % 4096) ∧
    ((0xFF0 : DirAddr).toNat % 16 = 0 ∧
      (0xFF0 : DirAddr).toNat = ((0xFF0 : DirAddr).toNat + (pointIndex 0x200).toNat) % 4096 ∧
      descKind 0xC0000FFF = .link) ∧
    (descKind 0x80000003 = .leaf ∧ descTouched 0x80000003 = false ∧ (0x80000003#32).getLsbD 27 = false ∧
      descKind 0x88000003 = .leaf ∧ (0x88000003#32).getLsbD 27 = true ∧ (0 : Seat) ≠ serviceSeat ∧
      (walk .zone).seat = serviceSeat) ∧
    ((walking (.mark 1 0x50000020 (.toGroup 0x20)) []).pdir.walk = some (walk (.mark 1 0x50000020 (.toGroup 0x20))) ∧
      (walking (.mark 1 0x50000020 (.toGroup 0x20)) []).portToWalker = true ∧
      memWf (walking (.mark 1 0x50000020 (.toGroup 0x20)) []).pdir.memory = true) := by decide +kernel

/-- R32, R40: the zone-table word is read; with T clear it is locked until its mark write. -/
theorem test_walkZoneRead :
    gives (exec .walkZoneRead (walking .zone [(1, 0x40000020)])) (fun t =>
      t.pdir.walk.map (·.step) == some (.mark 1 0x50000020 (.toGroup 0x20)) && t.pdir.memory == [(1, 0x40000020)]) =
        true := by decide +kernel

/-- R33: the group-table word, with T set, leads on at once. -/
theorem test_walkGroupRead :
    gives (exec .walkGroupRead (walking (.group 0x20) [(0x20, 0x50000040)])) (fun t =>
      t.pdir.walk.map (·.step) == some (.point 0x40)) = true := by decide +kernel

/-- R34, R35: a LINK leads to its target, and marks the walk through-link. -/
theorem test_walkPointRead :
    gives (exec .walkPointRead (walking (.point 0x40) [(0x40, 0xD0000FFF)])) (fun t =>
      t.pdir.walk.map (fun w => (w.step, w.throughLink)) == some (.link 0xFFF, true)) = true := by decide +kernel

/-- R35, R62: the target's leaf, with T set, ends the walk: READ of sensor channel 32, source 4. -/
theorem test_walkLinkTargetRead :
    gives (exec .walkLinkTargetRead (walking (.link 0xFFF) [(0xFFF, 0x90000020)])) (fun t =>
      t.pdir.walk == none && (lastReply t).take 3 == [0x0023, 0x0000, 0x8020]) = true := by decide +kernel

/-- R37, R38, R41: on its leaf a SET walk sets T and D; a W there ends it GUARDED, the word as it was; and a bus seat's walk
to a leaf with S set ends MAINT_ONLY, code 4, at its mark write. -/
theorem test_walkPointRead_set :
    gives (exec .walkPointRead (walkingAs { walk (.point 0x40) with access := .set } (req 2 [0x200, 700, 5])
        [(0x40, 0x80000005)])) (fun t =>
      t.pdir.walk.map (·.step) == some (.mark 0x40 0x92000005 (.finish (.found
        { channel := 5, guarded := false, serviceOnly := false, global := false, driven := true, link := false })))) =
      true ∧
    gives (exec .walkPointRead (walkingAs { walk (.point 0x40) with access := .set } (req 2 [0x200, 700, 5])
        [(0x40, 0xA0000005)])) (fun t =>
      t.pdir.walk == none && lastReply t == [0x0010, 0x3000] && t.pdir.memory == [(0x40, 0xA0000005)]) = true ∧
    gives (exec .walkPointRead (walkingAs { walk (.point 0x40) with seat := 0 } (req 4 [0x200]) [(0x40, 0x98000005)]))
      (fun t => t.lbi.bus.replies.map (·.words) == [[0x0020, 0x4000]] && t.lbi.faults.read 0 == 2) = true := by
  decide +kernel

/-- R36, R55: a SET walk's translation is loaded, global with G set and W and S clear, and the SET placed. -/
theorem test_walkMarkWrite_finish :
    gives (exec .walkMarkWrite (walkingAs
        { walk (.mark 0x40 0x96000005 (.finish (.found
            { channel := 5, guarded := false, serviceOnly := false, global := true, driven := true, link := false })))
          with access := .set } (req 2 [0x200, 700, 5]) [])) (fun t =>
      (t.pcache.lookup 0 0x200).map (fun e => (e.global, e.channel.val)) == some (true, 5) &&
        (t.record 5).slot 3 == some { value := 700, hold := .counted 50 } && t.pdir.memory == [(0x40, 0x96000005)]) =
      true := by decide +kernel

/-- R40: the mark write sets T in its word, and the walk goes on. -/
theorem test_walkMarkWrite :
    gives (exec .walkMarkWrite (walking (.mark 1 0x50000020 (.toGroup 0x20)) [(1, 0x40000020)])) (fun t =>
      t.pdir.memory == [(1, 0x50000020)] && t.pdir.walk.map (·.step) == some (.group 0x20)) = true := by decide +kernel

/-- `MisalignedTableEndsTheWalk`: bases one above a multiple. -/
theorem witness_MisalignedTableEndsTheWalk :
    (walking (.group 0x21) []).pdir.walk = some (walk (.group 0x21)) ∧
    (walking (.group 0x21) []).lbi.service.read 3 = some { request := req 4 [0x200], progress := .walking } ∧
    (walking (.group 0x21) []).standing 3 = .good ∧ (0x21 : DirAddr).toNat % 32 ≠ 0 ∧
    (walking (.point 0x41) []).pdir.walk = some (walk (.point 0x41)) ∧ (0x41 : DirAddr).toNat % 16 ≠ 0 := by
  decide +kernel

/-! ### Configuration -/

/-- `SelectorsAreJudgedFirst`: an item, an input's shutoff item, no item, and a read-only item; a period item named and
one out of range; a formed pair. -/
theorem witness_SelectorsAreJudgedFirst :
    ((req 8 [0x1B82]).kind = some .configRead ∧ (req 8 [0x1B82]).item = some (.circuitStatus 2 2) ∧
      (State.reset.itemFields (.circuitStatus 2 2)).isSome = true) ∧
    ((req 8 [0x0D20]).item = some (.shutoff 32) ∧ State.reset.itemFields (.shutoff 32) = none) ∧
    (req 8 [0x0000]).item = none ∧
    (req 9 [0x1300]).kind = some .configWrite ∧ (req 9 [0x1300]).item = some .scanStatus ∧
    ((2 : BitVec 6).toNat = (2 : GroupNo).val ∧ 3 ≤ (3 : BitVec 6).toNat) ∧
    ((withPair State.reset 11 (PairRun.formed 0 60)).odu.pairs.read 11).run = some (PairRun.formed 0 60) := by
  decide +kernel

/-- R116: a period item that a request names, and one of no group. -/
theorem test_configRead_period :
    gives (exec (.configRead 3) (ask State.reset 3 { req 8 [0] with period := some 2 })) (fun t =>
      lastReply t == [0x0042, 0x0000, 400, 0]) = true ∧
    gives (exec (.configRead 3) (ask State.reset 3 { req 8 [0] with period := some 3 })) (fun t =>
      lastReply t == [0x0040, 0x7000]) = true := by decide +kernel

/-- R169: the rank table reads as 0x3012. -/
theorem test_configRead :
    gives (exec (.configRead 3) (ask State.reset 3 (req 8 [0x0100]))) (fun t =>
      lastReply t == [0x0041, 0x0000, 0x3012]) = true := by decide +kernel

/-- R169: a write of a read-only item is refused BAD_VALUE, code 7. -/
theorem test_configWriteOther :
    gives (exec (.configWriteOther 3) (ask State.reset 3 (write 12 0 [0]))) (fun t =>
      lastReply t == [0x0048, 0x7000]) = true := by decide +kernel

/-- Bus seat 0, with editor right. -/
def editorBus : State :=
  { State.reset with
    lbi := { State.reset.lbi with roster := State.reset.lbi.roster.update 0 fun e => { e with editor := true } } }

/-- R147: an editor bus seat's write of the rank table is refused NOT_EDITOR, code 10. -/
theorem test_configWriteRankTable_bus :
    gives (exec (.configWriteRankTable 0) (ask editorBus 0 (write 1 0 [0x0123]))) (fun t =>
      t.lbi.bus.replies.map (·.words) == [[0x0048, 0xA000]] && t.cmdt.ranks == State.reset.cmdt.ranks) = true := by
  decide +kernel

/-- `RightsAreRequired`: a bus seat with and without editor right, the item of each write, and the other requests. -/
theorem witness_RightsAreRequired :
    State.reset.editor 0 = false ∧ editorBus.editor 0 = true ∧ (0 : Seat) ≠ serviceSeat ∧ (1 : Seat) ≠ 0 ∧
    (write 1 0 []).kind = some .configWrite ∧
    (write 1 0 []).item = some .rankTable ∧
    (write 2 3 []).item = some (.root 3) ∧
    (write 3 1 []).item = some (.window 1) ∧
    (write 4 2 []).item = some (.rosterEntry 2) ∧
    (write 5 0 []).item = some .orphanLimit ∧
    (write 6 1 []).item = some (.eventMask 1) ∧
    (write 7 31 []).item = some (.staticLimits 31) ∧
    (write 8 31 []).item = some (.fallback 31) ∧
    (write 9 31 []).item = some (.defaultHold 31) ∧
    (write 10 23 []).item = some (.output (modCh 23)) ∧
    (write 10 31 []).item = some (.output (discCh 7)) ∧
    (write 13 63 []).item = some (.shutoff 63) ∧
    (write 14 23 []).item = some (.sensorSettings 23) ∧
    (write 15 1 []).item = some (.reference 1) ∧
    (write 16 48 []).item = some (.breakpoint 1 16) ∧
    (write 17 0 []).item = some .scanRange ∧
    (write 18 0 []).item = some .scanMode ∧
    (write 21 7 []).item = some (.pulseSettings 7) ∧
    (write 22 3 []).item = some (.circuitSensors 3) ∧
    (write 23 3 []).item = some (.circuitOutputs 3) ∧
    (write 24 3 []).item = some (.circuitFlow 3) ∧
    (write 25 3 []).item = some (.circuitThresholds 3) ∧
    (write 26 3 []).item = some (.circuitTimes 3) ∧
    (req 6 [0]).kind = some .dirRead ∧ (req 7 [0, 0, 0]).kind = some .dirWrite ∧ (req 12 [0]).kind = some .scan ∧
    (req 13 [0, 0]).kind = some .circuit ∧ (req 14 [0]).kind = some .releaseLockout ∧
    (req 15 [0]).kind = some .rearm := by decide +kernel

/-- `RightsAreRequired`: the forms of a FLUSH, the pair writes of each sort, and the forms of SCAN and CIRCUIT. -/
theorem witness_RightsAreRequired_forms :
    ((req 5 [0x0001, 0]).kind = some .flush ∧ (((req 5 [0x0001, 0]).word 0).extractLsb' 14 2).toNat = 0 ∧
      (((req 5 [0x0001, 0]).word 0).extractLsb' 0 4).toNat ≠ (0 : Seat).val ∧
      (((req 5 [0x4001, 0]).word 0).extractLsb' 14 2).toNat = 1 ∧
      (((req 5 [0x8001, 0]).word 0).extractLsb' 14 2).toNat = 2) ∧
    ((write 11 11 [1]).item = some (.pair 11) ∧ 2 ≤ (write 11 11 [1]).payload.length ∧
      (State.reset.odu.pairs.read 11).run = none ∧ (write 11 11 [1]).word 1 = 1 ∧ (write 11 11 [0]).word 1 ≠ 1 ∧
      ((withPair State.reset 11 (PairRun.formed 0 60)).odu.pairs.read 11).run ≠ none ∧
      (write 11 11 [0]).word 1 = 0) ∧
    (req 12 [1]).word 0 = 1 ∧ (req 12 [2]).word 0 = 2 ∧ (req 13 [0, 1]).word 1 = 1 := by decide +kernel

/-- `ServiceItemsAreReplaced`: one write of each item, at the ends of its ranges. -/
theorem witness_ServiceItemsAreReplaced :
    (2 ≤ (write 1 0 [0x3210]).payload.length ∧ [(3 : Seat), 2, 1, 0].Nodup ∧
      ((write 1 0 [0x3210]).word 1).toNat = 4096 * 3 + 256 * 2 + 16 * 1 + 0) ∧
    (3 ≤ (write 2 3 [254, 1]).payload.length ∧ ((write 2 3 [254, 1]).word 1).toNat ≤ 255 ∧
      ((write 2 3 [254, 1]).word 1).toNat % 2 = 0 ∧ (write 2 3 [254, 1]).word 2 = BitVec.ofNat 16 1) ∧
    (let r := write 3 1 [1, 31, 31, 15, 0]
     6 ≤ r.payload.length ∧ r.word 1 = BitVec.ofNat 16 1 ∧ (r.word 2).toNat ≤ 31 ∧ (r.word 3).toNat ≤ 31 ∧
       (r.word 4).toNat ≤ 15 ∧ r.word 5 = BitVec.ofNat 16 0) ∧
    (let r := write 4 2 [15, 1, 1]
     4 ≤ r.payload.length ∧ (r.word 1).toNat ≤ 15 ∧ r.word 2 = BitVec.ofNat 16 1 ∧ r.word 3 = BitVec.ofNat 16 1 ∧
       (r.word 1).toNat ≠ State.reset.lbi.station.toNat ∧
       (∀ o, o ≠ 2 → (State.reset.lbi.roster.read o).enabled = true →
         (State.reset.lbi.roster.read o).station.toNat ≠ (r.word 1).toNat) ∧
       (∀ c, (State.reset.record c).slot (seatOf 2) = none) ∧ State.reset.lbi.lines.read (seatOf 2) = [] ∧
       State.reset.lbi.service.read (seatOf 2) = none) ∧
    3 ≤ (write 6 0 [0xFFFF, 1]).payload.length ∧ (write 6 0 [0xFFFF, 1]).word 2 = BitVec.ofNat 16 1 := by
  decide +kernel

/-- `ServiceItemsAreReplaced`: a seat in use by a demand, by its line and by its request; a bus seat's own mask. -/
theorem witness_ServiceItemsAreReplaced_inUse :
    ((withRec State.reset 31 fun r => r.place 2 demand).record 31).slot (seatOf 2) ≠ none ∧
      (withLine State.reset 2 [.refusal 0 .busy]).lbi.lines.read (seatOf 2) ≠ [] ∧
      (ask State.reset 2 (req 1 [])).lbi.service.read (seatOf 2) ≠ none ∧
      (write 6 2 [0x0FFF, 1]).item = some (.eventMask 2) ∧ (write 6 2 [0x0FFF, 1]).kind = some .configWrite := by
  decide +kernel

/-- R145: an entry whose seat holds a demand is refused IN_USE, code 11, and stays. -/
theorem test_configWriteRosterEntry_inUse :
    gives (exec (.configWriteRosterEntry 3)
      (ask (withRec State.reset 31 fun r => r.place 2 demand) 3 (write 4 2 [15, 0, 0]))) (fun t =>
        lastReply t == [0x0048, 0xB000] && t.lbi.roster.read 2 == State.reset.lbi.roster.read 2) = true := by
  decide +kernel

/-- R7: seat 0 above seat 3 takes the channel. -/
theorem test_configWriteRankTable :
    gives (exec (.configWriteRankTable 3)
      (ask (withRec State.reset 4 fun r =>
        { (r.place 0 demand).place 3 { value := 100, hold := .untilReleased } with
          winner := some 3, arbitrated := 100, effective := 100 }) 3 (write 1 0 [0x0123])))
      (fun t => (t.record 4).winner == some 0 && (t.record 4).effective == 600) = true := by decide +kernel

/-- R28: an odd base is refused BAD_VALUE. -/
theorem test_configWriteRoot :
    gives (exec (.configWriteRoot 3) (ask State.reset 3 (write 2 0 [3, 1]))) (fun t =>
      lastReply t == [0x0048, 0x7000] && (t.pdir.roots.read 0).valid == false) = true := by decide +kernel

/-- R47: window 1. -/
theorem test_configWriteWindow :
    gives (exec (.configWriteWindow 3) (ask State.reset 3 (write 3 1 [1, 2, 3, 4, 1]))) (fun t =>
      t.pcache.windows.read 1 == { enable := true, zoneBase := 2, zoneMask := 3, seats := 4, guarded := true }) = true := by
  decide +kernel

/-- R145: an entry with a station that another enabled entry holds is refused BAD_VALUE. -/
theorem test_configWriteRosterEntry :
    gives (exec (.configWriteRosterEntry 3) (ask State.reset 3 (write 4 2 [1, 1, 0]))) (fun t =>
      lastReply t == [0x0048, 0x7000]) = true := by decide +kernel

/-- R161: a bus seat writes its own mask. -/
theorem test_configWriteEventMask :
    gives (exec (.configWriteEventMask 0) (ask State.reset 0 (write 6 0 [0x0FFF, 1]))) (fun t =>
      t.evu.masks.read 0 == 0xFFF && t.evu.attention.read 0) = true := by decide +kernel

/-- `ChannelSettingsAreHeldInUse`: values at the ends of their ranges, on a channel in use and on one free. -/
theorem witness_ChannelSettingsAreHeldInUse :
    State.reset.editor 3 = true ∧ State.reset.odu.oddMember 23 = false ∧
    (3 ≤ (write 7 23 [0, 1000]).payload.length ∧
      ((write 7 23 [0, 1000]).word 1).toNat ≤ ((write 7 23 [0, 1000]).word 2).toNat ∧
      ((write 7 23 [0, 1000]).word 2).toNat ≤ 1000) ∧
    (((write 8 23 [1, 1000]).word 1).toNat ≤ 1 ∧ ((write 8 23 [1, 1000]).word 2).toNat ≤ 1000) ∧
    (((write 9 23 [600]).word 1).toNat = 600 ∧ ((write 9 23 [1]).word 1).toNat = 1) ∧
    State.reset.settingsHeld 23 = false ∧
    (withRec State.reset 23 fun r => r.place 0 demand).settingsHeld 23 = true ∧
    ∀ q, (State.reset.record 23).slot q = none := by decide +kernel

/-- `ChannelSettingsAreHeldInUse`: 65535 in either field; limits that would then stand wrong way round, and right. -/
theorem witness_ChannelSettingsAreHeldInUse_kept :
    (write 7 23 [65535, 0]).word 1 = 65535#16 ∧ (State.reset.record 23).staticMin ≤ 0 ∧
      (write 7 23 [1000, 65535]).word 2 = 65535#16 ∧
      ((withRec State.reset 23 fun r => { r with staticMax := 999 }).record 23).staticMax < 1000 ∧
      (write 8 23 [65535, 65535]).word 1 = 65535#16 ∧ (write 8 23 [65535, 65535]).word 2 = 65535#16 := by decide +kernel

/-- R12, R169: 65535 keeps the maximum, and the limits as they would then stand are checked. -/
theorem test_configWriteStaticLimits_kept :
    gives (exec (.configWriteStaticLimits 3) (ask State.reset 3 (write 7 5 [1000, 65535]))) (fun t =>
      (t.record 5).staticMin == 1000 && (t.record 5).staticMax == 1000) = true ∧
    gives (exec (.configWriteStaticLimits 3)
      (ask (withRec State.reset 5 fun r => { r with staticMax := 999 }) 3 (write 7 5 [1000, 65535]))) (fun t =>
        lastReply t == [0x0048, 0x7000]) = true := by decide +kernel

/-- R12, R13: a static minimum raises the effective command. -/
theorem test_configWriteStaticLimits :
    gives (exec (.configWriteStaticLimits 3) (ask State.reset 3 (write 7 5 [200, 1000]))) (fun t =>
      (t.record 5).effective == 200 && (t.odu.mods.read 5).held == 200) = true := by decide +kernel

/-- R10: the fallback value becomes the effective command of a channel without demands. -/
theorem test_configWriteFallback :
    gives (exec (.configWriteFallback 3) (ask State.reset 3 (write 8 5 [0, 300]))) (fun t =>
      (t.record 5).effective == 300) = true := by decide +kernel

/-- R16: refused IN_USE, code 11, while a demand is live. -/
theorem test_configWriteDefaultHold :
    gives (exec (.configWriteDefaultHold 3)
      (ask (withRec State.reset 5 fun r => r.place 0 demand) 3 (write 9 5 [20]))) (fun t =>
        lastReply t == [0x0048, 0xB000] && (t.record 5).defaultHold == 10) = true := by decide +kernel

/-- `DriveItemsAreTaken`: a polarity of a lone channel and of the members of a pair; minimum times at their ends, with
a held change met, not met and shut off; periods at and beyond the ends. -/
theorem witness_DriveItemsAreTaken :
    State.reset.editor 3 = true ∧
    (let r := write 10 23 [1]
     2 ≤ r.payload.length ∧ r.word 1 = BitVec.ofNat 16 Polarity.activeLow.number ∧
       State.reset.odu.oddMember (modCh 23) = false ∧ State.reset.settingsHeld (modCh 23) = false ∧
       (withPair State.reset 11 (PairRun.formed 0 60)).odu.oddMember (modCh 23) = true ∧
       (withPair State.reset 11 (PairRun.formed 0 60)).odu.oddMember (modCh 22) = false) ∧
    (let r := write 10 31 [600, 600]
     3 ≤ r.payload.length ∧ (r.word 1).toNat ≤ 600 ∧ (r.word 2).toNat ≤ 600 ∧
       State.reset.settingsHeld (discCh 7) = false ∧ (State.reset.odu.discretes.read 7).held = none ∧
       let s := withDisc State.reset 7 fun d => { d with held := some true, time := 60000 }
       (s.odu.discretes.read 7).held = some true ∧ true ≠ (s.odu.discretes.read 7).on ∧
         s.shutOff (discCh 7) = false ∧ 100 * 600 ≤ (s.odu.discretes.read 7).time ∧
         (withOff s (discCh 7)).shutOff (discCh 7) = true ∧
         ((withDisc s 7 fun d => { d with time := 59999 }).odu.discretes.read 7).time < 100 * 600) ∧
    (100 ≤ ((write 0 0 [100]).word 1).toNat ∧ ((write 0 0 [4000]).word 1).toNat ≤ 4000 ∧
      ((write 0 0 [99]).word 1).toNat < 100 ∧ 4000 < ((write 0 0 [4001]).word 1).toNat) := by decide +kernel

/-- `DriveItemsAreTaken`: a channel held by a demand, and both channels of a pair that moves. -/
theorem witness_DriveItemsAreTaken_inUse :
    (withRec State.reset (discCh 7) fun r => r.place 0 demand).settingsHeld (discCh 7) = true ∧
      (let s := withPair State.reset 11 { PairRun.formed 0 60 with state := .waiting }
       s.settingsHeld (modCh 22) = true ∧ s.settingsHeld (modCh 23) = true ∧ s.settingsHeld (modCh 21) = false) := by
  decide +kernel

/-- A write of a group's period, which the frame names apart from its words (assumption 3). -/
def periodWrite (g : GroupNo) (w : Word) : Request :=
  { header := 0x004A, payload := [0, w], period := some (BitVec.ofNat 6 g.val) }

/-- It is in service. -/
theorem witness_DriveItemsAreTaken_period (g : GroupNo) (w : Word) :
    (ask State.reset 3 (periodWrite g w)).servesWrite 3 (.period g) (periodWrite g w) ∧
      2 ≤ (periodWrite g w).payload.length ∧ (periodWrite g w).word 1 = w :=
  have h : headerKind? 0x004A = some .configWrite := by decide
  have hi : (periodWrite g w).item = some (.period g) := by
    fin_cases g <;> rfl
  ⟨ask_writes State.reset 3 (r := periodWrite g w) h hi, Nat.le_refl 2, rfl⟩

/-- R118: an output polarity waits for the period end. -/
theorem test_configWriteOutputPolarity :
    gives (exec (.configWriteOutputPolarity 3) (ask State.reset 3 (write 10 23 [1]))) (fun t =>
      (t.odu.mods.read 23).polarity == .activeLow && (t.odu.mods.read 23).activePolarity == .activeHigh) = true := by
  decide +kernel

/-- R130: a shorter minimum lets a held change through. -/
theorem test_configWriteMinimumTimes :
    gives (exec (.configWriteMinimumTimes 3)
      (ask (withDisc State.reset 7 fun d => { d with held := some true, time := 150, minOff := 9 }) 3
        (write 10 31 [0, 1]))) (fun t =>
      (t.odu.discretes.read 7).on && (t.odu.discretes.read 7).time == 0) = true := by decide +kernel

/-- R116: a period at the end of its range goes to the buffer of its group. -/
theorem test_configWritePeriod (g : GroupNo) :
    let s := ask State.reset 3 (periodWrite g 100)
    exec (.configWritePeriod 3) s = .next ((s.bufferPeriod g 100).answer 3 (periodWrite g 100) .done []) :=
  congrArg Host.Outcome.next (State.onWrite_of_servesWrite
    (v := .accepted ((ask State.reset 3 (periodWrite g 100)).bufferPeriod g 100))
    (witness_DriveItemsAreTaken_period g 100).1 rfl)

/-- `PairItemsFormAndPart`: settings at the ends of their ranges, of a pair not formed; forming with both channels
driving, one shut off and both; dissolving with no cause, with a cause of channel 22's mask holding, and shut off. -/
theorem witness_PairItemsFormAndPart :
    let r (formed : Word) := write 11 11 [formed, 600, 50, 10000]
    let s := withPair State.reset 11 (PairRun.formed 0 60)
    State.reset.editor 3 = true ∧ (r 1).kind = some .configWrite ∧ (r 1).item = some (.pair 11) ∧
    5 ≤ (r 1).payload.length ∧ ((r 1).word 2).toNat = 600 ∧ ((r 1).word 3).toNat = 50 ∧
    ((r 1).word 4).toNat = 10000 ∧ 10000 % 10 = 0 ∧ State.reset.settingsHeld (evenCh 11) = false ∧
    (r 0).word 1 = (if (State.reset.odu.pairs.read 11).isFormed then 1#16 else 0#16) ∧
    ((r 1).word 1 = 1#16 ∧ (State.reset.odu.pairs.read 11).run = none ∧
      (∀ n, (State.reset.circuit n).lists (evenCh 11) = false ∧ (State.reset.circuit n).lists (oddCh 11) = false) ∧
      State.reset.shutOff (evenCh 11) = false ∧ State.reset.shutOff (oddCh 11) = false ∧
      (State.reset.record (oddCh 11)).live = false) ∧
    ((withOff State.reset (oddCh 11)).shutOff (oddCh 11) = true ∧
      (withOff State.reset (oddCh 11)).settingsHeld (evenCh 11) = false ∧
      (State.reset.record (evenCh 11)).live = false ∧
      (withOff (withOff State.reset (oddCh 11)) (evenCh 11)).shutOff (evenCh 11) = true ∧
      (withOff (withOff State.reset (oddCh 11)) (evenCh 11)).shutOff (oddCh 11) = true ∧
      (State.reset.shutoff (evenCh 11)).pair = .stop) ∧
    ((s.odu.pairs.read 11).isFormed = true ∧ s.settingsHeld (evenCh 11) = false ∧
      s.shutOff (evenCh 11) = false ∧ s.shutOff (oddCh 11) = false ∧
      (∀ c, (s.heldCauses c (s.shutoff c).mask).any = false) ∧ (withOff s (evenCh 11)).shutOff (evenCh 11) = true ∧
      (withOff s (evenCh 11)).settingsHeld (evenCh 11) = false) ∧
    (let u := withPair { emergencyMasked 22 with shu := { (emergencyMasked 22).shu with emergencyIn := true } } 11
       (PairRun.formed 0 60)
     u.shutOff (evenCh 11) = false ∧ (u.heldCauses 22 (u.shutoff 22).mask).any = true ∧ evenCh 11 = 22) := by
  decide +kernel

/-- `PairItemsFormAndPart`: a listed channel of the pair, a live demand of either, and a pair that moves. -/
theorem witness_PairItemsFormAndPart_refused :
    ((withCircuit State.reset 3 fun c => { c with fans := [23] }).circuit 3).lists (oddCh 11) = true ∧
      ((withRec State.reset 23 fun r => r.place 0 demand).record (oddCh 11)).slot 0 ≠ none ∧
      (let s := withPair State.reset 11 { PairRun.formed 0 60 with state := .waiting }
       (s.odu.pairs.read 11).isFormed = true ∧ s.settingsHeld (evenCh 11) = true) := by decide +kernel

/-- R17: forming over a listed channel is refused BAD_VALUE, over a live demand IN_USE. -/
theorem test_pairForm_refused :
    gives (exec (.pairForm 3) (ask (withCircuit State.reset 3 fun c => { c with fans := [23] }) 3
      (write 11 11 [1, 600, 10, 1000]))) (fun t => lastReply t == [0x0048, 0x7000]) = true ∧
    gives (exec (.pairForm 3) (ask (withRec State.reset 23 fun r => r.place 0 demand) 3
      (write 11 11 [1, 600, 10, 1000]))) (fun t => lastReply t == [0x0048, 0xB000]) = true := by decide +kernel

/-- R140: a pair formed over a shut-off channel with DRIVE_OPEN starts its UNSYNCED safe drive, the odd latch DRIVING; a
shut-off pair dissolved leaves both channels shut off, channel 22's pin HIGH. -/
theorem test_pair_shutOff :
    (let s := withOff State.reset 23
     let s := { s with shu := { s.shu with records := s.shu.records.update 22 fun r => { r with pair := .drive .opening } } }
     gives (exec (.pairForm 3) (ask s 3 (write 11 11 [1, 600, 10, 1000]))) (fun t =>
       (t.odu.pairs.read 11).run.map (fun p => (p.state, p.left)) == some (.safeDriving .opening, 66000) &&
         t.shutOff 22 && !t.shutOff 23)) = true ∧
    gives (exec (.pairDissolve 3) (ask (withPair (withOff (emergencyMasked 22) 22) 11
        { PairRun.formed 0 60 with state := .safeRest }) 3 (write 11 11 [0, 600, 10, 1000]))) (fun t =>
      t.shutOff 22 && t.shutOff 23 && t.pinLevel 22 && !t.pinLevel 23 && t.evu == State.reset.evu) = true := by
  decide +kernel

/-- R119: the settings of a pair. -/
theorem test_configWritePair :
    gives (exec (.configWritePair 3) (ask State.reset 3 (write 11 5 [0, 120, 5, 500]))) (fun t =>
      t.odu.pairs.read 5 == { stroke := 120, deadband := 5, deadTime := 500, run := none }) = true := by decide +kernel

/-- R120, R128: a pair formed with its effective command beyond the deadband syncs: 1.1 strokes of closing drive. -/
theorem test_pairForm :
    gives (exec (.pairForm 3) (ask (withRec State.reset 10 fun r =>
        { r with fallbackValue := 300, arbitrated := 300, effective := 300 }) 3 (write 11 5 [1, 120, 5, 500])))
      (fun t => (t.odu.pairs.read 5).run.map (fun p => (p.state, p.target, p.left)) == some (.syncing, 300, 13200)) =
        true := by decide +kernel

/-- R121: dissolved, both pins stand at the inactive level. -/
theorem test_pairDissolve :
    gives (exec (.pairDissolve 3) (ask (withPair State.reset 5 (PairRun.formed 0 60)) 3 (write 11 5 [0, 120, 5, 500])))
      (fun t => !(t.odu.pairs.read 5).isFormed && (t.odu.mods.read 10).forced == some false &&
        (t.odu.mods.read 11).forced == some false) = true := by decide +kernel

/-- `ShutoffWriteJudgesTheMask`: a mask, a line and a pair action of an even channel; a channel listed as a fan. -/
theorem witness_ShutoffWriteJudgesTheMask :
    let r := write 13 22 [4, 2, 2]
    State.reset.editor 3 = true ∧ r.kind = some .configWrite ∧ r.item = some (.shutoff 22) ∧
    (22 : Fin 64).val = (22 : OutCh).val ∧ State.reset.odu.oddMember 22 = false ∧ 4 ≤ r.payload.length ∧
    r.word 2 = BitVec.ofNat 16 LineAction.hold.number ∧
    r.word 3 = BitVec.ofNat 16 (PairAction.drive .closing).number ∧
    (PairAction.drive .closing ≠ .stop → (22 : OutCh).val < 24 ∧ (22 : OutCh).val % 2 = 0) ∧
    (r.word 1).getLsbD 0 = false ∧
    (22 : OutCh) ∈ ((withCircuit State.reset 3 fun c => { c with fans := [22] }).circuit 3).fans ∧
    (∀ n, (22 : OutCh) ∉ (State.reset.circuit n).fans) ∧ ((write 13 22 [1, 2, 2]).word 1).getLsbD 0 = true := by
  decide +kernel

/-- `ShutoffWriteJudgesTheMask`: a driving channel that the mask does not catch; a shut-off channel alone and the even
channel of a pair, each with the action in use changed and kept. -/
theorem witness_ShutoffWriteJudgesTheMask_off :
    let s := withOff State.reset 22
    let u := withPair s 11 { PairRun.formed 0 60 with state := .safeRest }
    (State.reset.heldCauses 22 { frostTrip := false, orphan := false, emergency := true }).any = false ∧
      State.reset.shutOff 22 = false ∧ s.shutOff 22 = true ∧ s.odu.member 22 = false ∧
      (s.shutoff 22).line ≠ .high ∧ (s.shutoff 22).line = .low ∧
      u.shutOff 22 = true ∧ u.odu.member 22 = true ∧ u.odu.oddMember 22 = false ∧
      (u.shutoff 22).pair ≠ .drive .closing ∧ (u.shutoff 22).pair = .stop := by decide +kernel

/-- R134: a fan keeps FROST_TRIP in its mask, and the write is taken. -/
theorem test_configWriteShutoff_fan :
    gives (exec (.configWriteShutoff 3)
      (ask (withCircuit (fanMasked 7) 3 fun c => { c with fans := [7] }) 3 (write 13 7 [3, 1, 0])))
      (fun t => lastReply t == [0x0048, 0x0000] &&
        (t.shutoff 7).mask == { frostTrip := true, orphan := true, emergency := false }) = true := by decide +kernel

/-- R134, R136: the new mask names EMERGENCY, which is asserted: the channel is shut off, its pin high. -/
theorem test_configWriteShutoff :
    gives (exec (.configWriteShutoff 3)
      (ask { State.reset with shu := { State.reset.shu with emergencyIn := true } } 3 (write 13 7 [4, 1, 0])))
      (fun t => t.shutOff 7 && t.pinLevel 7 && !t.pinLevel 6 && t.flag 1 .shutoff == .fresh) = true := by decide +kernel

/-- `MeasurementItemsAreTaken`: each item at the ends of its range, with the scan stopped and running. -/
theorem witness_MeasurementItemsAreTaken :
    State.reset.editor 3 = true ∧ State.reset.smu.running = none ∧
    (let r := write 14 23 [1, 1, 1, 4]
     5 ≤ r.payload.length ∧ r.word 1 = BitVec.ofNat 16 (if true = true then 1 else 0) ∧
       r.word 2 = BitVec.ofNat 16 (1 : Fin 2).val ∧ r.word 3 = BitVec.ofNat 16 (1 : Fin 2).val ∧
       r.word 4 = BitVec.ofNat 16 (4 : Fin 5).val) ∧
    (((write 15 1 [4096]).word 1).toNat = 4096 ∧ ((write 15 1 [255]).word 1).toNat = 255) ∧
    2 ≤ (write 16 48 [0x8000]).payload.length ∧
    (let s := converting .reference
     s.smu.conversion.isSome = true ∧ s.smu.running ≠ none) ∧
    (((write 17 0 [23, 23]).word 1) = BitVec.ofNat 16 (23 : SensorCh).val ∧
      ((write 17 0 [23, 0]).word 2) = BitVec.ofNat 16 (0 : SensorCh).val ∧ ¬(23 : SensorCh) ≤ 0) ∧
    (write 18 0 [1]).word 1 = BitVec.ofNat 16 (if true = true then 1 else 0) := by decide +kernel

/-- R64: a shift of 5 is out of range. -/
theorem test_configWriteSensorSettings :
    gives (exec (.configWriteSensorSettings 3) (ask State.reset 3 (write 14 9 [1, 0, 1, 5]))) (fun t =>
      lastReply t == [0x0048, 0x7000] && !(t.smu.settings.read 9).enabled) = true := by decide +kernel

/-- A CONTINUOUS scan that waits for an enabled channel. -/
def scanWaiting : State := { State.reset with smu := { State.reset.smu with running := some .continuous } }

/-- `MeasurementItemsAreTaken`: it runs without a conversion; enabled by a write, channel 9 is the lowest of the range. -/
theorem witness_MeasurementItemsAreTaken_chooses :
    scanWaiting.smu.running = some .continuous ∧ scanWaiting.smu.conversion = none ∧
      (enabled 9).smu.rangeStart ≤ 9 ∧ 9 ≤ (enabled 9).smu.rangeEnd ∧ ((enabled 9).smu.settings.read 9).enabled = true ∧
      ∀ d : SensorCh, d < 9 → ((enabled 9).smu.settings.read d).enabled = false := by decide +kernel

/-- R78: the write that enables a channel begins the waiting scan's pass, by the new settings. -/
theorem test_configWriteSensorSettings_chooses :
    gives (exec (.configWriteSensorSettings 3) (ask scanWaiting 3 (write 14 9 [1, 1, 0, 4]))) (fun t =>
      t.smu.conversion.map (fun v => (v.channel, v.reference, v.shift)) == some (9, 1, 4)) = true := by decide +kernel

/-- R65. -/
theorem test_configWriteReference :
    gives (exec (.configWriteReference 3) (ask State.reset 3 (write 15 1 [256]))) (fun t =>
      t.smu.cycles.read 1 == 256 && t.smu.cycles.read 0 == 1024) = true := by decide +kernel

/-- R70: index 33 is breakpoint 1 of table 1; 0xFFFF is −0.01 °C. -/
theorem test_configWriteBreakpoint :
    gives (exec (.configWriteBreakpoint 3) (ask State.reset 3 (write 16 33 [0xFFFF]))) (fun t =>
      (t.smu.tables.read 1).read 1 == -1 && (t.smu.tables.read 0).read 1 == 0) = true := by decide +kernel

/-- R77: a start above the end is refused. -/
theorem test_configWriteScanRange :
    gives (exec (.configWriteScanRange 3) (ask State.reset 3 (write 17 0 [5, 4]))) (fun t =>
      lastReply t == [0x0048, 0x7000] && t.smu.rangeEnd == 23) = true := by decide +kernel

/-- R77. -/
theorem test_configWriteScanMode :
    gives (exec (.configWriteScanMode 3) (ask State.reset 3 (write 18 0 [1]))) (fun t =>
      t.smu.modeItem == .single) = true := by decide +kernel

/-- `CircuitItemsAreTakenWhileDisabled`: a circuit in WATCH and one DISABLED, and each item at the ends of its ranges. -/
theorem witness_CircuitItemsAreTakenWhileDisabled :
    State.reset.editor 3 = true ∧
    ((withCircuit State.reset 3 fun c => { c with stage := .level .watch }).circuit 3).stage ≠ .disabled ∧
    (State.reset.circuit 3).stage = .disabled ∧
    (let r := write 22 3 [0x00F0, 0x0000]
     3 ≤ r.payload.length ∧ (r.word 1).toNat ≤ 255 ∧ [(20 : SensorCh), 21, 22, 23] =
       (List.finRange 24).filter (fun c => (65536 * (r.word 1).toNat + (r.word 2).toNat).testBit c.val)) ∧
    (let r := write 25 3 [0xE890, 3000, 2999, 2949, 300]
     6 ≤ r.payload.length ∧ (r.word 1).toInt = -6000 ∧ (r.word 2).toNat ≤ 3000 ∧
       (r.word 3).toNat < (r.word 2).toNat ∧ (r.word 4).toNat + 50 ≤ (r.word 3).toNat ∧ (r.word 5).toNat ≤ 300) ∧
    (let r := write 26 3 [1000, 10, 600]
     4 ≤ r.payload.length ∧ (r.word 1).toNat = 1000 ∧ (r.word 2).toNat = 10 ∧ (r.word 3).toNat = 600) ∧
    (4 ≤ (write 24 3 [65535, 0, 0]).payload.length ∧ (write 24 3 [65535, 0, 0]).word 1 = 65535#16 ∧
      State.reset.piu.proven.read 3 = true) ∧
    (let r := write 24 3 [7, 0xF, 0xFFFF]
     r.word 1 = BitVec.ofNat 16 (7 : PulseCh).val ∧ 65536 * (r.word 2).toNat + (r.word 3).toNat = 1048575) := by
  decide +kernel

/-- `CircuitItemsAreTakenWhileDisabled`: a circuit whose proof is lost, from which the flow channel is taken. -/
theorem witness_CircuitItemsAreTakenWhileDisabled_lost :
    let s := { State.reset with piu := { State.reset.piu with proven := State.reset.piu.proven.write 3 false } }
    s.piu.proven.read 3 = false ∧ (s.circuit 3).stage = .disabled := by decide +kernel

/-- A power-on part: no circuit takes its flow from any channel, and none guards one. -/
theorem witness_noFlow (n : CircuitNo) (ch : PulseCh) (p : Nat) : (State.reset.circuit n).flow ≠ some (ch, p) := by
  have h : ∀ n, (State.reset.circuit n).flow = none := by decide +kernel
  simp [h n]

/-- R91, R95: a circuit that gains a flow channel without a period loses its proof: FLOW is raised. -/
theorem test_configWriteCircuitFlow :
    gives (exec (.configWriteCircuitFlow 3) (ask State.reset 3 (write 24 3 [7, 0, 1]))) (fun t =>
      (t.circuit 3).flow == some (7, 1) && !(t.circuit 3).proven && !t.piu.proven.read 3 && t.flag 0 .flow == .fresh) =
        true := by decide +kernel

/-- R96: a sensor that another circuit guards is refused. -/
theorem test_configWriteCircuitSensors :
    gives (exec (.configWriteCircuitSensors 3)
      (ask (withCircuit State.reset 0 fun c => { c with guardSet := [4] }) 3 (write 22 3 [0, 0x10]))) (fun t =>
        lastReply t == [0x0048, 0x7000]) = true := by decide +kernel

/-- R97: M_act less than 0.50 above M_trip is refused. -/
theorem test_configWriteCircuitThresholds :
    gives (exec (.configWriteCircuitThresholds 3) (ask State.reset 3 (write 25 3 [0, 300, 149, 100, 0]))) (fun t =>
      lastReply t == [0x0048, 0x7000]) = true := by decide +kernel

/-- R97: a trip dwell of 3601 s is refused. -/
theorem test_configWriteCircuitTimes :
    gives (exec (.configWriteCircuitTimes 3) (ask State.reset 3 (write 26 3 [0, 3601, 60]))) (fun t =>
      lastReply t == [0x0048, 0x7000]) = true := by decide +kernel

/-- `CircuitOutputsSetTheRoles`: fan 4, bypass 6 and pump 24, with and without FROST_TRIP in the fan's mask; a channel
for each other check of R96. -/
theorem witness_CircuitOutputsSetTheRoles :
    let r := write 23 2 [0, 0x10, 6, 0x0100, 0]
    State.reset.editor 3 = true ∧ r.kind = some .configWrite ∧ r.item = some (.circuitOutputs 2) ∧
    (State.reset.circuit 2).stage = .disabled ∧ ¬r.payload.length < 6 ∧
    (65536 * (r.word 1).toNat + (r.word 2).toNat).testBit (4 : OutCh).val = true ∧
    (r.word 3).toNat = (6 : OutCh).val ∧
    (65536 * (r.word 4).toNat + (r.word 5).toNat).testBit (24 : OutCh).val = true ∧
    (State.reset.shutoff 4).mask.frostTrip = false ∧ ((fanMasked 4).shutoff 4).mask.frostTrip = true ∧
    ((withPair State.reset 2 (PairRun.formed 0 60)).odu.pairs.read 2).run ≠ none ∧ evenCh 2 = 4 ∧ oddCh 2 = 5 ∧
    (4 : OutCh) ∈ ((withCircuit State.reset 3 fun c => { c with fans := [4] }).circuit 3).fans ∧
    2 ^ 24 ≤ 65536 * (0x0100#16).toNat ∧ 24 ≤ (24#16).toNat ∧ (24#16).toNat ≠ 65535 := by decide +kernel

/-- R96: a write is refused BAD_VALUE for a channel listed twice, a member of a formed pair, and another circuit's. -/
theorem test_configWriteCircuitOutputs_refused :
    gives (exec (.configWriteCircuitOutputs 3) (ask (fanMasked 4) 3 (write 23 2 [0, 0x10, 4, 0, 0]))) (fun t =>
      lastReply t == [0x0048, 0x7000]) = true ∧
    gives (exec (.configWriteCircuitOutputs 3) (ask (withPair (fanMasked 4) 2 (PairRun.formed 0 60)) 3
      (write 23 2 [0, 0x10, 65535, 0, 0]))) (fun t => lastReply t == [0x0048, 0x7000]) = true ∧
    gives (exec (.configWriteCircuitOutputs 3) (ask (withCircuit (fanMasked 4) 3 fun c => { c with pumps := [4] }) 3
      (write 23 2 [0, 0x10, 65535, 0, 0]))) (fun t => lastReply t == [0x0048, 0x7000]) = true := by decide +kernel

/-- R95: the roles. -/
theorem test_configWriteCircuitOutputs :
    gives (exec (.configWriteCircuitOutputs 3) (ask (fanMasked 4) 3 (write 23 2 [0, 0x10, 6, 0x0100, 0]))) (fun t =>
      (t.record 4).role == .fan && (t.record 6).role == .bypass && (t.record 24).role == .pump &&
        (t.record 24).circuit == some 2 && (t.record 5).role == .none) = true := by decide +kernel

/-! ### Sensor measurement and pulse inputs -/

/-- `ScanRequestsAct`: channel 23 alone enabled, and no channel enabled; a running scan. -/
theorem witness_ScanRequestsAct :
    let s := enabled 23
    State.reset.editor 3 = true ∧ (req 12 [0]).kind = some .scan ∧
    (s.smu.rangeStart ≤ 23 ∧ 23 ≤ s.smu.rangeEnd ∧ (s.smu.settings.read 23).enabled = true ∧
      (∀ c', s.smu.rangeStart ≤ c' → c' < 23 → (s.smu.settings.read c').enabled = false) ∧ s.smu.running = none) ∧
    ((req 12 [0]).word 0 = 0#16 ∧ (req 12 [1]).word 0 = 1#16 ∧ (req 12 [2]).word 0 = 2#16) ∧
    (∀ c, (State.reset.smu.settings.read c).enabled = false) ∧ State.reset.smu.modeItem = .continuous ∧
    (converting .reference).smu.running ≠ none := by decide +kernel

/-- R66, R78: a pass begins at the lowest enabled channel. -/
theorem test_scanStart :
    gives (exec (.scanStart 3) (ask (enabled 23) 3 (req 12 [0]))) (fun t =>
      t.smu.running == some .continuous && t.smu.conversion.map (fun v => (v.channel, v.cycles)) == some (23, 1024)) =
        true := by decide +kernel

/-- R78: SCAN SINGLE that finds no enabled channel stops at once. -/
theorem test_scanSingle :
    gives (exec (.scanSingle 3) (ask State.reset 3 (req 12 [1]))) (fun t =>
      t.smu.running == none && lastReply t == [0x0060, 0x0000]) = true := by decide +kernel

/-- R80: SCAN STOP abandons the conversion. -/
theorem test_scanStop :
    gives (exec (.scanStop 3) (ask (converting .reference) 3 (req 12 [2]))) (fun t =>
      t.smu.running == none && t.smu.conversion == none) = true := by decide +kernel

/-- `PhasesEndConversions`: a conversion in either phase, and counts where the clauses meet. -/
theorem witness_PhasesEndConversions :
    ((converting .reference).smu.conversion.map (fun v => (v.channel, v.phase)) = some (23, .reference) ∧
      ∀ n, (23 : SensorCh) ∉ ((converting .reference).circuit n).guardSet) ∧
    (1000 ≤ (1000#24).toNat ∧ (16777214#24).toNat < 16777215 ∧ (999#24).toNat < 1000 ∧
      (16777215#24).toNat = 16777215) ∧
    (converting (.sensor 1000)).smu.conversion.map (·.phase) = some (.sensor 1000) ∧
    2048 ≤ (63#24).toNat * 32768 / 1000 ∧ (1999#24).toNat * 32768 / 1000 ≤ 65535 ∧
    1000 ≤ (1000#24).toNat ∧
    ∀ m, (23 : SensorCh) ∈ ((withCircuit (converting .reference) 3 fun c => { c with guardSet := [23] }).circuit
      m).guardSet ↔ m = 3 := by decide +kernel

/-- `PhasesEndConversions`: counts of the sensor phase that end SHORT, OPEN by the ratio and OPEN by the overflow. -/
theorem witness_PhasesEndConversions_bad :
    (62#24).toNat * 32768 / 1000 < 2048 ∧ 65535 < (2000#24).toNat * 32768 / 1000 ∧ (62#24).toNat ≠ 16777215 ∧
      (2000#24).toNat ≠ 16777215 ∧ (16777215#24).toNat = 16777215 := by decide +kernel

/-- R99, R100: the first result of a circuit's guard channel leads to its evaluation: temperature 0, margin 0, TRIP. -/
theorem test_sensorPhaseEnd_guarded :
    gives (exec (.sensorPhaseEnd 1000) (withCircuit (converting (.sensor 1000)) 3 fun c =>
        { c with guardSet := [23], stage := .level .watch })) (fun t =>
      (t.circuit 3).margin == some 0 && (t.circuit 3).stage == .level .trip && (t.circuit 3).dwellLeft == some 60000) =
      true := by decide +kernel

/-- `PhasesEndConversions`: a scan whose next channel lies above, and one with none left, in each mode. -/
theorem witness_PhasesEndConversions_next :
    let two : Smu := { (enabled 23).smu with settings := (enabled 23).smu.settings.update 7 fun g => { g with enabled := true } }
    (two.rangeStart ≤ 23 ∧ 7 + 1 ≤ (23 : SensorCh).val ∧ (two.settings.read 23).enabled = true ∧
      (∀ d : SensorCh, 8 ≤ d.val → d < 23 → (two.settings.read d).enabled = false)) ∧
    (∀ d : SensorCh, 24 ≤ d.val → (two.settings.read d).enabled = false) ∧
    (converting .reference).smu.running = some .continuous := by decide +kernel

/-- R67: T_ref of 999 is a REF_FAULT; the scan goes on with the same, only, channel. -/
theorem test_referencePhaseEnd :
    gives (exec (.referencePhaseEnd 999) (converting .reference)) (fun t =>
      (t.smu.results.read 23).tRef == 999 && (t.smu.results.read 23).badRun == 1 &&
        (t.smu.results.read 23).validity == .notYet && t.smu.conversion.isSome) = true := by decide +kernel

/-- R69, R73: equal counts give Q = 32768, VALID at once, and SENSOR is raised. -/
theorem test_sensorPhaseEnd :
    gives (exec (.sensorPhaseEnd 1000) (converting (.sensor 1000))) (fun t =>
      (t.smu.results.read 23).ratio == 32768 && (t.smu.results.read 23).validity == .valid &&
        (t.smu.results.read 23).samples == 1 && t.flag 3 .sensor == .fresh) = true := by decide +kernel

/-- `TemperatureInterpolates`: the last segment, to its last ratio. -/
theorem witness_TemperatureInterpolates :
    65535 ≤ 65535 ∧ 65535 / 4096 = (15 : Fin 16).val ∧
      ∀ i, -32768 ≤ (State.reset.smu.tables.read 0).read i ∧ (State.reset.smu.tables.read 0).read i ≤ 32767 := by
  decide +kernel

/-- R71: between −10 and −11, three quarters of a step down rounds toward negative infinity. -/
theorem test_linearize : linearize (Bank.fill fun i => -10 - i.val) 3072 = -11 := by decide +kernel

/-- `ValidityFollowsTheRun`: a good conversion with a VALID and another channel, bad ones of both kinds at each run. -/
theorem witness_ValidityFollowsTheRun :
    SensorResult.powerOn.validity ≠ .valid ∧ ({ SensorResult.powerOn with validity := .valid }).validity = .valid ∧
    (∀ a b q, ConversionOutcome.refFault 5 ≠ .good a b q) ∧ (∀ a b q, ConversionOutcome.short 1000 1 32 ≠ .good a b q) ∧
    SensorResult.powerOn.badRun ≤ 3 ∧ SensorResult.powerOn.badRun < 2 ∧
    2 ≤ ({ SensorResult.powerOn with badRun := 3 }).badRun ∧
    (∀ a b q, ConversionOutcome.refFault 5 ≠ .short a b q) := by
  refine ⟨by decide, rfl, by simp, by simp, by decide, by decide, by decide, by simp⟩

/-- R74: the third SHORT in a row sets SHORT. -/
theorem test_badRun :
    (SensorResult.complete (Bank.fill fun _ => 0) 0 (.short 1000 1 32)
      { SensorResult.powerOn with validity := .valid, badRun := 2 }).validity = .short := by decide +kernel

/-- `EdgesTimeoutsAndPulseSettings`: a channel disabled, starting and timing; ages and timeouts where the clauses meet. -/
theorem witness_EdgesTimeoutsAndPulseSettings :
    (State.reset.piu.channels.read 7).enabled = false ∧
    (let p := (pulsing 100).piu.channels.read 7
     p.enabled = true ∧ p.timing = true ∧ 0 < min 1048575 (p.counter + 2000) ∧
       1000 * p.spacing ≤ min 1048575 (p.counter + 2000) ∧ min 1048575 (p.counter + 1999) < 1000 * p.spacing ∧
       p.age = some 100 ∧ p.timeout ≤ 10 * 100) ∧
    ((pulsing 99).piu.channels.read 7).age = some 99 ∧
    (State.reset.piu.channels.read 7).timing = false ∧
    (let r := write 21 7 [1, 50, 1000]
     r.kind = some .configWrite ∧ r.item = some (.pulseSettings 7) ∧ State.reset.editor 3 = true ∧
       4 ≤ r.payload.length ∧ r.word 1 = BitVec.ofNat 16 (if true = true then 1 else 0) ∧ (r.word 2).toNat ≤ 50 ∧
       100 ≤ (r.word 3).toNat ∧ (r.word 3).toNat ≤ 10000 ∧ (r.word 3).toNat % 10 = 0 ∧
       true ≠ (State.reset.piu.channels.read 7).enabled ∧ true = ((pulsing 99).piu.channels.read 7).enabled ∧
       10 * 99 < (r.word 3).toNat ∧ (r.word 3).toNat ≤ 10 * 100 ∧
       10 * 99 + 10 ≤ ((pulsing 99).piu.channels.read 7).timeout) ∧
    (false ≠ ((pulsing 99).piu.channels.read 7).enabled ∧
      (write 21 7 [0, 50, 1000]).word 1 = BitVec.ofNat 16 (if false = true then 1 else 0)) := by decide +kernel

/-- `EdgesTimeoutsAndPulseSettings`: an edge that finds the counter at 0. -/
theorem witness_EdgesTimeoutsAndPulseSettings_zero :
    let p := (pulsing 100).piu.channels.read 7
    p.enabled = true ∧ p.timing = true ∧ min 1048575 (p.counter + 0) = 0 := by decide +kernel

/-- Circuit 3 takes its flow from pulse channel 7, at most 6000 µs, and runs in a stage. -/
def flowing (stage : Stage) (proven : Bool) : State :=
  let s := withCircuit (pulsing 1) 3 fun c =>
    { c with guardSet := [4], flow := some (7, 6000), stage := stage, proven := proven,
             graceLeft := if proven then none else some 5 }
  { s with piu := { s.piu with proven := s.piu.proven.write 3 proven } }

/-- `EdgesTimeoutsAndPulseSettings`: a channel that one circuit names; proofs that stay and change, each way, of a circuit
enabled and DISABLED. -/
theorem witness_EdgesTimeoutsAndPulseSettings_judged :
    (∀ m, ((flowing .disabled true).circuit m).flow = if m = 3 then some (7, 6000) else none) ∧
    ((flowing .disabled true).piu.channels.read 7).period = none ∧ (flowing .disabled true).piu.proven.read 3 = true ∧
    (flowing .disabled false).piu.proven.read 3 = false ∧ ((flowing .disabled true).circuit 3).stage = .disabled ∧
    ((flowing (.level .watch) true).circuit 3).stage ≠ .disabled ∧
    ((after (flowing (.level .watch) false) (.pulseRisingEdge 7 6000)).piu.channels.read 7).period = some 6000 := by
  decide +kernel

/-- R92, R103: the proof regained cancels the grace and raises FLOW; an edge too late for it leaves the loss. -/
theorem test_pulseRisingEdge_proof :
    gives (exec (.pulseRisingEdge 7 6000) (flowing (.level .act) false)) (fun t =>
      t.piu.proven.read 3 && (t.circuit 3).proven && (t.circuit 3).graceLeft == none && t.flag 0 .flow == .fresh &&
        (t.circuit 3).stage == .level .watch) = true ∧
    gives (exec (.pulseRisingEdge 7 6001) (flowing (.level .act) false)) (fun t =>
      !t.piu.proven.read 3 && (t.circuit 3).graceLeft == some 5 && t.flag 0 .flow == .clear) = true := by decide +kernel

/-- The pulse states' circuits name no flow channel. -/
theorem witness_EdgesTimeoutsAndPulseSettings_flow (a : Nat) (n : CircuitNo) (p : Nat) :
    ((pulsing a).circuit n).flow ≠ some (7, p) := witness_noFlow n 7 p

/-- R87: the period is the time since the last edge. -/
theorem test_pulseRisingEdge :
    gives (exec (.pulseRisingEdge 7 5000) (pulsing 1)) (fun t =>
      let p := t.piu.channels.read 7
      p.period == some 5000 && p.counter == 0 && p.age == some 0) = true := by decide +kernel

/-- R88: the timeout takes the period away. -/
theorem test_pulseTimeoutExpiry :
    gives (exec (.pulseTimeoutExpiry 7) (pulsing 100)) (fun t =>
      let p := t.piu.channels.read 7
      p.period == none && !p.timing && p.age == some 100) = true := by decide +kernel

/-- R85: a spacing of 51 ms is refused. -/
theorem test_configWritePulseSettings :
    gives (exec (.configWritePulseSettings 3) (ask State.reset 3 (write 21 7 [1, 51, 1000]))) (fun t =>
      lastReply t == [0x0048, 0x7000]) = true := by decide +kernel

/-! ### The freeze guard -/

/-- `MarginStageRelaxesByThresholds`: the power-on thresholds; a margin for each clause, at its thresholds. -/
theorem witness_MarginStageRelaxesByThresholds :
    let c : Circuit := { Circuit.powerOn with hysteresis := 50 }
    c.mTrip < c.mAct ∧ c.mAct < c.mWatch ∧ Level.clear.rank < Level.watch.rank ∧
    Level.act.rank ≤ ({ c with marginStage := .trip }).marginStage.rank ∧ (149 : Int) < c.mTrip + c.hysteresis ∧
    c.mTrip + c.hysteresis ≤ (150 : Int) ∧ (249 : Int) < c.mAct + c.hysteresis ∧
    (349 : Int) < c.mWatch + c.hysteresis ∧ c.mWatch + c.hysteresis ≤ (350 : Int) ∧ 0 ≤ c.hysteresis := by
  decide +kernel

/-- R102: from TRIP a margin of 2.49 relaxes to ACT alone; one of 3.50 to CLEAR. -/
theorem test_marginStage :
    let c : Circuit := { Circuit.powerOn with hysteresis := 50, marginStage := .trip }
    c.nextMarginStage (some 149) = .trip ∧ c.nextMarginStage (some 249) = .act ∧
      c.nextMarginStage (some 350) = .clear := by decide +kernel

/-- `GuardTimersRunOut`: a grace and a dwell that have run out. -/
theorem witness_GuardTimersRunOut :
    (let c := (withCircuit State.reset 3 fun c =>
        { c with stage := .level .act, graceLeft := some 0, proven := false }).circuit 3
     c.stage ≠ .disabled ∧ c.graceLeft = some 0 ∧ c.proven = false ∧ c.stage ≠ .lockout) ∧
    (let c := (withCircuit State.reset 3 fun c => { c with stage := .level .trip, dwellLeft := some 0 }).circuit 3
     c.stage = .level .trip ∧ c.dwellLeft = some 0) := by decide +kernel

/-- `GuardTimersRunOut`: timers at their last step, with two left and not running, and a DISABLED circuit. -/
theorem witness_GuardTimersRunOut_left :
    let left (n : Option Nat) := (withCircuit State.reset 3 fun c =>
      { c with stage := .level .trip, graceLeft := n, dwellLeft := n }).circuit 3
    ((left (some 1)).graceLeft = some 1 ∧ (left (some 1)).dwellLeft = some 1 ∧ (left (some 1)).stage = .level .trip) ∧
      ((left (some 2)).graceLeft = some 2 ∧ (left (some 2)).dwellLeft ≠ some 1) ∧ (left none).dwellLeft = none ∧
      (State.reset.circuit 3).stage = .disabled ∧ (State.reset.circuit 3).stage ≠ .level .trip := by decide +kernel

/-- R104: proof still lost at the end of the grace is TRIP, and the trip dwell starts. -/
theorem test_flowGraceExpiry :
    gives (exec (.flowGraceExpiry 3) (withCircuit State.reset 3 fun c =>
        { c with guardSet := [4], stage := .level .act, graceLeft := some 0, proven := false })) (fun t =>
      (t.circuit 3).stage == .level .trip && (t.circuit 3).dwellLeft == some 60000 &&
        t.flag 0 (.stage 3) == .fresh) = true := by decide +kernel

/-- R106: the dwell runs out to LOCKOUT. -/
theorem test_tripDwellExpiry :
    gives (exec (.tripDwellExpiry 3) (withCircuit State.reset 3 fun c =>
        { c with stage := .level .trip, dwellLeft := some 0 })) (fun t =>
      (t.circuit 3).stage == .lockout && t.flag 2 .lockout == .fresh) = true := by decide +kernel

/-- A part whose circuit 3 lists fan 4, its mask naming FROST_TRIP, in WATCH with its bounds handed. -/
def guarding (stage : Stage) : State :=
  withRec
    (withCircuit (fanMasked 4) 3 fun c =>
      { c with guardSet := [4], fans := [4], stage := stage, bounds := boundsOf stage 1000 0 })
    4 fun r => { r with role := .fan, circuit := some 3, bound := .ceiling 1000 }

/-- `EvaluationFindsStageAndBounds`: a DISABLED circuit, and one whose evaluation changes its stage to TRIP, with a record
that its bounds reach and a channel that the frost trip catches. -/
theorem witness_EvaluationFindsStageAndBounds_handed :
    let s := withCircuit (guarding (.level .watch)) 3 fun c => { c with proven := false, graceExpired := true }
    (State.reset.circuit 3).stage = .disabled ∧ (s.circuit 3).stage ≠ .disabled ∧ s.odu.oddMember 4 = false ∧
      (s.record 4).circuit = some 3 ∧ (s.shutoff 4).mask.frostTrip = true ∧ s.shutOff 4 = false ∧
      (s.circuit 3).stage ≠ .level .trip ∧
      ((s.circuit 3).evaluate s.smu.results false).stage = .level .trip ∧
      (s.circuit 3).bounds.fanCeiling = some 1000 ∧
      ((s.circuit 3).evaluate s.smu.results false).bounds.fanCeiling = some 0 := by decide +kernel

/-- R108, R109, R110: TRIP takes the fan's effective command to 0, shuts it off, and raises STAGE_3 and SHUTOFF. -/
theorem test_evaluate_trip :
    let t := (withCircuit (guarding (.level .watch)) 3 fun c => { c with proven := false, graceExpired := true }).evaluate 3
    (t.record 4).bound = .ceiling 0 ∧ t.shutOff 4 = true ∧ t.shutOff 5 = false ∧ t.flag 1 (.stage 3) = .fresh ∧
      t.flag 1 .shutoff = .fresh ∧ t.flag 1 (.stage 2) = .clear := by decide +kernel

/-- `EvaluationFindsStageAndBounds`: guard channels none VALID and one VALID; LOCKOUT lifted and not; margins at and
between M_trip and M_act. -/
theorem witness_EvaluationFindsStageAndBounds :
    let valid := State.reset.smu.results.write 4 { SensorResult.powerOn with validity := .valid, filtered := 150 }
    let c : Circuit := { Circuit.powerOn with guardSet := [4, 5] }
    (∀ ch ∈ c.guardSet, (State.reset.smu.results.read ch).validity ≠ .valid) ∧
    (valid.read 4).validity = .valid ∧ (4 : SensorCh) ∈ c.guardSet ∧
    ({ c with stage := .lockout }).stage = .lockout ∧ c.stage ≠ .lockout ∧ c.mTrip + 50 ≤ c.mAct ∧
    c.mTrip ≤ (100 : Int) ∧ (100 : Int) ≤ c.mTrip ∧ c.mAct ≤ (200 : Int) ∧ (200 : Int) ≤ c.mAct := by decide +kernel

/-- R107: half way from M_trip to M_act the fans may run at 500. -/
theorem test_evaluate :
    let c := Circuit.evaluate
      (Bank.fill fun _ => { SensorResult.powerOn with validity := .valid, filtered := 150 }) false
      { Circuit.powerOn with guardSet := [4], stage := .level .clear }
    c.stage = .level .act ∧ c.ceiling = some 500 ∧ c.bounds.bypassFloor = some 500 ∧ c.margin = some 150 := by
  decide +kernel

/-- `CircuitsAreEnabledAndReleased`: the stages and requests of each clause. -/
theorem witness_CircuitsAreEnabledAndReleased :
    (req 13 [3, 0]).kind = some .circuit ∧ (req 14 [3]).kind = some .releaseLockout ∧ State.reset.editor 3 = true ∧
    ((req 13 [3, 0]).word 0).toNat = (3 : CircuitNo).val ∧ (req 13 [3, 0]).word 1 = 0#16 ∧
    (req 13 [3, 1]).word 1 = 1#16 ∧ ((req 14 [3]).word 0).toNat = (3 : CircuitNo).val ∧
    ((State.reset.circuit 3).stage = .disabled ∧ (State.reset.circuit 3).guardSet = []) ∧
    ((withCircuit State.reset 3 fun c => { c with guardSet := [4] }).circuit 3).guardSet ≠ [] ∧
    ((withCircuit State.reset 3 fun c => { c with stage := .level .trip }).circuit 3).stage = .level .trip ∧
    ((withCircuit State.reset 3 fun c => { c with stage := .level .watch }).circuit 3).stage = .level .watch ∧
    (let c := (withCircuit State.reset 3 fun c => { c with stage := .lockout }).circuit 3
     c.stage = .lockout ∧ c.marginStage = .clear ∧ c.proven = true ∧ c.sensorCause ≠ .sensorLost) ∧
    ((withCircuit State.reset 3 fun c => { c with stage := .lockout, proven := false }).circuit 3).proven = false := by
  decide +kernel

/-- `CircuitsAreEnabledAndReleased`: the lowest number that names no circuit, and a record of the released one. -/
theorem witness_CircuitsAreEnabledAndReleased_numbers :
    4 ≤ ((req 13 [4, 0]).word 0).toNat ∧ 4 ≤ ((req 14 [4]).word 0).toNat ∧ (req 13 [4, 1]).word 1 = 1#16 ∧
      ((guarding .lockout).record 4).circuit = some 3 ∧ ((guarding .lockout).circuit 3).stage = .lockout := by
  decide +kernel

/-- R103, R111: enabled with its proof lost, a circuit starts its grace and takes ACT. -/
theorem test_circuitEnable_grace :
    gives (exec (.circuitEnable 3) (ask (withCircuit State.reset 3 fun c =>
        { c with guardSet := [4], proven := false, marginStage := .trip, flowGrace := 7 }) 3 (req 13 [3, 0])))
      (fun t => (t.circuit 3).stage == .level .act && (t.circuit 3).graceLeft == some 700) = true := by decide +kernel

/-- `CircuitsAreEnabledAndReleased`: a step that takes a circuit out of LOCKOUT. -/
theorem witness_CircuitsAreEnabledAndReleased_step :
    let s := ask (withCircuit State.reset 3 fun c => { c with guardSet := [4], stage := .lockout }) 3 (req 14 [3])
    (s.circuit 3).stage = .lockout ∧
      gives (step { s with pending := [.releaseLockout 3] }) (fun t => (t.circuit 3).stage != .lockout) = true := by
  decide +kernel

/-- R111: a guard set of which no result has come is WATCH, PENDING. -/
theorem test_circuitEnable :
    gives (exec (.circuitEnable 3) (ask (withCircuit State.reset 3 fun c => { c with guardSet := [4] }) 3 (req 13 [3, 0])))
      (fun t => (t.circuit 3).stage == .level .watch && (t.circuit 3).sensorCause == .pending) = true := by
  decide +kernel

/-- R112: DISABLE in TRIP is refused STAGE_HOLDS, code 12. -/
theorem test_circuitDisable :
    gives (exec (.circuitDisable 3)
      (ask (withCircuit State.reset 3 fun c => { c with guardSet := [4], stage := .level .trip }) 3 (req 13 [3, 1])))
      (fun t => lastReply t == [0x0068, 0xC000] && (t.circuit 3).stage == .level .trip) = true := by decide +kernel

/-- R113: LOCKOUT released. -/
theorem test_releaseLockout :
    gives (exec (.releaseLockout 3)
      (ask (withCircuit State.reset 3 fun c => { c with guardSet := [4], stage := .lockout }) 3 (req 14 [3])))
      (fun t => (t.circuit 3).stage == .level .watch && lastReply t == [0x0070, 0x0000]) = true := by decide +kernel

/-! ### Output drive and shutoff -/

/-- `PeriodEndLoadsCompares`: a channel of the group, one of another group, one shut off, and a member of a pair. -/
theorem witness_PeriodEndLoadsCompares :
    (23 : ModCh).val / 8 = (2 : GroupNo).val ∧ State.reset.shutOff (modCh 23) = false ∧
      State.reset.odu.member (modCh 23) = false ∧ (15 : ModCh).val / 8 ≠ (2 : GroupNo).val ∧
      (withOff State.reset (modCh 23)).shutOff (modCh 23) = true ∧
      (withPair State.reset 11 (PairRun.formed 0 60)).odu.member (modCh 23) = true := by decide +kernel

/-- R116, R117: 250 permille of the buffered period of 1000 steps. -/
theorem test_periodEnd :
    gives (exec (.periodEnd 2) (withHeld 23 250)) (fun t =>
      (t.odu.mods.read 23).compare == 250 && (t.odu.groups.read 2).period == 1000 && t.pinLevel 23) = true := by
  decide +kernel

/-- `PairTimersAndTargetsAct`: a run for each timed clause, and targets and states for the rest, where clauses meet. -/
theorem witness_PairTimersAndTargetsAct :
    let p := PairRun.formed 0 60
    let limit (d : Dir) : Nat := match d with | .opening => 1000 | .closing => 0
    (∀ (p : PairRun), ((withPair State.reset 11 p).odu.pairs.read 11).run = some p) ∧
    (let m : PairRun := { p with state := .moving .opening, unsynced := false, estimate := 499, accumulator := 60 }
     let n : PairRun := { p with state := .safeDriving .closing, unsynced := false, estimate := 1, accumulator := 60 }
     m.stroke ≤ m.accumulator ∧ m.target ≠ min 1000 (m.estimate + 1) ∧
       ({ m with target := 500 } : PairRun).target = min 1000 (m.estimate + 1) ∧ 500 ≠ limit .opening ∧
       1000 = limit .opening ∧ min 1000 (999 + 1) = limit .opening ∧ n.estimate - 1 = limit .closing ∧
       2 - 1 ≠ limit .closing) ∧
    (({ p with state := .overdrive .closing, left := 1 } : PairRun).left ≤ 1 ∧ p.unsynced = true) ∧
    (let m : PairRun := { p with state := .safeWaiting .opening, deadLeft := some 1, unsynced := false }
     m.deadLeft = some 1 ∧ m.unsynced = false ∧ m.estimate ≠ limit .opening ∧ m.estimate = limit .closing) ∧
    (let m : PairRun := { p with state := .waiting, deadLeft := some 1, unsynced := false, target := 11 }
     m.deadLeft = some 1 ∧ m.state = .waiting) ∧
    (({ p with state := .syncing } : PairRun).state.drive ≠ none ∧ p.state = .idle) ∧
    (let m : PairRun := { p with state := .moving .opening, unsynced := false, estimate := 500 }
     m.estimate < 501 ∧ 500 = m.estimate ∧ 499 ≠ m.estimate ∧ (Dir.opening = .opening ↔ 499 < m.estimate) ∧
       (Dir.closing = .opening ↔ 501 < m.estimate)) := by
  refine ⟨fun p => ?_, by decide, by decide, by decide, by decide, by decide, by decide⟩
  simp [withPair, Bank.update]

/-- R124, R128: a pair judged within its deadband, beyond it either way, against a dead time, and UNSYNCED. -/
theorem witness_judgedAs :
    let q : Pair := State.reset.odu.pairs.read 11
    let p : PairRun := { PairRun.formed 510 60 with unsynced := false, estimate := 500 }
    max p.target p.estimate - min p.target p.estimate ≤ q.deadband ∧
      q.deadband < max 511 p.estimate - min 511 p.estimate ∧ p.deadLeft = none ∧
      ({ p with deadLeft := some 1, lastReleased := some .opening } : PairRun).lastReleased ≠ some .closing ∧
      (PairRun.formed 11 60).unsynced = true := by decide +kernel

/-- R125: a move that reaches its target ends, and one that reaches 1000 overdrives for a tenth of the stroke time. -/
theorem test_moveEnds :
    gives (exec (.pairPermilleStep 11) (withPair State.reset 11
        { PairRun.formed 500 60 with state := .moving .opening, unsynced := false, estimate := 499, accumulator := 60 }))
      (fun t => (t.odu.pairs.read 11).run.map (fun p => (p.state, p.estimate, p.deadLeft)) ==
        some (.idle, 500, some 100)) = true ∧
    gives (exec (.pairPermilleStep 11) (withPair State.reset 11
        { PairRun.formed 1000 60 with state := .moving .opening, unsynced := false, estimate := 999, accumulator := 60 }))
      (fun t => (t.odu.pairs.read 11).run.map (fun p => (p.state, p.estimate, p.left, p.deadLeft)) ==
        some (.overdrive .opening, 1000, 600, none)) = true := by decide +kernel

/-- R123: a permille of opening. -/
theorem test_pairPermilleStep :
    gives (exec (.pairPermilleStep 11) (withPair State.reset 11
        { PairRun.formed 1000 60 with state := .moving .opening, unsynced := false, accumulator := 65 })) (fun t =>
      (t.odu.pairs.read 11).run.map (fun p => (p.estimate, p.accumulator)) == some (1, 5)) = true := by decide +kernel

/-- R125: the overdrive ends, and the dead time of 1000 ms starts. -/
theorem test_overdriveEnd :
    gives (exec (.overdriveEnd 11) (withPair State.reset 11
        { PairRun.formed 1000 60 with state := .overdrive .opening, unsynced := false, estimate := 1000, left := 1 }))
      (fun t => (t.odu.pairs.read 11).run.map (fun p => (p.state, p.deadLeft)) == some (.idle, some 100)) = true := by
  decide +kernel

/-- R128: after a sync toward 300 the pair waits for the dead time before it opens. -/
theorem test_syncEnd :
    gives (exec (.syncEnd 11) (withPair State.reset 11 { PairRun.formed 300 60 with state := .syncing, left := 1 }))
      (fun t => (t.odu.pairs.read 11).run.map (fun p => (p.state, p.unsynced, p.lastReleased)) ==
        some (.waiting, false, some .closing)) = true := by decide +kernel

/-- R122: and then it opens. -/
theorem test_deadTimeExpiry :
    gives (exec (.deadTimeExpiry 11) (withPair State.reset 11
        { PairRun.formed 300 60 with state := .waiting, unsynced := false, deadLeft := some 1 })) (fun t =>
      t.pinLevel 22 && !t.pinLevel 23) = true := by decide +kernel

/-- R139: SAFE_END ends in SAFE_REST. -/
theorem test_safeEndExpiry :
    gives (exec (.safeEndExpiry 11) (withPair State.reset 11
        { PairRun.formed 0 60 with state := .safeEnd .closing, unsynced := false, left := 1 })) (fun t =>
      (t.odu.pairs.read 11).run.map (·.state) == some .safeRest) = true := by decide +kernel

/-- R139: so does the UNSYNCED safe drive; the pair stays UNSYNCED. -/
theorem test_unsyncedSafeDriveEnd :
    gives (exec (.unsyncedSafeDriveEnd 11) (withPair State.reset 11
        { PairRun.formed 0 60 with state := .safeDriving .opening, left := 1 })) (fun t =>
      (t.odu.pairs.read 11).run.map (fun p => (p.state, p.unsynced)) == some (.safeRest, true)) = true := by
  decide +kernel

/-- `PairDrivesNeverTogether`: the last pair, opening. -/
theorem witness_PairDrivesNeverTogether :
    let p : PairRun := { PairRun.formed 1000 60 with state := .moving .opening, unsynced := false }
    ((withPair State.reset 11 p).odu.pairs.read 11).run = some p ∧ modCh 22 = evenCh 11 ∧ modCh 23 = oddCh 11 ∧
      p.state.drive = some .opening := by decide +kernel

/-- `DiscreteRequestsWaitForMinimums`: a held change whose minimum is just met, driving and shut off. -/
theorem witness_DiscreteRequestsWaitForMinimums :
    let s := withDisc State.reset 7 fun d => { d with held := some true, time := 500, minOff := 5 }
    (s.odu.discretes.read 7).held = some true ∧ true ≠ (s.odu.discretes.read 7).on ∧
      100 * (s.odu.discretes.read 7).minOff ≤ (s.odu.discretes.read 7).time ∧ s.shutOff (discCh 7) = false ∧
      (withOff s (discCh 7)).shutOff (discCh 7) = true := by decide +kernel

/-- R130: the held change is applied. -/
theorem test_discreteMinimumReached :
    gives (exec (.discreteMinimumReached 7)
      (withDisc State.reset 7 fun d => { d with held := some true, time := 500, minOff := 5 })) (fun t =>
        (t.odu.discretes.read 7).on && (t.odu.discretes.read 7).held == none) = true := by decide +kernel

/-- `EmergencyShutsOff`: EMERGENCY_IN low, a channel whose mask names EMERGENCY, pin actions LOW and HIGH. -/
theorem witness_EmergencyShutsOff :
    let s := emergencyMasked 23
    s.shu.emergencyIn = false ∧ s.shutOff (modCh 23) = false ∧ s.odu.member (modCh 23) = false ∧
      (s.shutoff (modCh 23)).line ≠ .hold ∧ (after s .emergencyInAssert).shutOff (modCh 23) = true ∧
      (emergencyMasked 31).shutOff (discCh 7) = false ∧ ((emergencyMasked 31).shutoff (discCh 7)).line ≠ .hold ∧
      (after (emergencyMasked 31) .emergencyInAssert).shutOff (discCh 7) = true ∧
      ∀ c, (after State.reset .emergencyInAssert).shutOff c = State.reset.shutOff c := by decide +kernel

/-- `EmergencyShutsOff`: a pair struck with no drive, with one in the safe direction and with one against it; HOLD. -/
theorem witness_EmergencyShutsOff_pair :
    let p : PairRun := { PairRun.formed 1000 60 with unsynced := false, estimate := 500 }
    let s := withPair (emergencyMasked 22) 11 p
    s.shutOff (evenCh 11) = false ∧ (after s .emergencyInAssert).shutOff (evenCh 11) = true ∧
      (s.odu.pairs.read 11).run = some p ∧ p.state.drive = none ∧
      ({ p with state := .moving .opening } : PairRun).state.drive = some .opening ∧ Dir.opening ≠ .closing ∧
      (State.reset.shutoff (discCh 7)).line = .low ∧ 0 < (State.reset.odu.groups.read 2).period := by decide +kernel

/-- `EmergencyShutsOff`: the pin asserted already. -/
theorem witness_EmergencyShutsOff_again : (after (emergencyMasked 23) .emergencyInAssert).shu.emergencyIn = true := by
  decide +kernel

/-- R139: an opening pair shut off with DRIVE_CLOSE releases its drive, and the safe drive waits for the dead time. -/
theorem test_emergencyInAssert_pair :
    let s := withPair (emergencyMasked 22) 11
      { PairRun.formed 1000 60 with state := .moving .opening, unsynced := false, estimate := 500 }
    let s := { s with shu := { s.shu with records := s.shu.records.update 22 fun r => { r with pair := .drive .closing } } }
    gives (exec .emergencyInAssert s) (fun t =>
      (t.odu.pairs.read 11).run.map (fun p => (p.state, p.estimate, p.deadLeft)) ==
        some (.safeWaiting .closing, 500, some 100)) = true := by decide +kernel

/-- R135, R137: channel 23's pin goes high. -/
theorem test_emergencyInAssert :
    gives (exec .emergencyInAssert (emergencyMasked 23)) (fun t =>
      t.pinLevel 23 && t.shutOff 23 && !t.shutOff 22 && t.flag 0 .shutoff == .fresh) = true := by decide +kernel

/-- R135: the cause's end re-arms nothing. -/
theorem test_emergencyInDeassert :
    gives (exec .emergencyInDeassert (after (emergencyMasked 23) .emergencyInAssert)) (fun t =>
      t.shutOff 23 && !t.shu.emergencyIn) = true := by decide +kernel

/-- `RearmNeedsEveryCauseGone`: numbers at the ends of their rows; a shut-off channel with a cause holding and gone. -/
theorem witness_RearmNeedsEveryCauseGone :
    (req 15 [31]).kind = some .rearm ∧ State.reset.editor 3 = true ∧ 64 ≤ ((req 15 [64]).word 0).toNat ∧
    32 ≤ ((req 15 [32]).word 0).toNat ∧ ((req 15 [63]).word 0).toNat ≤ 63 ∧
    ((req 15 [31]).word 0).toNat = (31 : OutCh).val ∧
    (withPair State.reset 11 (PairRun.formed 0 60)).odu.oddMember 23 = true ∧ State.reset.odu.oddMember 31 = false ∧
    State.reset.shutOff 31 = false ∧
    (let s := after (emergencyMasked 31) .emergencyInAssert
     s.shutOff 31 = true ∧ (s.shutoff 31).mask.names .emergency = true ∧ s.causeHolds 31 .emergency = true) ∧
    (let s := withOff State.reset 31
     s.shutOff 31 = true ∧ (s.shutoff 31).mask.names .frostTrip = false ∧ (s.shutoff 31).mask.names .orphan = false ∧
       (s.shutoff 31).mask.names .emergency = false) ∧
    (let x := (withDisc (withOff State.reset 31) 7 fun d => { d with held := some true, time := 500, minOff := 5 }).odu
       |>.discretes.read 7
     discCh 7 = 31 ∧ x.held = some true ∧ true ≠ x.on ∧ 100 * x.minOff ≤ x.time ∧ ¬100 * 6 ≤ x.time) ∧
    evenCh 11 = 22 ∧ ((withPair (withOff State.reset 22) 11 { PairRun.formed 0 60 with state := .safeRest }).odu.pairs.read
      11).run = some { PairRun.formed 0 60 with state := .safeRest } := by decide +kernel

/-- `RearmNeedsEveryCauseGone`: a held change that equals its channel's output, the minimum met. -/
theorem witness_RearmNeedsEveryCauseGone_held :
    let x := (withDisc (withOff State.reset 31) 7 fun d => { d with held := some false }).odu.discretes.read 7
    x.held = some x.on ∧ 100 * x.minOff ≤ x.time := by decide +kernel

/-- `RearmNeedsEveryCauseGone`: a step that takes a latch from SHUT_OFF. -/
theorem witness_RearmNeedsEveryCauseGone_step :
    let s := ask (withOff State.reset 31) 3 (req 15 [31])
    s.shutOff 31 = true ∧ gives (step { s with pending := [.rearm 3] }) (fun t => !t.shutOff 31) = true := by
  decide +kernel

/-- R142: a pair re-armed in a safe drive releases its drive and waits to go the other way. -/
theorem test_rearm_pair :
    gives (exec (.rearm 3) (ask (withPair (withOff State.reset 22) 11
        { PairRun.formed 0 60 with state := .safeDriving .opening, unsynced := false, estimate := 500 }) 3
        (req 15 [22]))) (fun t =>
      (t.odu.pairs.read 11).run.map (fun p => (p.state, p.estimate, p.deadLeft, p.lastReleased)) ==
        some (.waiting, 500, some 100, some .opening)) = true := by decide +kernel

/-- R141: while EMERGENCY_IN is asserted the answer is CAUSE_ACTIVE, code 13; afterwards the channel drives again. -/
theorem test_rearm :
    gives (exec (.rearm 3) (ask (after (emergencyMasked 31) .emergencyInAssert) 3 (req 15 [31]))) (fun t =>
      lastReply t == [0x0078, 0xD000] && t.shutOff 31) = true ∧
    gives (exec (.rearm 3) (ask (withOff State.reset 31) 3 (req 15 [31]))) (fun t => !t.shutOff 31) = true := by
  decide +kernel

/-! ### What every step keeps -/

/-- A part in use: a demand of 600 from seat 3 on channel 4, pair 5 opening, one directory word, one request in seat
1's line, and a command waiting. -/
def inUse : State :=
  let s := withRec State.reset 4 fun r =>
    { r.place 3 demand with winner := some 3, lastWon := some 600, arbitrated := 600, effective := 600 }
  let s := withPair s 5 { PairRun.formed 1000 60 with state := .moving .opening, unsynced := false, estimate := 1000 }
  let s := withLine (withCount s 2 511) 1 [.request (req 1 [])]
  { s with pending := [.emergencyInAssert], pdir := { s.pdir with memory := [(4095, 1)] } }

/-- A step of the part in use goes on. -/
theorem witness_inUse_step : gives (step inUse) (fun t => t.shu.emergencyIn) = true := by decide +kernel

/-- `RecordsStayJudged`: the part in use. -/
theorem witness_RecordsStayJudged : inUse.winnersRight ∧ inUse.commandsSettled := by
  unfold State.winnersRight State.commandsSettled
  decide +kernel

/-- `RecordsStayJudged`: the arbitrated values of the part in use; and fan 4 of circuit 3, standing under the ceiling of
1000 that WATCH gives it. -/
theorem witness_RecordsStayJudged_values :
    inUse.valuesRight ∧ (guarding (.level .watch)).boundsHanded ∧ (guarding (.level .watch)).commandsSettled ∧
      ((guarding (.level .watch)).record 4).role = .fan ∧
      ((guarding (.level .watch)).circuit 3).bounds.fanCeiling = some 1000 := by
  have hv : ∀ c, (inUse.record c).winner = (if c = 4 then some 3 else none) ∧
      (inUse.record c).fallbackMode = .fixed ∧ (inUse.record c).fallbackValue = 0 ∧
      (inUse.record c).arbitrated = (if c = 4 then 600 else 0) := by decide +kernel
  have h4 : (inUse.record 4).slot 3 = some demand ∧ (inUse.record 4).lastWon = some 600 := by decide +kernel
  refine ⟨fun c _ => ⟨fun q hq => ?_, fun hn => ?_⟩, ?_, ?_, ?_, ?_⟩
  · obtain ⟨hw, -, -, ha⟩ := hv c
    rw [hw] at hq
    split at hq
    · subst c
      cases hq
      exact ⟨demand, h4.1, by rw [ha]; rfl, h4.2⟩
    · cases hq
  · obtain ⟨hw, hm, hf, ha⟩ := hv c
    rw [hw] at hn
    split at hn
    · cases hn
    · rename_i hc
      rw [ha, if_neg hc, hm, hf]
  · unfold State.boundsHanded
    decide +kernel
  · unfold State.commandsSettled
    decide +kernel
  · decide +kernel
  · decide +kernel

/-- `BarredSeatsHoldNoSlot`: the part in use, seat 2 BARRED and channel 11 an odd member. -/
theorem witness_BarredSeatsHoldNoSlot : inUse.slotsAllowed ∧ inUse.standing 2 = .barred := by
  unfold State.slotsAllowed
  decide +kernel

/-- A record whose settings, slots and bound are in range, checked field by field. -/
theorem inRange_of_check {r : Record}
    (h : (∀ seat, (r.slot seat).all (fun d => decide (d.value ≤ 1000)) = true) ∧ r.arbitrated ≤ 1000 ∧
      r.lastWon.all (fun v => decide (v ≤ 1000)) = true ∧ r.fallbackValue ≤ 1000 ∧ r.staticMin ≤ r.staticMax ∧
      r.staticMax ≤ 1000 ∧ r.bound = .none ∧ r.effective ≤ 1000) : r.inRange := by
  obtain ⟨h1, h2, h3, h4, h5, h6, h7, h8⟩ := h
  refine ⟨fun seat d hd => ?_, h2, fun v hv => ?_, h4, h5, h6, by simp [h7], by simp [h7], h8⟩
  · simpa [hd] using h1 seat
  · simpa [hv] using h3

/-- `EffectiveCommandsStayInRange`: the part in use. -/
theorem witness_EffectiveCommandsStayInRange : inUse.commandsInRange := by
  refine ⟨fun c => inRange_of_check ?_, fun n => ?_⟩
  · revert c
    decide +kernel
  · have h : ∀ n, (inUse.circuit n).pumpMin = 0 ∧ (inUse.circuit n).bounds = Bounds.unbounded := by decide +kernel
    rw [(h n).1, (h n).2]
    simp [Bounds.inRange, Bounds.unbounded]

/-- `PairsStaySafe`: the part in use. -/
theorem witness_PairsStaySafe : inUse.pairsSafe := by
  have h : ∀ k, (inUse.odu.pairs.read k).run.all (fun p => p.estimateSound && p.deadTimeKept) = true := by
    decide +kernel
  intro k p hp
  simpa [hp] using h k

/-- `CountsAndLinesStayBounded`: the part in use, seat 2's count at its top. -/
theorem witness_CountsAndLinesStayBounded : inUse.linesBounded := by
  unfold State.linesBounded
  decide +kernel

/-- A cache is unambiguous where its ways say so, entry by entry: no set holds two valid entries of one point. -/
theorem cacheUnambiguous_of_check {s : State}
    (h : ∀ i way, ((s.pcache.sets.read i).ways.read way).all (fun e =>
      cacheSetOf e.point == i && (!e.global || !e.guarded) &&
        (List.finRange 4).all fun way' => ((s.pcache.sets.read i).ways.read way').all fun e' =>
          way == way' || e.point != e'.point) = true) : s.cacheUnambiguous := by
  intro i way e he
  have h' := h i way
  simp only [he, Option.all_some, Bool.and_eq_true, beq_iff_eq, Bool.or_eq_true, Bool.not_eq_true',
    List.all_eq_true, List.mem_finRange, forall_const] at h'
  refine ⟨h'.1.1, fun hg => by simpa [hg] using h'.1.2, fun way' e' seat p he' hp hp' => ?_⟩
  have hw := h'.2 way'
  simp only [he', Option.all_some, Bool.or_eq_true, beq_iff_eq, bne_iff_ne] at hw
  rcases hw with hw | hw
  · exact hw
  · simp only [CacheEntry.serves, Bool.and_eq_true, beq_iff_eq] at hp hp'
    exact absurd (hp.1.trans hp'.1.symm) hw

/-- `MemoryStaysCanonical`: the part in use, and one with an entry in its cache. -/
theorem witness_MemoryStaysCanonical : inUse.memoryCanonical = true ∧ cached.cacheUnambiguous :=
  ⟨by decide +kernel, cacheUnambiguous_of_check (by decide +kernel)⟩

/-- The tick of an idle part: the orphan timer counts. -/
theorem test_tick : gives (step State.reset) (fun t => t.lbi.orphan.count == 1) = true := by decide +kernel

end Sys2Proof.Machine.Tests
end

section
/-! SUPPORT. What a step can do to the command table: every command is a chain of moves, each a named operation over
records, standings and circuits or one that leaves all of these as they are. An invariant of the command table is then
proved once for each kind of move. -/

namespace Sys2Proof.Machine

/-! ### The moves -/

/-- What the command table rests on of a circuit is the same: its lists, its stage and its bounds; pump_min stays in
range. -/
structure Circuit.SameGuard (c d : Circuit) : Prop where
  fans : d.fans = c.fans
  bypass : d.bypass = c.bypass
  pumps : d.pumps = c.pumps
  stage : d.stage = c.stage
  bounds : d.bounds = c.bounds
  pumpMin : c.pumpMin ≤ 1000 → d.pumpMin ≤ 1000

theorem Circuit.SameGuard.refl (c : Circuit) : c.SameGuard c := ⟨rfl, rfl, rfl, rfl, rfl, id⟩

/-- From `s` to `t` nothing has changed that the command table rests on: records, rank table, formed pairs, fault
counts, and what circuits hand to records. -/
structure State.SameCommands (s t : State) : Prop where
  pending : t.pending = s.pending
  cmdt : t.cmdt = s.cmdt
  formed : ∀ k, t.odu.formed k = s.odu.formed k
  faults : t.lbi.faults = s.lbi.faults
  circuits : ∀ n, (s.circuit n).SameGuard (t.circuit n)

/-- A circuit that takes another's place keeps its lists and its pump_min, has no bound while DISABLED, and bounds in
range (R98, R107, R112). -/
structure Circuit.Becomes (c d : Circuit) : Prop where
  fans : d.fans = c.fans
  bypass : d.bypass = c.bypass
  pumps : d.pumps = c.pumps
  pumpMin : d.pumpMin = c.pumpMin
  disabled : d.stage = .disabled → d.bounds = Bounds.unbounded
  inRange : c.pumpMin ≤ 1000 → d.bounds.inRange

/-- The operations that a command's effect on the command table is made of. -/
inductive State.Move : State → State → Prop
  | aside {s t : State} (h : s.SameCommands t) : Move s t
  | count (s : State) (b : BusSeat) (n : Nat) : Move s (s.setCount b n)
  | place (s : State) (c : OutCh) (seat : Seat) (d : Slot) (hs : s.standing seat ≠ .barred) (hv : d.value ≤ 1000) :
      Move s (s.placeDemand c seat d)
  | remove (s : State) (inChannel : OutCh → Bool) (p : Seat → Bool) : Move s (s.removeDemands inChannel p)
  | circuit (s : State) (n : CircuitNo) (now : Circuit) (h : (s.circuit n).Becomes now) : Move s (s.changeCircuit n now)
  | ranks (s : State) (ranks : Bank Seat 4) : Move s (s.setRanks ranks)
  | limits (s : State) (c : OutCh) (lo hi : Nat) (hle : lo ≤ hi) (hhi : (s.record c).staticMax ≤ 1000 → hi ≤ 1000) :
      Move s (s.setLimits c lo hi)
  | fallback (s : State) (c : OutCh) (mode : FallbackMode) (v : Nat)
      (hv : (s.record c).fallbackValue ≤ 1000 → v ≤ 1000) : Move s (s.setFallback c mode v)
  | defaultHold (s : State) (c : OutCh) (hold : Nat) : Move s (s.setDefaultHold c hold)
  | outputs (s : State) (n : CircuitNo) (f : OutputFields) (hd : (s.circuit n).stage = .disabled) :
      Move s (s.setOutputs n f)
  | form (s : State) (k : PairNo) (f : PairFields) (hl : s.listed (oddCh k) = false) : Move s (s.formPair k f)
  | part (s : State) (k : PairNo) (f : PairFields) : Move s (s.partPair k f)
  | settle (s : State) : Move s s.settleAll
  | holdTick (s : State) : Move s { s with cmdt := s.cmdt.tick }

/-- A chain of moves. -/
def State.Moves (s t : State) : Prop := Relation.ReflTransGen State.Move s t

theorem State.Moves.refl {s : State} : s.Moves s := Relation.ReflTransGen.refl

theorem State.Moves.one {s t : State} (h : s.Move t) : s.Moves t := Relation.ReflTransGen.single h

theorem State.Moves.trans {s t u : State} (h : s.Moves t) (h' : t.Moves u) : s.Moves u :=
  Relation.ReflTransGen.trans h h'

/-- What each move keeps, a chain keeps. -/
theorem State.Moves.keeps {P : State → Prop} (hP : ∀ s t, s.Move t → P s → P t) {s t : State} (h : s.Moves t)
    (hs : P s) : P t := by
  induction h with
  | refl => exact hs
  | tail _ hm ih => exact hP _ _ hm ih

/-! ### Operations beside the command table -/

/-- An operation that keeps these fields does nothing to the command table. -/
theorem State.Moves.beside {s t : State} (pending : t.pending = s.pending) (cmdt : t.cmdt = s.cmdt)
    (formed : ∀ k, t.odu.formed k = s.odu.formed k) (faults : t.lbi.faults = s.lbi.faults)
    (circuits : t.circuits = s.circuits) : s.Moves t :=
  .one (.aside ⟨pending, cmdt, formed, faults, fun n => by
    simp only [State.circuit, circuits]
    exact Circuit.SameGuard.refl _⟩)

/-- Changes of fields that the command table does not rest on. -/
theorem State.Moves.fields {s : State} (pdir : Pdir) (pcache : Pcache) (smu : Smu) (piu : Piu) (shu : Shu) (lbi : Lbi)
    (evu : Evu) (moment : Nat) (h : lbi.faults = s.lbi.faults) :
    s.Moves { s with
      pdir := pdir, pcache := pcache, smu := smu, piu := piu, shu := shu, lbi := lbi, evu := evu, moment := moment } :=
  .beside rfl rfl (fun _ => rfl) h rfl

theorem State.raiseAll_moves (s : State) (f : Flag) : s.Moves (s.raiseAll f) :=
  .beside rfl rfl (fun _ => rfl) rfl rfl

theorem State.raiseIf_moves (s : State) (b : Bool) (f : Flag) : s.Moves (s.raiseIf b f) := by
  unfold State.raiseIf
  split
  · exact s.raiseAll_moves f
  · exact .refl

theorem State.handReply_moves (s : State) (seat : Seat) (h : Word) (c : Code) (p : List Word) (restart : Bool) :
    s.Moves (s.handReply seat h c p restart) :=
  .beside (by simp) (by simp) (by simp) (by simp) (by simp)

theorem State.setService_moves (s : State) (seat : Seat) (i : Option InService) : s.Moves (s.setService seat i) :=
  .beside rfl rfl (fun _ => rfl) rfl rfl

theorem State.append_moves (s : State) (seat : Seat) (e : IntakeEntry) : s.Moves (s.append seat e) :=
  .beside rfl rfl (fun _ => rfl) rfl rfl

theorem State.settleArbiter_moves (s : State) : s.Moves s.settleArbiter := by
  unfold State.settleArbiter
  split
  · exact .beside rfl rfl (fun _ => rfl) rfl rfl
  · exact .refl

theorem State.awaitWalk_moves (s : State) (seat : Seat) (r : Request) (rewalk : Bool) :
    s.Moves (s.awaitWalk seat r rewalk) := by
  unfold State.awaitWalk
  refine .trans ?_ (State.settleArbiter_moves _)
  exact .beside rfl rfl (fun _ => rfl) rfl rfl

theorem State.markNoLoad_moves (s : State) (p : Walk → Bool) : s.Moves (s.markNoLoad p) :=
  .beside rfl rfl (fun _ => rfl) rfl rfl

theorem State.forceOutputs_moves (s : State) (hit : OutCh → Bool) : s.Moves (s.forceOutputs hit) :=
  .beside (by simp) (by simp) (by simp) (by simp) (by simp)

theorem State.shutOffWhere_moves (s : State) (p : OutCh → Bool) : s.Moves (s.shutOffWhere p) :=
  .beside (by simp) (by simp) (by simp) (by simp) (by simp)

theorem State.causeBegins_moves (s : State) (cause : Cause) (f : OutCh → Bool) : s.Moves (s.causeBegins cause f) :=
  s.shutOffWhere_moves _

/-- A pair replaced by one that is formed where it was. -/
theorem Odu.formed_write (o : Odu) (k : PairNo) (q : Pair) (h : q.isFormed = (o.pairs.read k).isFormed) (k' : PairNo) :
    ({ o with pairs := o.pairs.write k q } : Odu).formed k' = o.formed k' := by
  simp only [Odu.formed, Bank.read_write]
  split
  · next e => subst e; exact h
  · rfl

theorem State.onPair_moves (s : State) (k : PairNo) (p : PairRun → Bool) (f : Pair → PairRun → PairRun) :
    s.Moves (s.onPair k p f) := by
  unfold State.onPair
  dsimp only
  split
  · exact .beside rfl rfl (s.odu.formed_write k _ (Pair.change_isFormed _ _)) rfl rfl
  · exact .refl

theorem State.setPair_moves (s : State) (k : PairNo) (f : PairFields) : s.Moves (s.setPair k f) :=
  .beside rfl rfl (s.odu.formed_write k _ rfl) rfl rfl

theorem State.rearmChannel_moves (s : State) (c : OutCh) : s.Moves (s.rearmChannel c) :=
  .beside rfl rfl (fun k => by simp only [State.rearmChannel, Odu.formed, Bank.read_fill]; split <;> simp) rfl rfl

theorem State.endPeriod_moves (s : State) (g : GroupNo) : s.Moves (s.endPeriod g) :=
  .beside rfl rfl (fun _ => rfl) rfl rfl

/-- The members of formed pairs are those of the same pairs. -/
theorem State.SameCommands.oddMember {s t : State} (h : s.SameCommands t) (c : OutCh) :
    t.odu.oddMember c = s.odu.oddMember c := Odu.oddMember_congr h.formed c

theorem State.SameCommands.record {s t : State} (h : s.SameCommands t) (c : OutCh) : t.record c = s.record c := by
  simp only [State.record, h.cmdt]

theorem State.standing_of_faults {s t : State} (h : t.lbi.faults = s.lbi.faults) : t.standing = s.standing := by
  funext seat
  simp only [State.standing, h]

/-! ### Shared operations as chains -/

theorem State.applyOutcome_moves (s : State) (seat : Seat) (c : Code) : s.Moves (s.applyOutcome seat c) := by
  unfold State.applyOutcome
  split
  · split
    · exact .refl
    · exact .one (.count _ _ _)
  · exact .refl

theorem State.answer_moves (s : State) (seat : Seat) (r : Request) (c : Code) (p : List Word) :
    s.Moves (s.answer seat r c p) :=
  .trans (s.applyOutcome_moves seat c) (.trans (State.handReply_moves _ _ _ _ _ _) (State.setService_moves _ _ _))

/-- A request whose effect is a chain of moves, answered. -/
theorem State.Moves.answer {s t : State} (h : s.Moves t) (seat : Seat) (r : Request) (c : Code) (p : List Word) :
    s.Moves (t.answer seat r c p) := .trans h (t.answer_moves seat r c p)

theorem State.onRequest_moves (s : State) (seat : Seat) (k : Kind) (f : Request → State) (h : ∀ r, s.Moves (f r)) :
    s.Moves (s.onRequest seat k f) := by
  unfold State.onRequest
  split
  · split
    · exact h _
    · exact .refl
  · exact .refl

/-- Where a write is accepted, what it does is a chain of moves. -/
def Verdict.MovesFrom (s : State) (v : Verdict) : Prop := ∀ t, v = .accepted t → s.Moves t

theorem Verdict.MovesFrom.refused (s : State) (c : Code) : (Verdict.refused c).MovesFrom s := by rintro t ⟨⟩

theorem Verdict.MovesFrom.accepted {s t : State} (h : s.Moves t) : (Verdict.accepted t).MovesFrom s := by
  rintro t' ⟨⟩
  exact h

theorem Verdict.MovesFrom.fields {α : Type} {s : State} {p : Option α} {f : α → Verdict}
    (h : ∀ a, p = some a → (f a).MovesFrom s) : (Verdict.fields p f).MovesFrom s := by
  unfold Verdict.fields
  split
  · exact h _ rfl
  · exact .refused s _

theorem Verdict.MovesFrom.asService {s : State} {v : Verdict} (seat : Seat) (h : v.MovesFrom s) :
    (Machine.asService seat v).MovesFrom s := by
  unfold Machine.asService
  split
  · exact h
  · exact .refused s _

theorem Verdict.MovesFrom.asEditor {s : State} {v : Verdict} (seat : Seat) (h : v.MovesFrom s) :
    (s.asEditor seat v).MovesFrom s := by
  unfold State.asEditor
  split
  · exact h
  · exact .refused s _

theorem Verdict.MovesFrom.settingsWrite {s t : State} (c : OutCh) (h : s.Moves t) :
    (s.settingsWrite c t).MovesFrom s := by
  unfold State.settingsWrite
  split
  · exact .refused s _
  · split
    · exact .refused s _
    · exact .accepted h

/-- R95: a circuit write is accepted only where the circuit is DISABLED. -/
theorem Verdict.MovesFrom.circuitWrite {s : State} {n : CircuitNo} {v : Verdict} (seat : Seat)
    (h : (s.circuit n).stage = .disabled → v.MovesFrom s) : (s.circuitWrite seat n v).MovesFrom s := by
  refine .asEditor seat ?_
  split
  · exact .refused s _
  · next hd => exact h (by simpa [Circuit.enabled] using hd)

theorem State.onWrite_moves (s : State) (seat : Seat) (pick : Item → Request → Option Verdict)
    (h : ∀ i r v, pick i r = some v → v.MovesFrom s) : s.Moves (s.onWrite seat pick) := by
  refine s.onRequest_moves seat _ _ fun r => ?_
  split
  · next v hv =>
    obtain ⟨i, -, hi⟩ := Option.bind_eq_some_iff.1 hv
    cases v with
    | refused c => exact s.answer_moves seat r c []
    | accepted t => exact (h i r _ hi t rfl).answer seat r .done []
  · exact .refl

end Sys2Proof.Machine
end

section
/-! SUPPORT. Every command but the restarts is a chain of moves. -/

namespace Sys2Proof.Machine

/-! ### Circuits -/

theorem Circuit.actCeiling_le (c : Circuit) (m : Option Int) : c.actCeiling m ≤ 1000 := by
  cases m with
  | none => exact Nat.le_refl _
  | some m => simp only [Circuit.actCeiling]; omega

theorem boundsOf_inRange (stage : Stage) {ceiling pumpMin : Nat} (hc : ceiling ≤ 1000) (hp : pumpMin ≤ 1000) :
    (boundsOf stage ceiling pumpMin).inRange := by
  rcases stage with _ | l | _
  · simp [boundsOf, Bounds.inRange, Bounds.unbounded]
  · cases l <;> simp [boundsOf, Bounds.inRange, Bounds.unbounded, hc, hp]
  · simp [boundsOf, Bounds.inRange, hp]

/-- R107: a circuit that takes a stage, from causes found in a circuit with the same lists and pump_min. -/
theorem Circuit.Becomes.withStage {c found : Circuit} (stage : Stage) (fans : found.fans = c.fans)
    (bypass : found.bypass = c.bypass) (pumps : found.pumps = c.pumps) (pumpMin : found.pumpMin = c.pumpMin) :
    c.Becomes (found.withStage stage) where
  fans := fans
  bypass := bypass
  pumps := pumps
  pumpMin := pumpMin
  disabled h := by
    have h' : stage = .disabled := h
    simp [Circuit.withStage, h', boundsOf]
  inRange h := boundsOf_inRange _ (Circuit.actCeiling_le _ _) (pumpMin ▸ h)

/-- R99, R111: an evaluation, of the circuit as it stands or as an enable prepares it. -/
theorem Circuit.Becomes.evaluate {c d : Circuit} (results : Bank SensorResult 24) (lift : Bool) (fans : d.fans = c.fans)
    (bypass : d.bypass = c.bypass) (pumps : d.pumps = c.pumps) (pumpMin : d.pumpMin = c.pumpMin) :
    c.Becomes (d.evaluate results lift) := .withStage _ fans bypass pumps pumpMin

theorem Circuit.Becomes.disable (c : Circuit) : c.Becomes c.disable :=
  ⟨rfl, rfl, rfl, rfl, fun _ => rfl, fun _ => by simp [Circuit.disable, Bounds.inRange, Bounds.unbounded]⟩

/-- A circuit replaced by one that hands records the same. -/
theorem State.setCircuit_moves (s : State) (n : CircuitNo) (c : Circuit) (h : (s.circuit n).SameGuard c) :
    s.Moves (s.setCircuit n c) :=
  .one (.aside ⟨rfl, rfl, fun _ => rfl, rfl, fun m => by
    simp only [State.setCircuit, State.circuit, Bank.read_write]
    split
    · next e => subst e; exact h
    · exact Circuit.SameGuard.refl _⟩)

theorem State.evaluate_moves (s : State) (n : CircuitNo) : s.Moves (s.evaluate n) := by
  unfold State.evaluate
  split
  · exact .one (.circuit s n _ (.evaluate _ _ rfl rfl rfl rfl))
  · exact .refl

/-- R92, R103: a proof taken leaves what records rest on. -/
theorem Circuit.SameGuard.takeProof (c : Circuit) (proven : Bool) : c.SameGuard (c.takeProof proven) := by
  unfold Circuit.takeProof
  split
  · split <;> exact ⟨rfl, rfl, rfl, rfl, rfl, id⟩
  · exact ⟨rfl, rfl, rfl, rfl, rfl, id⟩

theorem State.judgeProof_moves (s : State) (n : CircuitNo) : s.Moves (s.judgeProof n) := by
  unfold State.judgeProof
  dsimp only
  split
  · exact .refl
  · have h1 := s.setCircuit_moves n _ (.takeProof (s.circuit n) (proofOf s.piu.channels (s.circuit n)))
    refine .trans h1 (.trans ?_ (State.evaluate_moves _ n))
    exact .beside rfl rfl (fun _ => rfl) rfl rfl

/-- A fold of steps that are each a chain of moves. -/
theorem State.foldl_moves {β : Type} (step : State → β → State) (h : ∀ (s : State) b, s.Moves (step s b)) (l : List β)
    (s : State) : s.Moves (l.foldl step s) := by
  induction l generalizing s with
  | nil => exact .refl
  | cons b l ih => exact .trans (h s b) (ih _)

theorem State.judgeProofOf_moves (s : State) (ch : PulseCh) : s.Moves (s.judgeProofOf ch) := by
  refine State.foldl_moves _ (fun s n => ?_) _ s
  split
  · exact s.judgeProof_moves n
  · exact .refl

theorem State.evaluateGuarding_moves (s : State) (c : SensorCh) : s.Moves (s.evaluateGuarding c) := by
  refine State.foldl_moves _ (fun s n => ?_) _ s
  split
  · exact s.evaluate_moves n
  · exact .refl

theorem State.orphanBegins_moves (s : State) : s.Moves s.orphanBegins := by
  refine .trans (.trans (.trans ?_ (State.causeBegins_moves _ .orphan fun _ => true)) (.one (.remove _ _ _)))
    (State.raiseAll_moves _ .orphan)
  exact .beside rfl rfl (fun _ => rfl) rfl rfl

theorem State.orphanHeard_moves (s : State) : s.Moves s.orphanHeard := by
  refine .trans ?_ (State.raiseIf_moves _ _ _)
  exact .beside rfl rfl (fun _ => rfl) rfl rfl

/-! ### Demands -/

theorem clampValue_le (v : Nat) : clampValue v ≤ 1000 := by
  unfold clampValue
  split <;> omega

theorem State.finishSet_moves (s : State) (seat : Seat) (r : Request) (t : Translation) :
    s.Moves (s.finishSet seat r t) := by
  unfold State.finishSet
  split
  · exact s.answer_moves ..
  · split
    · exact s.answer_moves ..
    · next h => exact (State.Moves.one (.place s _ seat _ h (clampValue_le _))).answer ..

theorem State.finishAccess_moves (s : State) (a : Access) (seat : Seat) (r : Request) (t : Translation) :
    s.Moves (s.finishAccess a seat r t) := by
  cases a with
  | set => exact s.finishSet_moves seat r t
  | release =>
    simp only [State.finishAccess, State.finishRelease]
    split
    · exact s.answer_moves ..
    · exact (State.Moves.one (.remove ..)).answer ..
  | read => exact s.answer_moves ..

theorem State.hit_moves (s : State) (p : Point) : s.Moves { s with pcache := s.pcache.hit p } :=
  .beside rfl rfl (fun _ => rfl) rfl rfl

theorem State.resolve_moves (s : State) (a : Access) (seat : Seat) (r : Request) : s.Moves (s.resolve a seat r) := by
  unfold State.resolve
  dsimp only
  split
  · split
    · exact s.answer_moves ..
    · exact s.finishAccess_moves ..
  · split
    · split
      · split
        · exact (s.hit_moves _).answer ..
        · split
          · exact .trans (s.hit_moves _) (State.awaitWalk_moves ..)
          · exact .trans (s.hit_moves _) (State.finishAccess_moves ..)
      · exact s.awaitWalk_moves ..
    · exact s.answer_moves ..

/-! ### Walks -/

theorem State.deliver_moves (s : State) (w : Walk) (o : WalkOutcome) : s.Moves (s.deliver w o) := by
  unfold State.deliver
  split
  · exact .refl
  · split
    · exact s.finishAccess_moves ..
    all_goals exact s.answer_moves ..

theorem State.endWalk_moves (s : State) (w : Walk) (o : WalkOutcome) : s.Moves (s.endWalk w o) := by
  refine .trans (.trans (.trans ?_ (State.raiseIf_moves _ _ .dirFault)) (State.deliver_moves _ w o))
    (State.settleArbiter_moves _)
  exact .beside rfl rfl (fun _ => rfl) rfl rfl

theorem State.walkOn_moves (s : State) (w : Walk) (next : WalkNext) : s.Moves (s.walkOn w next) := by
  cases next with
  | toGroup base | toPoint base | toLink base => exact .beside rfl rfl (fun _ => rfl) rfl rfl
  | finish o => exact s.endWalk_moves w o

theorem State.walkRead_moves (s : State) (w : Walk) (level : DirLevel) (addr : DirAddr) :
    s.Moves (s.walkRead w level addr) := by
  have hg : s.Moves s.grantWalker := .beside rfl rfl (fun _ => rfl) rfl rfl
  unfold State.walkRead
  dsimp only
  split
  · exact .trans hg (State.walkOn_moves ..)
  · exact .beside rfl rfl (fun _ => rfl) rfl rfl

/-! ### Links -/

theorem State.refuseAtArrival_moves (s : State) (seat : Seat) (r : Request) (c : Code) :
    s.Moves (s.refuseAtArrival seat r c) := by
  refine .trans ?_ (State.applyOutcome_moves _ seat c)
  split
  · exact s.append_moves ..
  · exact .refl

theorem State.enter_moves (s : State) (seat : Seat) (r : Request) : s.Moves (s.enter seat r) := by
  unfold State.enter
  dsimp only
  split
  · exact s.refuseAtArrival_moves ..
  · split
    · exact s.refuseAtArrival_moves ..
    · split
      · exact s.append_moves ..
      · exact s.refuseAtArrival_moves ..

/-! ### Writes -/

theorem State.setOrphanLimit_moves (s : State) (limit : Nat) : s.Moves (s.setOrphanLimit limit) := by
  have h1 : s.Moves { s with lbi := { s.lbi with orphan := { s.lbi.orphan with limit := limit } } } :=
    .beside rfl rfl (fun _ => rfl) rfl rfl
  unfold State.setOrphanLimit
  dsimp only
  split
  · exact .trans h1 (State.orphanBegins_moves _)
  · exact h1

theorem State.setPulse_moves (s : State) (n : PulseCh) (f : PulseFields) : s.Moves (s.setPulse n f) := by
  unfold State.setPulse
  dsimp only
  split
  · refine .trans ?_ (State.judgeProofOf_moves _ n)
    exact .beside rfl rfl (fun _ => rfl) rfl rfl
  · exact .beside rfl rfl (fun _ => rfl) rfl rfl

theorem State.setShutoff_moves (s : State) (c : OutCh) (f : ShutoffFields) : s.Moves (s.setShutoff c f) := by
  have h1 : s.Moves { s with shu := { s.shu with records := s.shu.records.update c fun sh =>
      { sh with mask := f.mask, line := f.line, pair := f.pair } } } := .beside rfl rfl (fun _ => rfl) rfl rfl
  unfold State.setShutoff
  dsimp only
  split
  · split
    · exact .trans h1 (State.forceOutputs_moves ..)
    · exact h1
  · exact .trans h1 (State.shutOffWhere_moves ..)

theorem State.dissolvePair_moves (s : State) (k : PairNo) (f : PairFields) : s.Moves (s.dissolvePair k f) := by
  have h1 : s.Moves (s.partPair k f) := .one (.part s k f)
  unfold State.dissolvePair
  dsimp only
  split
  · refine .trans (.trans h1 (State.forceOutputs_moves _ (ofPair k))) ?_
    exact .beside rfl rfl (fun _ => rfl) rfl rfl
  · exact .trans h1 (State.shutOffWhere_moves ..)

/-- A value that a field gives or keeps stays in range. -/
theorem keepOr_le {now v : Nat} {w : Word} (h : keepOr now w = some v) (hn : now ≤ 1000) : v ≤ 1000 := by
  simp only [keepOr, inRange?] at h
  split at h
  · cases h; exact hn
  · split at h
    · next hw => cases h; exact hw.2
    · cases h

/-- R12: limits that a write may leave. -/
theorem limitFields_le {rec : Record} {r : Request} {f : Nat × Nat} (h : limitFields rec r = some f) :
    f.1 ≤ f.2 ∧ (rec.staticMax ≤ 1000 → f.2 ≤ 1000) := by
  unfold limitFields at h
  split at h
  · simp only [Option.bind_eq_bind, Option.bind_eq_some_iff] at h
    obtain ⟨lo, -, hi, hhi, h⟩ := h
    split at h
    · next hle => cases h; exact ⟨hle, keepOr_le hhi⟩
    · cases h
  · cases h

/-- R10: a fallback value that a write may leave. -/
theorem fallbackFields_le {rec : Record} {r : Request} {f : FallbackMode × Nat} (h : fallbackFields rec r = some f)
    (hv : rec.fallbackValue ≤ 1000) : f.2 ≤ 1000 := by
  unfold fallbackFields at h
  split at h
  · split at h <;> simp only [Option.bind_eq_bind, Option.bind_eq_some_iff] at h
    all_goals
      obtain ⟨mode, -, v, hv', h⟩ := h
      cases h
      exact keepOr_le hv' hv
  · cases h

theorem timeFields_pumpMin {r : Request} {f : TimeFields} (h : timeFields r = some f) : f.pumpMin ≤ 1000 := by
  unfold timeFields at h
  split at h
  · simp only [Option.bind_eq_bind, Option.bind_eq_some_iff] at h
    obtain ⟨p, hp, dwell, -, grace, -, hf⟩ := h
    simp only [inRange?] at hp
    split at hp
    · next hw => cases hp; cases hf; exact hw.2
    · cases hp
  · cases h

end Sys2Proof.Machine
end

section
/-! SUPPORT. The commands, one by one, as chains of moves; and what every step then keeps. -/

namespace Sys2Proof.Machine

/-! ### Writes, item by item -/

section
variable (s : State) (seat : Seat)

theorem State.configWriteRankTable_moves {t : State} (h : execConfigWriteRankTable seat s = .next t) : s.Moves t := by
  cases h
  refine s.onWrite_moves seat _ fun i r v hv => ?_
  split at hv <;> cases hv
  exact .asService seat (.fields fun ranks _ => .accepted (.one (.ranks s ranks)))

theorem State.configWriteRoot_moves {t : State} (h : execConfigWriteRoot seat s = .next t) : s.Moves t := by
  cases h
  refine s.onWrite_moves seat _ fun i r v hv => ?_
  split at hv <;> cases hv
  exact .asService seat (.fields fun root _ => .accepted (.beside rfl rfl (fun _ => rfl) rfl rfl))

theorem State.configWriteWindow_moves {t : State} (h : execConfigWriteWindow seat s = .next t) : s.Moves t := by
  cases h
  refine s.onWrite_moves seat _ fun i r v hv => ?_
  split at hv <;> cases hv
  exact .asService seat (.fields fun w _ => .accepted (.beside rfl rfl (fun _ => rfl) rfl rfl))

theorem State.configWriteRosterEntry_moves {t : State} (h : execConfigWriteRosterEntry seat s = .next t) : s.Moves t := by
  cases h
  refine s.onWrite_moves seat _ fun i r v hv => ?_
  split at hv <;> cases hv
  refine .asService seat (.fields fun e _ => ?_)
  unfold State.rosterWrite
  split
  · exact .refused s _
  · split
    · exact .refused s _
    · exact .accepted (.beside rfl rfl (fun _ => rfl) rfl rfl)

theorem State.configWriteOrphanLimit_moves {t : State} (h : execConfigWriteOrphanLimit seat s = .next t) : s.Moves t := by
  cases h
  refine s.onWrite_moves seat _ fun i r v hv => ?_
  split at hv <;> cases hv
  exact .asService seat (.fields fun l _ => .accepted (s.setOrphanLimit_moves l))

theorem State.configWriteEventMask_moves {t : State} (h : execConfigWriteEventMask seat s = .next t) : s.Moves t := by
  cases h
  refine s.onWrite_moves seat _ fun i r v hv => ?_
  split at hv <;> cases hv
  split
  · exact .refused s _
  · exact .fields fun f _ => .accepted (.beside rfl rfl (fun _ => rfl) rfl rfl)

theorem State.configWriteStaticLimits_moves {t : State} (h : execConfigWriteStaticLimits seat s = .next t) : s.Moves t := by
  cases h
  refine s.onWrite_moves seat _ fun i r v hv => ?_
  split at hv <;> cases hv
  next c =>
  exact .asEditor seat (.fields fun f hf => .settingsWrite c
    (.one (.limits s c f.1 f.2 (limitFields_le hf).1 (limitFields_le hf).2)))

theorem State.configWriteFallback_moves {t : State} (h : execConfigWriteFallback seat s = .next t) : s.Moves t := by
  cases h
  refine s.onWrite_moves seat _ fun i r v hv => ?_
  split at hv <;> cases hv
  next c =>
  exact .asEditor seat (.fields fun f hf => .settingsWrite c (.one (.fallback s c f.1 f.2 (fallbackFields_le hf))))

theorem State.configWriteDefaultHold_moves {t : State} (h : execConfigWriteDefaultHold seat s = .next t) : s.Moves t := by
  cases h
  refine s.onWrite_moves seat _ fun i r v hv => ?_
  split at hv <;> cases hv
  next c => exact .asEditor seat (.fields fun hold _ => .settingsWrite c (.one (.defaultHold s c hold)))

theorem State.configWriteOutputPolarity_moves {t : State} (h : execConfigWriteOutputPolarity seat s = .next t) :
    s.Moves t := by
  cases h
  refine s.onWrite_moves seat _ fun i r v hv => ?_
  split at hv
  · next c =>
    obtain ⟨m, -, rfl⟩ := Option.map_eq_some_iff.1 hv
    exact .asEditor seat (.fields fun p _ => .settingsWrite c (.beside rfl rfl (fun _ => rfl) rfl rfl))
  · cases hv

theorem State.configWriteMinimumTimes_moves {t : State} (h : execConfigWriteMinimumTimes seat s = .next t) : s.Moves t := by
  cases h
  refine s.onWrite_moves seat _ fun i r v hv => ?_
  split at hv
  · next c =>
    obtain ⟨d, -, rfl⟩ := Option.map_eq_some_iff.1 hv
    exact .asEditor seat (.fields fun f _ => .settingsWrite c (.beside rfl rfl (fun _ => rfl) rfl rfl))
  · cases hv

theorem State.configWritePeriod_moves {t : State} (h : execConfigWritePeriod seat s = .next t) : s.Moves t := by
  cases h
  refine s.onWrite_moves seat _ fun i r v hv => ?_
  split at hv <;> cases hv
  exact .asEditor seat (.fields fun p _ => .accepted (.beside rfl rfl (fun _ => rfl) rfl rfl))

/-- A pair item write of one sort. -/
theorem State.onPairWrite_moves (sort : PairChange) (f : PairNo → PairFields → Verdict)
    (h : ∀ k x, (f k x).MovesFrom s) : s.Moves (s.onPairWrite seat sort f) := by
  refine s.onWrite_moves seat _ fun i r v hv => ?_
  split at hv
  · split at hv <;> cases hv
    exact .asEditor seat (.fields fun x _ => h _ x)
  · cases hv

theorem State.configWritePair_moves {t : State} (h : execConfigWritePair seat s = .next t) : s.Moves t := by
  cases h
  refine s.onPairWrite_moves seat _ _ fun k f => ?_
  split
  · exact .refused s _
  · exact .accepted (s.setPair_moves k f)

theorem State.pairForm_moves {t : State} (h : execPairForm seat s = .next t) : s.Moves t := by
  cases h
  refine s.onPairWrite_moves seat _ _ fun k f => ?_
  split
  · exact .refused s _
  · next hl =>
    split
    · exact .refused s _
    · exact .accepted (.one (.form s k f (by simp_all)))

theorem State.pairDissolve_moves {t : State} (h : execPairDissolve seat s = .next t) : s.Moves t := by
  cases h
  refine s.onPairWrite_moves seat _ _ fun k f => ?_
  split
  · exact .refused s _
  · exact .accepted (s.dissolvePair_moves k f)

theorem State.configWriteShutoff_moves {t : State} (h : execConfigWriteShutoff seat s = .next t) : s.Moves t := by
  cases h
  refine s.onWrite_moves seat _ fun i r v hv => ?_
  split at hv <;> cases hv
  refine .asEditor seat (.fields fun f _ => ?_)
  unfold State.shutoffWrite
  split
  · exact .refused s _
  · next c _ =>
    split
    · exact .refused s _
    · split
      · exact .refused s _
      · split
        · exact .refused s _
        · exact .accepted (s.setShutoff_moves c f)

theorem State.configWriteSensorSettings_moves {t : State} (h : execConfigWriteSensorSettings seat s = .next t) :
    s.Moves t := by
  cases h
  refine s.onWrite_moves seat _ fun i r v hv => ?_
  split at hv <;> cases hv
  exact .asEditor seat (.fields fun g _ => .accepted (.beside rfl rfl (fun _ => rfl) rfl rfl))

theorem State.configWriteReference_moves {t : State} (h : execConfigWriteReference seat s = .next t) : s.Moves t := by
  cases h
  refine s.onWrite_moves seat _ fun i r v hv => ?_
  split at hv <;> cases hv
  exact .asEditor seat (.fields fun g _ => .accepted (.beside rfl rfl (fun _ => rfl) rfl rfl))

theorem State.configWriteBreakpoint_moves {t : State} (h : execConfigWriteBreakpoint seat s = .next t) : s.Moves t := by
  cases h
  refine s.onWrite_moves seat _ fun i r v hv => ?_
  split at hv <;> cases hv
  refine .asEditor seat (.fields fun x _ => ?_)
  split
  · exact .refused s _
  · exact .accepted (.beside rfl rfl (fun _ => rfl) rfl rfl)

theorem State.configWriteScanRange_moves {t : State} (h : execConfigWriteScanRange seat s = .next t) : s.Moves t := by
  cases h
  refine s.onWrite_moves seat _ fun i r v hv => ?_
  split at hv <;> cases hv
  exact .asEditor seat (.fields fun g _ => .accepted (.beside rfl rfl (fun _ => rfl) rfl rfl))

theorem State.configWriteScanMode_moves {t : State} (h : execConfigWriteScanMode seat s = .next t) : s.Moves t := by
  cases h
  refine s.onWrite_moves seat _ fun i r v hv => ?_
  split at hv <;> cases hv
  exact .asEditor seat (.fields fun g _ => .accepted (.beside rfl rfl (fun _ => rfl) rfl rfl))

theorem State.configWritePulseSettings_moves {t : State} (h : execConfigWritePulseSettings seat s = .next t) :
    s.Moves t := by
  cases h
  refine s.onWrite_moves seat _ fun i r v hv => ?_
  split at hv <;> cases hv
  exact .asEditor seat (.fields fun f _ => .accepted (s.setPulse_moves _ f))

theorem State.configWriteCircuitSensors_moves {t : State} (h : execConfigWriteCircuitSensors seat s = .next t) :
    s.Moves t := by
  cases h
  refine s.onWrite_moves seat _ fun i r v hv => ?_
  split at hv <;> cases hv
  exact .circuitWrite seat fun _ => .fields fun set _ =>
    .accepted (s.setCircuit_moves _ _ ⟨rfl, rfl, rfl, rfl, rfl, id⟩)

theorem State.configWriteCircuitOutputs_moves {t : State} (h : execConfigWriteCircuitOutputs seat s = .next t) :
    s.Moves t := by
  cases h
  refine s.onWrite_moves seat _ fun i r v hv => ?_
  split at hv <;> cases hv
  exact .circuitWrite seat fun hd => .fields fun f _ => .accepted (.one (.outputs s _ f hd))

theorem State.configWriteCircuitFlow_moves {t : State} (h : execConfigWriteCircuitFlow seat s = .next t) : s.Moves t := by
  cases h
  refine s.onWrite_moves seat _ fun i r v hv => ?_
  split at hv <;> cases hv
  refine .circuitWrite seat fun _ => .fields fun f _ => .accepted (.trans ?_ (State.judgeProof_moves _ _))
  exact s.setCircuit_moves _ _ ⟨rfl, rfl, rfl, rfl, rfl, id⟩

theorem State.configWriteCircuitThresholds_moves {t : State} (h : execConfigWriteCircuitThresholds seat s = .next t) :
    s.Moves t := by
  cases h
  refine s.onWrite_moves seat _ fun i r v hv => ?_
  split at hv <;> cases hv
  exact .circuitWrite seat fun _ => .fields fun f _ =>
    .accepted (s.setCircuit_moves _ _ ⟨rfl, rfl, rfl, rfl, rfl, id⟩)

theorem State.configWriteCircuitTimes_moves {t : State} (h : execConfigWriteCircuitTimes seat s = .next t) : s.Moves t := by
  cases h
  refine s.onWrite_moves seat _ fun i r v hv => ?_
  split at hv <;> cases hv
  exact .circuitWrite seat fun _ => .fields fun f hf =>
    .accepted (s.setCircuit_moves _ _ ⟨rfl, rfl, rfl, rfl, rfl, fun _ => timeFields_pumpMin hf⟩)

end

/-! ### Requests of the other kinds -/

section
variable (s : State) (seat : Seat)

theorem State.configRead_moves {t : State} (h : execConfigRead seat s = .next t) : s.Moves t := by
  cases h
  refine s.onRequest_moves seat _ _ fun r => ?_
  split
  · exact s.answer_moves ..
  · split <;> exact s.answer_moves ..

theorem State.configWriteOther_moves {t : State} (h : execConfigWriteOther seat s = .next t) : s.Moves t := by
  cases h
  refine s.onRequest_moves seat _ _ fun r => ?_
  split
  · exact s.answer_moves ..
  · split
    · exact s.answer_moves ..
    · exact .refl

theorem State.onFlush_moves (form : Nat) (f : Request → State) (h : ∀ r, s.Moves (f r)) :
    s.Moves (s.onFlush seat form f) := by
  refine s.onRequest_moves seat _ _ fun r => ?_
  split
  · exact h r
  · split
    · exact s.answer_moves ..
    · exact .refl

theorem State.flushNamed_moves (r : Request) (f : Seat → State) (h : ∀ q, s.Moves (f q)) :
    s.Moves (s.flushNamed seat r f) := by
  unfold State.flushNamed
  split
  · exact s.answer_moves ..
  · split
    · exact s.answer_moves ..
    · exact (h _).answer ..

theorem State.flushAll_moves {t : State} (h : execFlushAll seat s = .next t) : s.Moves t := by
  cases h
  refine s.onFlush_moves seat _ _ fun r => ?_
  split
  · exact s.answer_moves ..
  · refine State.Moves.answer ?_ ..
    exact .beside rfl rfl (fun _ => rfl) rfl rfl

theorem State.directoryAccess_moves (r : Request) (data : Option DirWord) :
    s.Moves (s.directoryAccess seat r data) := by
  unfold State.directoryAccess
  split
  · exact s.answer_moves ..
  · split
    · exact s.answer_moves ..
    · dsimp only
      split
      · exact .trans (s.setService_moves ..) (State.markNoLoad_moves ..)
      · exact s.setService_moves ..

theorem State.setDirectory_moves (r : Request) (isOpen : Bool) : s.Moves (s.setDirectory seat r isOpen) := by
  unfold State.setDirectory
  split
  · exact s.answer_moves ..
  · refine State.Moves.answer ?_ ..
    exact .beside rfl rfl (fun _ => rfl) rfl rfl

theorem State.onScan_moves (form : Nat) (f : Request → State) (h : ∀ r, s.Moves (f r)) :
    s.Moves (s.onScan seat form f) := by
  refine s.onRequest_moves seat _ _ fun r => ?_
  dsimp only
  split
  · split
    · exact s.answer_moves ..
    · split
      · exact h r
      · exact s.answer_moves ..
  · exact .refl

theorem State.startScan_moves (mode : ScanMode) (r : Request) : s.Moves (s.startScan seat mode r) := by
  unfold State.startScan
  split
  · exact s.answer_moves ..
  · refine State.Moves.answer ?_ ..
    exact .beside rfl rfl (fun _ => rfl) rfl rfl

theorem State.onCircuit_moves (form : Nat) (f : Request → CircuitNo → State) (h : ∀ r n, s.Moves (f r n)) :
    s.Moves (s.onCircuit seat form f) := by
  refine s.onRequest_moves seat _ _ fun r => ?_
  dsimp only
  split
  · split
    · exact s.answer_moves ..
    · split
      · exact s.answer_moves ..
      · split
        · exact h r _
        · exact s.answer_moves ..
  · exact .refl

theorem State.circuitEnable_moves {t : State} (h : execCircuitEnable seat s = .next t) : s.Moves t := by
  cases h
  refine s.onCircuit_moves seat _ _ fun r n => ?_
  dsimp only
  split
  · exact s.answer_moves ..
  · split
    · exact s.answer_moves ..
    · refine State.Moves.answer ?_ ..
      exact .one (.circuit s n _ (.evaluate _ _ rfl rfl rfl rfl))

theorem State.circuitDisable_moves {t : State} (h : execCircuitDisable seat s = .next t) : s.Moves t := by
  cases h
  refine s.onCircuit_moves seat _ _ fun r n => ?_
  dsimp only
  split
  · split
    · exact s.answer_moves ..
    · refine State.Moves.answer ?_ ..
      exact .one (.circuit s n _ (.disable _))
  · exact s.answer_moves ..

theorem State.releaseLockout_moves {t : State} (h : execReleaseLockout seat s = .next t) : s.Moves t := by
  cases h
  refine s.onRequest_moves seat _ _ fun r => ?_
  split
  · exact s.answer_moves ..
  · split
    · exact s.answer_moves ..
    · dsimp only
      split
      · split
        · refine State.Moves.answer ?_ ..
          exact .one (.circuit s _ _ (.evaluate _ _ rfl rfl rfl rfl))
        · exact s.answer_moves ..
      · exact s.answer_moves ..

theorem State.rearm_moves {t : State} (h : execRearm seat s = .next t) : s.Moves t := by
  cases h
  refine s.onRequest_moves seat _ _ fun r => ?_
  split
  · exact s.answer_moves ..
  · split
    · exact s.answer_moves ..
    · split
      · exact s.answer_moves ..
      · next c _ =>
        split
        · exact s.answer_moves ..
        · split
          · exact s.answer_moves ..
          · split
            · exact s.answer_moves ..
            · exact (s.rearmChannel_moves c).answer ..

theorem State.reinstate_moves {t : State} (h : execReinstate seat s = .next t) : s.Moves t := by
  cases h
  refine s.onRequest_moves seat _ _ fun r => ?_
  split
  · exact s.answer_moves ..
  · split
    · exact s.answer_moves ..
    · split
      · refine State.Moves.answer ?_ ..
        exact .one (.count ..)
      · exact s.answer_moves ..

theorem State.restart_moves {t : State} (h : execRestart seat s = .next t) : s.Moves t := by
  cases h
  refine s.onRequest_moves seat _ _ fun r => ?_
  split
  · exact s.answer_moves ..
  · exact .trans (s.handReply_moves ..) (State.setService_moves ..)

end

/-! ### Links, timers, measurement and the walker -/

section
variable (s : State)

theorem State.busFrameReceive_moves {frame : Frame} {t : State} (h : execBusFrameReceive frame s = .next t) :
    s.Moves t := by
  cases h
  split
  · exact .refl
  · split
    · exact .refl
    · split
      · exact .refl
      · refine .trans ?_ (State.enter_moves ..)
        split
        · exact .refl
        · exact s.orphanHeard_moves

theorem State.serviceFrameReceive_moves {frame : Frame} {t : State}
    (h : execServiceFrameReceive frame s = .next t) : s.Moves t := by
  cases h
  split
  · exact .refl
  · exact s.enter_moves ..

theorem State.handlerTakeHead_moves {seat : Seat} {t : State} (h : execHandlerTakeHead seat s = .next t) :
    s.Moves t := by
  cases h
  split
  · dsimp only
    split
    · exact .beside rfl rfl (fun _ => rfl) rfl rfl
    · refine .trans ?_ (State.handReply_moves ..)
      exact .beside rfl rfl (fun _ => rfl) rfl rfl
  · exact .refl
  · exact .refl

theorem State.demandHoldExpiry_moves {c : OutCh} {seat : Seat} {t : State}
    (h : execDemandHoldExpiry c seat s = .next t) : s.Moves t := by
  cases h
  split
  · exact .one (.remove ..)
  · exact .refl

theorem State.dirPortGrant_moves {t : State} (h : execDirPortGrant s = .next t) : s.Moves t := by
  cases h
  split
  · split
    · exact .refl
    · split
      · exact .refl
      · dsimp only
        split
        · refine State.Moves.answer ?_ ..
          exact .beside rfl rfl (fun _ => rfl) rfl rfl
        · refine State.Moves.answer ?_ ..
          exact .beside rfl rfl (fun _ => rfl) rfl rfl
  · exact .refl

theorem State.completeConversion_moves (v : Conversion) (o : ConversionOutcome) :
    s.Moves (s.completeConversion v o) := by
  unfold State.completeConversion
  dsimp only
  refine .trans ?_ (State.evaluateGuarding_moves ..)
  exact .beside (by simp) (by simp) (by simp) (by simp) (by simp)

theorem State.referencePhaseEnd_moves {count : BitVec 24} {t : State} (h : execReferencePhaseEnd count s = .next t) :
    s.Moves t := by
  cases h
  split
  · split
    · split
      · exact s.completeConversion_moves ..
      · exact .beside rfl rfl (fun _ => rfl) rfl rfl
    · exact .refl
  · exact .refl

theorem State.sensorPhaseEnd_moves {count : BitVec 24} {t : State} (h : execSensorPhaseEnd count s = .next t) :
    s.Moves t := by
  cases h
  split
  · split
    · exact s.completeConversion_moves ..
    · exact .refl
  · exact .refl

theorem State.setChannel_moves (ch : PulseCh) (p : PulseChannel) : s.Moves (s.setChannel ch p) :=
  .beside rfl rfl (fun _ => rfl) rfl rfl

theorem State.pulseRisingEdge_moves {ch : PulseCh} {us : Nat} {t : State}
    (h : execPulseRisingEdge ch us s = .next t) : s.Moves t := by
  cases h
  dsimp only
  split
  · split
    · exact .trans (s.setChannel_moves ..) (State.judgeProofOf_moves ..)
    · exact s.setChannel_moves ..
  · exact .refl

theorem State.pulseTimeoutExpiry_moves {ch : PulseCh} {t : State} (h : execPulseTimeoutExpiry ch s = .next t) :
    s.Moves t := by
  cases h
  dsimp only
  split
  · exact .trans (s.setChannel_moves ..) (State.judgeProofOf_moves ..)
  · exact .refl

theorem State.flowGraceExpiry_moves {n : CircuitNo} {t : State} (h : execFlowGraceExpiry n s = .next t) :
    s.Moves t := by
  cases h
  dsimp only
  split
  · refine .trans ?_ (State.evaluate_moves _ n)
    exact s.setCircuit_moves n _ ⟨rfl, rfl, rfl, rfl, rfl, id⟩
  · exact .refl

theorem State.tripDwellExpiry_moves {n : CircuitNo} {t : State} (h : execTripDwellExpiry n s = .next t) :
    s.Moves t := by
  cases h
  dsimp only
  split
  · refine .trans (.trans ?_ (State.raiseAll_moves _ .lockout)) (State.evaluate_moves _ n)
    exact .one (.circuit s n _ (.withStage _ rfl rfl rfl rfl))
  · exact .refl

theorem State.discreteMinimumReached_moves {d : DiscCh} {t : State}
    (h : execDiscreteMinimumReached d s = .next t) : s.Moves t := by
  cases h
  split
  · exact .beside rfl rfl (fun _ => rfl) rfl rfl
  · exact .refl

theorem State.emergencyInAssert_moves {t : State} (h : execEmergencyInAssert s = .next t) : s.Moves t := by
  cases h
  split
  · exact .refl
  · refine .trans ?_ (State.causeBegins_moves ..)
    exact .beside rfl rfl (fun _ => rfl) rfl rfl

theorem State.orphanTimerExpiry_moves {t : State} (h : execOrphanTimerExpiry s = .next t) : s.Moves t := by
  cases h
  split
  · exact s.orphanBegins_moves
  · exact .refl

theorem State.replySentWhole_moves {link : Link} {t : State} (h : execReplySentWhole link s = .next t) :
    s.Moves t := by
  cases h
  cases link <;> exact .beside rfl rfl (fun _ => rfl) rfl rfl

theorem State.walkGrant_moves {t : State} (h : execWalkGrant s = .next t) : s.Moves t := by
  cases h
  split
  · exact .refl
  · split
    · exact .refl
    · next seat _ =>
      dsimp only
      have h1 : s.Moves { s with lbi := { s.lbi with arbiter :=
          { waiting := s.lbi.arbiter.waiting.write seat false, last := seat, chosen := none } } } :=
        .beside rfl rfl (fun _ => rfl) rfl rfl
      split
      · exact .trans h1 (State.settleArbiter_moves _)
      · split
        · split
          · split
            · exact .beside rfl rfl (fun _ => rfl) rfl rfl
            · exact .trans h1 (State.endWalk_moves ..)
          · exact .trans (h1.answer ..) (State.settleArbiter_moves _)
        all_goals exact .trans h1 (State.settleArbiter_moves _)

theorem State.walkZoneRead_moves {t : State} (h : execWalkZoneRead s = .next t) : s.Moves t := by
  cases h
  split
  · split
    · split
      · exact s.walkRead_moves ..
      · exact .refl
    all_goals exact .refl
  · exact .refl

theorem State.walkGroupRead_moves {t : State} (h : execWalkGroupRead s = .next t) : s.Moves t := by
  cases h
  split
  · split
    · split
      · exact s.endWalk_moves ..
      · split
        · exact s.walkRead_moves ..
        · exact .refl
    all_goals exact .refl
  · exact .refl

theorem State.walkPointRead_moves {t : State} (h : execWalkPointRead s = .next t) : s.Moves t := by
  cases h
  split
  · split
    · split
      · exact s.endWalk_moves ..
      · split
        · exact s.walkRead_moves ..
        · exact .refl
    all_goals exact .refl
  · exact .refl

theorem State.walkLinkTargetRead_moves {t : State} (h : execWalkLinkTargetRead s = .next t) : s.Moves t := by
  cases h
  split
  · split
    · split
      · exact s.walkRead_moves ..
      · exact .refl
    all_goals exact .refl
  · exact .refl

theorem State.walkMarkWrite_moves {t : State} (h : execWalkMarkWrite s = .next t) : s.Moves t := by
  cases h
  split
  · split
    · split
      · refine .trans ?_ (State.walkOn_moves ..)
        exact .beside rfl rfl (fun _ => rfl) rfl rfl
      · exact .refl
    all_goals exact .refl
  · exact .refl

end

/-! ### Every step -/

/-- Every command is a chain of moves, but for a warm restart and the power-on reset. -/
theorem exec_cases {i : Instr} {s t : State} (h : exec i s = .next t) :
    s.Moves t ∨ t = s.warmRestart ∨ ∃ st, t = State.powerOn st s.shu.emergencyIn s.pending s.moment := by
  cases i with
  | restartTake =>
    rw [← Host.Outcome.next.inj h]
    split
    · exact .inr (.inl rfl)
    · exact .inl .refl
  | restartIn => exact .inr (.inl (Host.Outcome.next.inj h).symm)
  | powerOnReset st => exact .inr (.inr ⟨st, (Host.Outcome.next.inj h).symm⟩)
  | busFrameReceive => exact .inl (s.busFrameReceive_moves h)
  | serviceFrameReceive => exact .inl (s.serviceFrameReceive_moves h)
  | handlerTakeHead => exact .inl (s.handlerTakeHead_moves h)
  | hello => cases h; exact .inl (s.onRequest_moves _ _ _ fun r => s.answer_moves ..)
  | set | release | read => cases h; exact .inl (s.onRequest_moves _ _ _ fun r => s.resolve_moves ..)
  | demandHoldExpiry => exact .inl (s.demandHoldExpiry_moves h)
  | flushPoint | flushSeat =>
    cases h
    exact .inl (s.onFlush_moves _ _ _ fun r => s.flushNamed_moves _ r _ fun q =>
      .beside rfl rfl (fun _ => rfl) rfl rfl)
  | flushAll seat => exact .inl (s.flushAll_moves seat h)
  | dirRead | dirWrite => cases h; exact .inl (s.onRequest_moves _ _ _ fun r => s.directoryAccess_moves ..)
  | dirPortGrant => exact .inl (s.dirPortGrant_moves h)
  | configRead seat => exact .inl (s.configRead_moves seat h)
  | configWriteRankTable seat => exact .inl (s.configWriteRankTable_moves seat h)
  | configWriteRoot seat => exact .inl (s.configWriteRoot_moves seat h)
  | configWriteWindow seat => exact .inl (s.configWriteWindow_moves seat h)
  | configWriteRosterEntry seat => exact .inl (s.configWriteRosterEntry_moves seat h)
  | configWriteOrphanLimit seat => exact .inl (s.configWriteOrphanLimit_moves seat h)
  | configWriteEventMask seat => exact .inl (s.configWriteEventMask_moves seat h)
  | configWriteStaticLimits seat => exact .inl (s.configWriteStaticLimits_moves seat h)
  | configWriteFallback seat => exact .inl (s.configWriteFallback_moves seat h)
  | configWriteDefaultHold seat => exact .inl (s.configWriteDefaultHold_moves seat h)
  | configWriteOutputPolarity seat => exact .inl (s.configWriteOutputPolarity_moves seat h)
  | configWriteMinimumTimes seat => exact .inl (s.configWriteMinimumTimes_moves seat h)
  | configWritePeriod seat => exact .inl (s.configWritePeriod_moves seat h)
  | configWritePair seat => exact .inl (s.configWritePair_moves seat h)
  | pairForm seat => exact .inl (s.pairForm_moves seat h)
  | pairDissolve seat => exact .inl (s.pairDissolve_moves seat h)
  | configWriteShutoff seat => exact .inl (s.configWriteShutoff_moves seat h)
  | configWriteSensorSettings seat => exact .inl (s.configWriteSensorSettings_moves seat h)
  | configWriteReference seat => exact .inl (s.configWriteReference_moves seat h)
  | configWriteBreakpoint seat => exact .inl (s.configWriteBreakpoint_moves seat h)
  | configWriteScanRange seat => exact .inl (s.configWriteScanRange_moves seat h)
  | configWriteScanMode seat => exact .inl (s.configWriteScanMode_moves seat h)
  | configWritePulseSettings seat => exact .inl (s.configWritePulseSettings_moves seat h)
  | configWriteCircuitSensors seat => exact .inl (s.configWriteCircuitSensors_moves seat h)
  | configWriteCircuitOutputs seat => exact .inl (s.configWriteCircuitOutputs_moves seat h)
  | configWriteCircuitFlow seat => exact .inl (s.configWriteCircuitFlow_moves seat h)
  | configWriteCircuitThresholds seat => exact .inl (s.configWriteCircuitThresholds_moves seat h)
  | configWriteCircuitTimes seat => exact .inl (s.configWriteCircuitTimes_moves seat h)
  | configWriteOther seat => exact .inl (s.configWriteOther_moves seat h)
  | openDirectory | closeDirectory =>
    cases h; exact .inl (s.onRequest_moves _ _ _ fun r => s.setDirectory_moves ..)
  | scanStart | scanSingle => cases h; exact .inl (s.onScan_moves _ _ _ fun r => s.startScan_moves ..)
  | scanStop =>
    cases h
    refine .inl (s.onScan_moves _ _ _ fun r => State.Moves.answer ?_ ..)
    exact .beside rfl rfl (fun _ => rfl) rfl rfl
  | referencePhaseEnd => exact .inl (s.referencePhaseEnd_moves h)
  | sensorPhaseEnd => exact .inl (s.sensorPhaseEnd_moves h)
  | pulseRisingEdge => exact .inl (s.pulseRisingEdge_moves h)
  | pulseTimeoutExpiry => exact .inl (s.pulseTimeoutExpiry_moves h)
  | flowGraceExpiry => exact .inl (s.flowGraceExpiry_moves h)
  | tripDwellExpiry => exact .inl (s.tripDwellExpiry_moves h)
  | circuitEnable seat => exact .inl (s.circuitEnable_moves seat h)
  | circuitDisable seat => exact .inl (s.circuitDisable_moves seat h)
  | releaseLockout seat => exact .inl (s.releaseLockout_moves seat h)
  | periodEnd g => cases h; exact .inl (s.endPeriod_moves g)
  | pairPermilleStep | overdriveEnd | syncEnd | deadTimeExpiry | safeEndExpiry | unsyncedSafeDriveEnd =>
    cases h; exact .inl (s.onPair_moves ..)
  | discreteMinimumReached => exact .inl (s.discreteMinimumReached_moves h)
  | emergencyInAssert => exact .inl (s.emergencyInAssert_moves h)
  | rearm seat => exact .inl (s.rearm_moves seat h)
  | events | clear =>
    cases h
    refine .inl (s.onRequest_moves _ _ _ fun r => State.Moves.answer ?_ ..)
    exact .beside rfl rfl (fun _ => rfl) rfl rfl
  | reinstate seat => exact .inl (s.reinstate_moves seat h)
  | orphanTimerExpiry => exact .inl (s.orphanTimerExpiry_moves h)
  | emergencyInDeassert | replyTransmit | replyReadbackAbandon | serviceReplyTransmit =>
    cases h; exact .inl (.beside rfl rfl (fun _ => rfl) rfl rfl)
  | walkGrant => exact .inl (s.walkGrant_moves h)
  | walkZoneRead => exact .inl (s.walkZoneRead_moves h)
  | walkGroupRead => exact .inl (s.walkGroupRead_moves h)
  | walkPointRead => exact .inl (s.walkPointRead_moves h)
  | walkLinkTargetRead => exact .inl (s.walkLinkTargetRead_moves h)
  | walkMarkWrite => exact .inl (s.walkMarkWrite_moves h)
  | restart seat => exact .inl (s.restart_moves seat h)
  | frameReceptionCutShort => cases h; exact .inl .refl
  | replySentWhole => exact .inl (s.replySentWhole_moves h)

/-- A tick is a chain of moves: the hold time base ticks, and no other time base reaches the command table. -/
theorem State.tick_moves (s : State) : s.Moves s.tick := by
  have h1 : s.Moves { s with cmdt := s.cmdt.tick } := .one (.holdTick s)
  refine .trans (.trans h1 ?_) (.trans (State.endPeriod_moves _ 0) (.trans (State.endPeriod_moves _ 1)
    (State.endPeriod_moves _ 2)))
  refine .one (.aside ⟨rfl, rfl, fun k => ?_, rfl, fun n => ?_⟩)
  · simp only [Odu.tick, Odu.formed, Bank.read_fill, Pair.change_isFormed]
  · simp only [State.circuit, Bank.read_fill]
    exact ⟨rfl, rfl, rfl, rfl, rfl, id⟩

/-- R157: a warm restart, once each block has been cleared, is a chain of moves. -/
theorem State.warmRestart_moves (s : State) : s.restartBlocks.Moves s.warmRestart := by
  have h1 : s.restartBlocks.Moves s.restartBlocks.evaluateAll :=
    State.foldl_moves _ (fun s n => s.evaluate_moves n) _ _
  exact .trans h1 (.trans (.one (.settle _)) (State.shutOffWhere_moves ..))

/-- What a step keeps: a property that reads neither the queue nor anything a move does not keep, and that the two
restarts keep. -/
theorem step_keeps {P : State → Prop} (hqueue : ∀ s l, P s → P { s with pending := l })
    (hmove : ∀ s t, s.Move t → P s → P t) (hrestart : ∀ s, P s → P s.warmRestart)
    (hpower : ∀ st e l m, P (State.powerOn st e l m)) {s t : State} (hs : P s) (h : step s = .next t) : P t := by
  have hexec : ∀ {i : Instr} {s t : State}, P s → exec i s = .next t → P t := by
    intro i s t hs h
    rcases exec_cases h with h | rfl | ⟨st, rfl⟩
    · exact h.keeps hmove hs
    · exact hrestart s hs
    · exact hpower ..
  unfold step at h
  split at h
  · exact hexec (hqueue s _ hs) h
  · unfold State.idle at h
    split at h
    · exact hexec hs h
    · cases h; exact s.tick_moves.keeps hmove hs

end Sys2Proof.Machine
end

section
/-! SUPPORT. What each move leaves in a record, in the standings, in the formed pairs and in the circuits. -/

namespace Sys2Proof.Machine

/-! ### Formed pairs -/

theorem Odu.oddMember_iff (o : Odu) (c : OutCh) :
    o.oddMember c = true ↔ ∃ k, o.formed k = true ∧ c = oddCh k := by
  constructor
  · intro h
    simp only [Odu.oddMember, Odu.member, pairOf, index?, Bool.and_eq_true, beq_iff_eq] at h
    obtain ⟨hm, hodd⟩ := h
    by_cases hk : c.val / 2 < 12
    · simp only [hk, dif_pos] at hm
      refine ⟨⟨c.val / 2, hk⟩, hm, Fin.ext ?_⟩
      simp only [oddCh]
      omega
    · simp [hk] at hm
  · rintro ⟨k, hk, rfl⟩
    have h1 : (oddCh k).val / 2 = k.val := by simp only [oddCh]; omega
    have h2 : (oddCh k).val % 2 = 1 := by simp only [oddCh]; omega
    simp [Odu.oddMember, Odu.member, pairOf, h1, h2, hk]

theorem oddCh_injective {k k' : PairNo} (h : oddCh k = oddCh k') : k = k' := by
  have := congrArg Fin.val h
  simp only [oddCh] at this
  exact Fin.ext (by omega)

/-- The odd channel of a pair is an odd member exactly where the pair is formed. -/
theorem Odu.oddMember_oddCh (o : Odu) (k : PairNo) : o.oddMember (oddCh k) = o.formed k := by
  rw [Bool.eq_iff_iff, Odu.oddMember_iff]
  constructor
  · rintro ⟨k', hk, e⟩
    rwa [oddCh_injective e]
  · exact fun h => ⟨k, h, rfl⟩

/-- A pair replaced makes no other channel an odd member, nor stops one. -/
theorem Odu.oddMember_write (o : Odu) (mods : Bank Modulated 24) (k : PairNo) (q : Pair) (c : OutCh) :
    ({ o with pairs := o.pairs.write k q, mods := mods } : Odu).oddMember c =
      if c = oddCh k then q.isFormed else o.oddMember c := by
  split
  · next h =>
    subst h
    simp [Odu.oddMember_oddCh, Odu.formed]
  · next h =>
    rw [Bool.eq_iff_iff, Odu.oddMember_iff, Odu.oddMember_iff]
    refine exists_congr fun k' => and_congr_left fun hc => ?_
    have hk : k ≠ k' := fun e => h (hc.trans (e ▸ rfl))
    simp [Odu.formed, Bank.read_write_ne _ _ hk]

@[simp] theorem State.formPair_oddMember (s : State) (k : PairNo) (f : PairFields) (c : OutCh) :
    (s.formPair k f).odu.oddMember c = if c = oddCh k then true else s.odu.oddMember c :=
  s.odu.oddMember_write s.odu.mods k _ c

@[simp] theorem State.partPair_oddMember (s : State) (k : PairNo) (f : PairFields) (c : OutCh) :
    (s.partPair k f).odu.oddMember c = if c = oddCh k then false else s.odu.oddMember c :=
  s.odu.oddMember_write _ k _ c

theorem State.formPair_record (s : State) (k : PairNo) (f : PairFields) (c : OutCh) :
    (s.formPair k f).record c =
      if c = oddCh k then { (s.record c).remove (fun _ => true) with winner := none } else s.record c := by
  simp only [State.formPair, State.record, Bank.update, Bank.read_write]
  by_cases h : c = oddCh k
  · subst h; simp
  · simp [h, Ne.symm h]

theorem State.partPair_record (s : State) (k : PairNo) (f : PairFields) (c : OutCh) :
    (s.partPair k f).record c = if c = oddCh k then (s.record c).resume else s.record c := by
  simp only [State.partPair, State.record, Bank.read_write]
  by_cases h : c = oddCh k
  · subst h; simp
  · simp [h, Ne.symm h]

/-! ### Standings -/

@[simp] theorem busSeat?_seatOf (b : BusSeat) : busSeat? (seatOf b) = some b := by
  have : b.val < 3 := b.isLt
  simp [busSeat?, seatOf, index?, this]

theorem seatOf_of_busSeat? {q : Seat} {b : BusSeat} (h : busSeat? q = some b) : seatOf b = q := by
  simp only [busSeat?, index?] at h
  split at h
  · cases h; rfl
  · cases h

/-- R151, R152: a count set changes the standing of its own seat alone. -/
theorem State.standing_counted {s t : State} {b : BusSeat} {n : Nat} (h : t.lbi.faults = s.lbi.faults.write b n)
    (q : Seat) : t.standing q = if q = seatOf b then standingOf n else s.standing q := by
  simp only [State.standing, h]
  cases hb : busSeat? q with
  | none =>
    have hq : q ≠ seatOf b := by rintro rfl; simp at hb
    simp [hq]
  | some b' =>
    have e := seatOf_of_busSeat? hb
    simp only [Bank.read_write]
    by_cases hbb : b = b'
    · subst hbb; simp [e]
    · have hq : q ≠ seatOf b := by
        rintro rfl
        simp only [busSeat?_seatOf, Option.some.injEq] at hb
        exact hbb hb
      simp [hbb, hq]

theorem State.setCount_standing (s : State) (b : BusSeat) (n : Nat) (q : Seat) :
    (s.setCount b n).standing q = if q = seatOf b then standingOf n else s.standing q :=
  State.standing_counted (by simp) q

theorem State.standing_seatOf (s : State) (b : BusSeat) :
    s.standing (seatOf b) = standingOf (s.lbi.faults.read b) := by simp [State.standing]

@[simp] theorem State.withRecords_standing (s : State) (f : OutCh → Record → Record) :
    (s.withRecords f).standing = s.standing := State.standing_of_faults rfl

@[simp] theorem State.placeDemand_standing (s : State) (c : OutCh) (seat : Seat) (d : Slot) :
    (s.placeDemand c seat d).standing = s.standing := State.standing_of_faults (by simp)

@[simp] theorem State.removeDemands_standing (s : State) (f : OutCh → Bool) (p : Seat → Bool) :
    (s.removeDemands f p).standing = s.standing := State.standing_of_faults (by simp)

@[simp] theorem State.changeCircuit_standing (s : State) (n : CircuitNo) (now : Circuit) :
    (s.changeCircuit n now).standing = s.standing := State.standing_of_faults (by simp)

@[simp] theorem State.setCount_oddMember (s : State) (b : BusSeat) (n : Nat) (c : OutCh) :
    (s.setCount b n).odu.oddMember c = s.odu.oddMember c := by
  unfold State.setCount State.takeStanding
  dsimp only
  split
  · rfl
  · split <;> simp

@[simp] theorem State.setCount_ranks (s : State) (b : BusSeat) (n : Nat) :
    (s.setCount b n).cmdt.ranks = s.cmdt.ranks := by
  unfold State.setCount State.takeStanding
  dsimp only
  split
  · rfl
  · split <;> simp

/-- A removal of demands, record by record. -/
theorem State.removeDemands_record (s : State) (f : OutCh → Bool) (p : Seat → Bool) (c : OutCh) :
    (s.removeDemands f p).record c =
      if s.odu.oddMember c = false ∧ f c = true ∧ ∃ q, p q = true ∧ (s.record c).slot q ≠ none then
        s.judgeRecord ((s.record c).remove p)
      else s.record c := by
  have hany : ((List.finRange 4).any fun q => p q && ((s.record c).slot q).isSome) = true ↔
      ∃ q, p q = true ∧ (s.record c).slot q ≠ none := by
    simp [Option.isSome_iff_ne_none, List.mem_finRange]
  simp only [State.removeDemands, State.withRecords_record, Bool.and_eq_true, hany]
  cases s.odu.oddMember c <;> simp

/-- A seat's fault count set and STANDING raised in its set (R152), before its records are judged anew. -/
def State.countRaised (s : State) (b : BusSeat) (n : Nat) : State :=
  { s with
    lbi := { s.lbi with faults := s.lbi.faults.write b n }
    evu := s.evu.raiseIn (seatOf b) .standing }

/-- R152: a count that leaves its class for another than BARRED. -/
theorem State.setCount_moved (s : State) (b : BusSeat) (n : Nat) (h : standingOf n ≠ s.standing (seatOf b))
    (hb : standingOf n ≠ .barred) :
    s.setCount b n = (s.countRaised b n).withRecords fun _ r =>
      if (r.slot (seatOf b)).isSome then (s.countRaised b n).judgeRecord r else r := by
  rw [State.standing_seatOf] at h
  unfold State.setCount State.takeStanding
  dsimp only
  rw [if_neg h, if_neg hb]
  rfl

/-- R18, R152: a count that takes its seat into BARRED. -/
theorem State.setCount_barred (s : State) (b : BusSeat) (n : Nat) (h : standingOf n ≠ s.standing (seatOf b))
    (hb : standingOf n = .barred) :
    s.setCount b n =
      let t := (s.countRaised b n).removeDemands (fun _ => true) (fun q => q == seatOf b)
      { t with lbi := { t.lbi with lines := t.lbi.lines.update (seatOf b) (List.map IntakeEntry.bar) } } := by
  rw [State.standing_seatOf] at h
  unfold State.setCount State.takeStanding
  dsimp only
  rw [if_neg h, if_pos hb]
  rfl

/-- R18, R152: a count set, record by record: where the standing changes, a record in use that holds a slot of the seat
is judged anew, without that slot where the seat has become BARRED. -/
theorem State.setCount_record (s : State) (b : BusSeat) (n : Nat) (c : OutCh) :
    (s.setCount b n).record c =
      if s.odu.oddMember c = false ∧ standingOf n ≠ s.standing (seatOf b) ∧ (s.record c).slot (seatOf b) ≠ none then
        (s.setCount b n).judgeRecord
          (if standingOf n = .barred then (s.record c).remove (· == seatOf b) else s.record c)
      else s.record c := by
  have hj : ∀ r : Record, (s.setCount b n).judgeRecord r = (s.countRaised b n).judgeRecord r := by
    intro r
    simp only [State.judgeRecord, State.setCount_ranks,
      State.standing_of_faults (s := s.countRaised b n) (s.setCount_lbi_faults b n)]
    rfl
  have hr : (s.countRaised b n).record c = s.record c := rfl
  have ho : (s.countRaised b n).odu.oddMember c = s.odu.oddMember c := rfl
  by_cases hst : standingOf n = s.standing (seatOf b)
  · rw [State.setCount_same s b n (by rw [hst, s.standing_seatOf]), if_neg fun h => h.2.1 hst]
    rfl
  · rw [hj]
    by_cases hb : standingOf n = .barred
    · have e : (s.setCount b n).record c =
          ((s.countRaised b n).removeDemands (fun _ => true) (fun q => q == seatOf b)).record c := by
        rw [s.setCount_barred b n hst hb]
        rfl
      rw [e, State.removeDemands_record, hr, ho]
      rw [hb] at hst ⊢
      simp [hst]
    · rw [s.setCount_moved b n hst hb, State.withRecords_record, hr, ho]
      simp only [Option.isSome_iff_ne_none]
      cases s.odu.oddMember c <;> simp [hst, hb]

/-- R18: a count set, slot by slot: only an entry into BARRED removes any, and only the seat's own. -/
theorem State.setCount_slot (s : State) (b : BusSeat) (n : Nat) (c : OutCh) (q : Seat) :
    ((s.setCount b n).record c).slot q =
      if s.odu.oddMember c = false ∧ standingOf n ≠ s.standing (seatOf b) ∧ standingOf n = .barred ∧ q = seatOf b
      then none else (s.record c).slot q := by
  rw [State.setCount_record]
  by_cases hc : s.odu.oddMember c = false ∧ standingOf n ≠ s.standing (seatOf b) ∧
      (s.record c).slot (seatOf b) ≠ none
  · rw [if_pos hc]
    simp only [Record.slot, State.judgeRecord, Record.judge_slots]
    by_cases hb : standingOf n = .barred
    · rw [if_pos hb]
      refine (Record.remove_slot _ _ q).trans ?_
      simp [hc.1, hb ▸ hc.2.1, hb, Record.slot]
    · simp [hb]
  · rw [if_neg hc]
    split
    · next h =>
      obtain ⟨h1, h2, -, rfl⟩ := h
      exact not_not.1 fun h3 => hc ⟨h1, h2, h3⟩
    · rfl

/-! ### Circuits -/

/-- R108 to R110: a changed circuit, as the hand-over of its bounds from a state that has the new circuit. -/
theorem State.changeCircuit_eq (s : State) (n : CircuitNo) (now : Circuit) :
    ∃ u : State, u.cmdt = s.cmdt ∧ (∀ k, u.odu.formed k = s.odu.formed k) ∧ u.lbi = s.lbi ∧
      u.circuits = s.circuits.write n now ∧
      s.changeCircuit n now = u.handBounds n (s.circuit n).bounds now.bounds := by
  refine ⟨_, ?_, ?_, ?_, ?_, rfl⟩ <;> split <;> simp [State.causeBegins]

@[simp] theorem State.changeCircuit_ranks (s : State) (n : CircuitNo) (now : Circuit) :
    (s.changeCircuit n now).cmdt.ranks = s.cmdt.ranks := by
  obtain ⟨u, hc, -, -, -, e⟩ := s.changeCircuit_eq n now
  simp [e, State.handBounds, hc]

theorem State.changeCircuit_circuits (s : State) (n : CircuitNo) (now : Circuit) :
    (s.changeCircuit n now).circuits = s.circuits.write n now := by
  obtain ⟨u, -, -, -, hn, e⟩ := s.changeCircuit_eq n now
  simp [e, hn]

theorem State.changeCircuit_circuit (s : State) (n : CircuitNo) (now : Circuit) (m : CircuitNo) :
    (s.changeCircuit n now).circuit m = if n = m then now else s.circuit m := by
  simp only [State.circuit, State.changeCircuit_circuits, Bank.read_write]

@[simp] theorem State.changeCircuit_oddMember (s : State) (n : CircuitNo) (now : Circuit) (c : OutCh) :
    (s.changeCircuit n now).odu.oddMember c = s.odu.oddMember c := by
  obtain ⟨u, -, hf, -, -, e⟩ := s.changeCircuit_eq n now
  simp [e, Odu.oddMember_congr hf]

/-- R13, R108: a changed circuit, record by record. -/
theorem State.changeCircuit_record (s : State) (n : CircuitNo) (now : Circuit) (c : OutCh) :
    (s.changeCircuit n now).record c =
      if s.odu.oddMember c = false ∧ (s.record c).circuit = some n ∧
          (s.circuit n).bounds.forRole (s.record c).role c ≠ now.bounds.forRole (s.record c).role c then
        Record.settle { s.record c with bound := now.bounds.forRole (s.record c).role c }
      else s.record c := by
  obtain ⟨u, hc, hf, -, -, e⟩ := s.changeCircuit_eq n now
  have hr : u.record c = s.record c := by simp only [State.record, hc]
  rw [e, State.handBounds, State.withRecords_record, Odu.oddMember_congr hf, hr]
  cases s.odu.oddMember c <;> simp

/-! ### What the changes of records leave of rank table, standings and formed pairs -/

@[simp] theorem State.setRanks_ranks (s : State) (ranks : Bank Seat 4) : (s.setRanks ranks).cmdt.ranks = ranks := rfl

@[simp] theorem State.setRanks_standing (s : State) (ranks : Bank Seat 4) :
    (s.setRanks ranks).standing = s.standing := State.standing_of_faults rfl

@[simp] theorem State.setRanks_oddMember (s : State) (ranks : Bank Seat 4) (c : OutCh) :
    (s.setRanks ranks).odu.oddMember c = s.odu.oddMember c := by simp [State.setRanks]

@[simp] theorem State.setLimits_ranks (s : State) (c : OutCh) (lo hi : Nat) :
    (s.setLimits c lo hi).cmdt.ranks = s.cmdt.ranks := by simp [State.setLimits]

@[simp] theorem State.setLimits_standing (s : State) (c : OutCh) (lo hi : Nat) :
    (s.setLimits c lo hi).standing = s.standing := State.standing_of_faults rfl

@[simp] theorem State.setLimits_oddMember (s : State) (c : OutCh) (lo hi : Nat) (c' : OutCh) :
    (s.setLimits c lo hi).odu.oddMember c' = s.odu.oddMember c' := by simp [State.setLimits]

@[simp] theorem State.setFallback_ranks (s : State) (c : OutCh) (mode : FallbackMode) (v : Nat) :
    (s.setFallback c mode v).cmdt.ranks = s.cmdt.ranks := by simp [State.setFallback]

@[simp] theorem State.setFallback_standing (s : State) (c : OutCh) (mode : FallbackMode) (v : Nat) :
    (s.setFallback c mode v).standing = s.standing := State.standing_of_faults rfl

@[simp] theorem State.setFallback_oddMember (s : State) (c : OutCh) (mode : FallbackMode) (v : Nat) (c' : OutCh) :
    (s.setFallback c mode v).odu.oddMember c' = s.odu.oddMember c' := by simp [State.setFallback]

@[simp] theorem State.setDefaultHold_ranks (s : State) (c : OutCh) (hold : Nat) :
    (s.setDefaultHold c hold).cmdt.ranks = s.cmdt.ranks := by simp [State.setDefaultHold]

@[simp] theorem State.setDefaultHold_standing (s : State) (c : OutCh) (hold : Nat) :
    (s.setDefaultHold c hold).standing = s.standing := State.standing_of_faults rfl

@[simp] theorem State.setDefaultHold_oddMember (s : State) (c : OutCh) (hold : Nat) (c' : OutCh) :
    (s.setDefaultHold c hold).odu.oddMember c' = s.odu.oddMember c' := by simp [State.setDefaultHold]

@[simp] theorem State.setOutputs_ranks (s : State) (n : CircuitNo) (f : OutputFields) :
    (s.setOutputs n f).cmdt.ranks = s.cmdt.ranks := by simp [State.setOutputs, State.setCircuit]

@[simp] theorem State.setOutputs_standing (s : State) (n : CircuitNo) (f : OutputFields) :
    (s.setOutputs n f).standing = s.standing := State.standing_of_faults rfl

@[simp] theorem State.setOutputs_oddMember (s : State) (n : CircuitNo) (f : OutputFields) (c : OutCh) :
    (s.setOutputs n f).odu.oddMember c = s.odu.oddMember c := by simp [State.setOutputs, State.setCircuit]

@[simp] theorem State.settleAll_ranks (s : State) :
    s.settleAll.cmdt.ranks = s.cmdt.ranks := by simp [State.settleAll]

@[simp] theorem State.settleAll_standing (s : State) :
    s.settleAll.standing = s.standing := State.standing_of_faults rfl

@[simp] theorem State.settleAll_oddMember (s : State) (c : OutCh) :
    s.settleAll.odu.oddMember c = s.odu.oddMember c := by simp [State.settleAll]

@[simp] theorem State.setRanks_circuits (s : State) (ranks : Bank Seat 4) :
    (s.setRanks ranks).circuits = s.circuits := by simp [State.setRanks]

@[simp] theorem State.setLimits_circuits (s : State) (c : OutCh) (lo hi : Nat) :
    (s.setLimits c lo hi).circuits = s.circuits := by simp [State.setLimits]

@[simp] theorem State.setFallback_circuits (s : State) (c : OutCh) (mode : FallbackMode) (v : Nat) :
    (s.setFallback c mode v).circuits = s.circuits := by simp [State.setFallback]

@[simp] theorem State.setDefaultHold_circuits (s : State) (c : OutCh) (hold : Nat) :
    (s.setDefaultHold c hold).circuits = s.circuits := by simp [State.setDefaultHold]

@[simp] theorem State.settleAll_circuits (s : State) :
    s.settleAll.circuits = s.circuits := by simp [State.settleAll]

/-! ### Other moves, record by record -/

theorem State.placeDemand_record (s : State) (c : OutCh) (seat : Seat) (d : Slot) (c' : OutCh) :
    (s.placeDemand c seat d).record c' =
      if c' = c ∧ s.odu.oddMember c' = false then s.judgeRecord ((s.record c').place seat d) else s.record c' :=
  s.withRecord_record ..

theorem State.setRanks_record (s : State) (ranks : Bank Seat 4) (c : OutCh) :
    (s.setRanks ranks).record c =
      if s.odu.oddMember c = true then s.record c else (s.record c).judge ranks s.standing :=
  State.withRecords_record ..

theorem State.setLimits_record (s : State) (c : OutCh) (lo hi : Nat) (c' : OutCh) :
    (s.setLimits c lo hi).record c' =
      if c' = c ∧ s.odu.oddMember c' = false then
        Record.settle { s.record c' with staticMin := lo, staticMax := hi }
      else s.record c' := s.withRecord_record ..

theorem State.setFallback_record (s : State) (c : OutCh) (mode : FallbackMode) (v : Nat) (c' : OutCh) :
    (s.setFallback c mode v).record c' =
      if c' = c ∧ s.odu.oddMember c' = false then
        s.judgeRecord { s.record c' with fallbackMode := mode, fallbackValue := v }
      else s.record c' := s.withRecord_record ..

theorem State.setDefaultHold_record (s : State) (c : OutCh) (hold : Nat) (c' : OutCh) :
    (s.setDefaultHold c hold).record c' =
      if c' = c ∧ s.odu.oddMember c' = false then { s.record c' with defaultHold := hold } else s.record c' :=
  s.withRecord_record ..

/-- The circuit whose lists an outputs write replaces. -/
def State.withLists (s : State) (n : CircuitNo) (f : OutputFields) : Circuit :=
  { s.circuit n with fans := f.fans, bypass := f.bypass, pumps := f.pumps }

theorem State.setOutputs_record (s : State) (n : CircuitNo) (f : OutputFields) (c : OutCh) :
    (s.setOutputs n f).record c =
      if s.odu.oddMember c = true then s.record c else (s.record c).takeRole n (s.withLists n f) c :=
  State.withRecords_record ..

theorem State.setOutputs_circuit (s : State) (n : CircuitNo) (f : OutputFields) (m : CircuitNo) :
    (s.setOutputs n f).circuit m = if n = m then s.withLists n f else s.circuit m := by
  simp only [State.setOutputs, State.circuit, State.withRecords_circuits, State.setCircuit, Bank.read_write,
    State.withLists]

theorem State.settleAll_record (s : State) (c : OutCh) :
    s.settleAll.record c = if s.odu.oddMember c = true then s.record c else (s.record c).settle :=
  State.withRecords_record ..

theorem State.restartBlocks_record (s : State) (c : OutCh) :
    s.restartBlocks.record c = if s.odu.oddMember c = true then s.record c else (s.record c).clearDemands := by
  simp only [State.restartBlocks, State.record, Bank.read_fill]

theorem State.restartBlocks_circuit (s : State) (n : CircuitNo) :
    s.restartBlocks.circuit n = (s.circuit n).restartTimers := by
  simp only [State.restartBlocks, State.circuit, Bank.read_fill]

theorem Cmdt.tick_ranks (x : Cmdt) : x.tick.ranks = x.ranks := by
  unfold Cmdt.tick
  split <;> rfl

theorem Cmdt.tick_record (x : Cmdt) (c : OutCh) :
    x.tick.records.read c = if x.holdPhase + 1 < 10 then x.records.read c else (x.records.read c).tick := by
  unfold Cmdt.tick
  split <;> simp

end Sys2Proof.Machine
end

section
/-! SUPPORT. What a judgement of a record leaves: winner, values and effective command; and the laws of a record in use
that every move keeps. -/

namespace Sys2Proof.Machine

/-! ### Winners -/

/-- The choice of a winner reads which slots are held, and the standings of the seats that hold one. -/
theorem chooseWinner_of_holders {ranks : Bank Seat 4} {st st' : Seat → Standing} {r r' : Record}
    (hslot : ∀ q, (r'.slot q).isSome = (r.slot q).isSome) (hst : ∀ q, r.slot q ≠ none → st' q = st q) :
    chooseWinner ranks st' r' = chooseWinner ranks st r := by
  have hp : ∀ x : Standing, (fun q => (r'.slot q).isSome && st' q == x) = fun q => (r.slot q).isSome && st q == x := by
    intro x
    funext q
    rw [hslot]
    by_cases h : r.slot q = none
    · simp [h]
    · rw [hst q h]
  simp only [chooseWinner, hp]

theorem chooseWinner_of_empty {ranks : Bank Seat 4} {st : Seat → Standing} {r : Record} (h : ∀ q, r.slot q = none) :
    chooseWinner ranks st r = none := by
  simp [chooseWinner, firstRanked, h]

/-- R8: a winner holds a slot. -/
theorem slot_of_chooseWinner {ranks : Bank Seat 4} {st : Seat → Standing} {r : Record} {q : Seat}
    (h : chooseWinner ranks st r = some q) : ∃ d, r.slot q = some d := by
  have hp : (r.slot q).isSome = true := by
    unfold chooseWinner at h
    split at h
    · next q' hq =>
      cases h
      have := List.find?_some hq
      simp only [Bool.and_eq_true] at this
      exact this.1
    · have := List.find?_some h
      simp only [Bool.and_eq_true] at this
      exact this.1
  exact Option.isSome_iff_exists.1 hp

/-! ### Values -/

/-- R10, R11: the fallback's value, by its mode and the last-won value. -/
theorem Record.fallback_eq (r : Record) : r.fallback = match r.fallbackMode, r.lastWon with
    | .holdLast, some v => v
    | .holdLast, none => r.fallbackValue
    | .fixed, _ => r.fallbackValue := by
  unfold Record.fallback
  cases r.fallbackMode <;> cases r.lastWon <;> rfl

/-- R8, R10, R11: a record's arbitrated and last-won values are the winner's; with none, the fallback's. -/
def Record.Valued (x : Record) : Prop :=
  (∀ q, x.winner = some q → ∃ d, x.slot q = some d ∧ x.arbitrated = d.value ∧ x.lastWon = some d.value) ∧
    (x.winner = none → x.arbitrated = match x.fallbackMode, x.lastWon with
      | .holdLast, some v => v
      | .holdLast, none => x.fallbackValue
      | .fixed, _ => x.fallbackValue)

/-- R8, R10, R11: a re-arbitration with a winner. -/
theorem Record.rearbitrate_of_winner {ranks : Bank Seat 4} {st : Seat → Standing} {r : Record} {q : Seat} {d : Slot}
    (h : chooseWinner ranks st r = some q) (hd : r.slot q = some d) :
    r.rearbitrate ranks st = { r with winner := some q, arbitrated := d.value, lastWon := some d.value } := by
  simp only [Record.rearbitrate, h, hd, Option.map_some, Option.getD_some]

/-- R10, R11: a re-arbitration with no winner. -/
theorem Record.rearbitrate_of_none {ranks : Bank Seat 4} {st : Seat → Standing} {r : Record}
    (h : chooseWinner ranks st r = none) :
    r.rearbitrate ranks st = { r with winner := none, arbitrated := r.fallback } := by
  simp only [Record.rearbitrate, h]

theorem Record.rearbitrate_valued (ranks : Bank Seat 4) (st : Seat → Standing) (r : Record) :
    (r.rearbitrate ranks st).Valued := by
  cases h : chooseWinner ranks st r with
  | none =>
    rw [Record.rearbitrate_of_none h]
    exact ⟨fun q hq => (Option.noConfusion rfl (heq_of_eq hq)), fun _ => r.fallback_eq⟩
  | some q =>
    obtain ⟨d, hd⟩ := slot_of_chooseWinner h
    rw [Record.rearbitrate_of_winner h hd]
    refine ⟨fun q' hq => ?_, fun hn => (Option.noConfusion rfl (heq_of_eq hn))⟩
    cases hq
    exact ⟨d, hd, rfl, rfl⟩

/-! ### Records in range -/

theorem Record.limited_le {r : Record} (hle : r.staticMin ≤ r.staticMax) : r.limited ≤ r.staticMax := by
  unfold Record.limited
  split
  · exact hle
  · split <;> omega

theorem Bound.apply_le {b : Bound} {v n : Nat} (hv : v ≤ n) (hf : ∀ f, b = .floor f → f ≤ n) : b.apply v ≤ n := by
  cases b with
  | none => exact hv
  | ceiling c => exact le_trans (Nat.min_le_left v c) hv
  | floor f => exact Nat.max_le.2 ⟨hv, hf f rfl⟩

theorem Record.inRange.settle {r : Record} (h : r.inRange) : r.settle.inRange := by
  obtain ⟨hslot, harb, hlast, hfb, hle, hmax, hceil, hfloor, -⟩ := h
  exact ⟨hslot, harb, hlast, hfb, hle, hmax, hceil, hfloor,
    Bound.apply_le (le_trans (Record.limited_le hle) hmax) hfloor⟩

theorem Record.inRange.fallback_le {r : Record} (h : r.inRange) : r.fallback ≤ 1000 := by
  obtain ⟨-, -, hlast, hfb, -⟩ := h
  unfold Record.fallback
  split
  · exact hfb
  · cases hl : r.lastWon with
    | none => exact hfb
    | some v => exact hlast v hl

theorem Record.inRange.rearbitrate {r : Record} (h : r.inRange) (ranks : Bank Seat 4) (st : Seat → Standing) :
    (r.rearbitrate ranks st).inRange := by
  obtain ⟨hslot, harb, hlast, hrest⟩ := h
  cases hw : chooseWinner ranks st r with
  | none =>
    rw [Record.rearbitrate_of_none hw]
    exact ⟨hslot, Record.inRange.fallback_le ⟨hslot, harb, hlast, hrest⟩, hlast, hrest⟩
  | some q =>
    obtain ⟨d, hd⟩ := slot_of_chooseWinner hw
    rw [Record.rearbitrate_of_winner hw hd]
    refine ⟨hslot, hslot q d hd, fun v hv => ?_, hrest⟩
    cases hv
    exact hslot q d hd

theorem Record.inRange.judge {r : Record} (h : r.inRange) (ranks : Bank Seat 4) (st : Seat → Standing) :
    (r.judge ranks st).inRange := (h.rearbitrate ranks st).settle

theorem Record.inRange.remove {r : Record} (h : r.inRange) (p : Seat → Bool) : (r.remove p).inRange := by
  obtain ⟨hslot, hrest⟩ := h
  refine ⟨fun q d hd => ?_, hrest⟩
  rw [Record.remove_slot] at hd
  split at hd
  · cases hd
  · exact hslot q d hd

theorem Record.inRange.place {r : Record} (h : r.inRange) (seat : Seat) {d : Slot} (hd : d.value ≤ 1000) :
    (r.place seat d).inRange := by
  obtain ⟨hslot, hrest⟩ := h
  refine ⟨fun q e he => ?_, hrest⟩
  rw [Record.place_slot] at he
  split at he
  · cases he; exact hd
  · exact hslot q e he

theorem Record.tick_slot (r : Record) (q : Seat) : r.tick.slot q = (r.slot q).map Slot.tick := by
  simp [Record.tick, Record.slot]

theorem Slot.tick_value (d : Slot) : d.tick.value = d.value := by
  unfold Slot.tick
  split <;> rfl

theorem Record.inRange.tick {r : Record} (h : r.inRange) : r.tick.inRange := by
  obtain ⟨hslot, hrest⟩ := h
  refine ⟨fun q d hd => ?_, hrest⟩
  rw [Record.tick_slot, Option.map_eq_some_iff] at hd
  obtain ⟨e, he, rfl⟩ := hd
  rw [Slot.tick_value]
  exact hslot q e he

/-- R107: a bound that bounds in range give a role is in range. -/
theorem Bounds.inRange.forRole {b : Bounds} (h : b.inRange) (role : Role) (c : OutCh) :
    (∀ v, b.forRole role c = .ceiling v → v ≤ 1000) ∧ ∀ v, b.forRole role c = .floor v → v ≤ 1000 := by
  obtain ⟨hf, hb, hm, hd⟩ := h
  have hfloor : ∀ (o : Option Nat), (∀ v, o = some v → v ≤ 1000) →
      (∀ v, (match o with | some v => Bound.floor v | none => .none) = .ceiling v → v ≤ 1000) ∧
      ∀ v, (match o with | some v => Bound.floor v | none => .none) = .floor v → v ≤ 1000 := by
    intro o ho
    cases o with
    | none => simp
    | some w => simpa using ho w rfl
  cases role with
  | none => simp [Bounds.forRole]
  | fan =>
    cases hc : b.fanCeiling with
    | none => simp [Bounds.forRole, hc]
    | some w => simpa [Bounds.forRole, hc] using hf w hc
  | bypass => exact hfloor _ hb
  | pump =>
    refine hfloor _ ?_
    split
    · exact hd
    · exact hm

/-! ### Laws of a record in use -/

/-- A law of records, by the rank table and the standings, that the moves keep: a judgement gives it, and what else a
move does to a record keeps it. -/
structure Record.Law (Q : Bank Seat 4 → (Seat → Standing) → Record → Prop) : Prop where
  judge : ∀ ranks st (r : Record), Q ranks st (r.judge ranks st)
  resume : ∀ ranks st (r : Record), Q ranks st r.resume
  limits : ∀ {ranks st} {r : Record} (lo hi : Nat), Q ranks st r →
    Q ranks st (Record.settle { r with staticMin := lo, staticMax := hi })
  bound : ∀ {ranks st} {r : Record} (b : Bound) (role : Role) (n : Option CircuitNo), Q ranks st r →
    Q ranks st (Record.settle { r with bound := b, role := role, circuit := n })
  defaultHold : ∀ {ranks st} {r : Record} (hold : Nat), Q ranks st r → Q ranks st { r with defaultHold := hold }
  tick : ∀ {ranks st} {r : Record}, Q ranks st r → Q ranks st r.tick
  standing : ∀ {ranks st st'} {r : Record}, (∀ q, r.slot q ≠ none → st' q = st q) → Q ranks st r → Q ranks st' r

/-- Every record but that of a formed pair's odd channel meets the law. -/
def State.Obeys (Q : Bank Seat 4 → (Seat → Standing) → Record → Prop) (s : State) : Prop :=
  ∀ c, s.odu.oddMember c = false → Q s.cmdt.ranks s.standing (s.record c)

/-- A role taken or lost is a bound taken or lost. -/
theorem Record.Law.takeRole {Q : Bank Seat 4 → (Seat → Standing) → Record → Prop} (hQ : Record.Law Q)
    {ranks : Bank Seat 4} {st : Seat → Standing} {r : Record} (n : CircuitNo) (x : Circuit) (c : OutCh)
    (h : Q ranks st r) : Q ranks st (r.takeRole n x c) := by
  unfold Record.takeRole
  split
  · exact hQ.bound _ _ _ h
  · split
    · exact hQ.bound _ _ _ h
    · exact h

/-- What a law asks of the records in use, every move keeps. -/
theorem Record.Law.move {Q : Bank Seat 4 → (Seat → Standing) → Record → Prop} (hQ : Record.Law Q) (s t : State)
    (h : s.Move t) (hs : s.Obeys Q) : t.Obeys Q := by
  intro c hc
  cases h with
  | aside h =>
    rw [h.oddMember] at hc
    rw [h.record, h.cmdt, State.standing_of_faults h.faults]
    exact hs c hc
  | count b n =>
    rw [State.setCount_oddMember] at hc
    rw [State.setCount_record, State.setCount_ranks]
    split
    · simp only [State.judgeRecord, State.setCount_ranks]
      exact hQ.judge s.cmdt.ranks _ _
    · next hno =>
      refine hQ.standing (fun q hq => ?_) (hs c hc)
      rw [State.setCount_standing]
      split
      · next e =>
        subst e
        by_contra hne
        exact hno ⟨hc, hne, hq⟩
      · rfl
  | place c' seat d hst hv =>
    rw [State.placeDemand_oddMember] at hc
    rw [State.placeDemand_record, State.placeDemand_ranks, State.placeDemand_standing]
    split
    · exact hQ.judge s.cmdt.ranks s.standing _
    · exact hs c hc
  | remove f p =>
    rw [State.removeDemands_oddMember] at hc
    rw [State.removeDemands_record, State.removeDemands_ranks, State.removeDemands_standing]
    split
    · exact hQ.judge s.cmdt.ranks s.standing _
    · exact hs c hc
  | circuit n now h =>
    rw [State.changeCircuit_oddMember] at hc
    rw [State.changeCircuit_record, State.changeCircuit_ranks, State.changeCircuit_standing]
    split
    · exact hQ.bound _ _ _ (hs c hc)
    · exact hs c hc
  | ranks ranks =>
    rw [State.setRanks_oddMember] at hc
    rw [State.setRanks_ranks, State.setRanks_standing, State.setRanks_record, if_neg (by simp [hc])]
    exact hQ.judge ranks s.standing _
  | limits c' lo hi hle hhi =>
    rw [State.setLimits_oddMember] at hc
    rw [State.setLimits_ranks, State.setLimits_standing, State.setLimits_record]
    split
    · exact hQ.limits lo hi (hs c hc)
    · exact hs c hc
  | fallback c' mode v hv =>
    rw [State.setFallback_oddMember] at hc
    rw [State.setFallback_ranks, State.setFallback_standing, State.setFallback_record]
    split
    · exact hQ.judge s.cmdt.ranks s.standing _
    · exact hs c hc
  | defaultHold c' hold =>
    rw [State.setDefaultHold_oddMember] at hc
    rw [State.setDefaultHold_ranks, State.setDefaultHold_standing, State.setDefaultHold_record]
    split
    · exact hQ.defaultHold hold (hs c hc)
    · exact hs c hc
  | outputs n f hd =>
    rw [State.setOutputs_oddMember] at hc
    rw [State.setOutputs_ranks, State.setOutputs_standing, State.setOutputs_record, if_neg (by simp [hc])]
    exact hQ.takeRole n _ c (hs c hc)
  | form k f hl =>
    rw [State.formPair_oddMember] at hc
    split at hc
    · cases hc
    · next hne =>
      rw [State.formPair_record, if_neg hne]
      exact hs c hc
  | part k f =>
    rw [State.partPair_record]
    split
    · exact hQ.resume _ _ _
    · next hne =>
      rw [State.partPair_oddMember, if_neg hne] at hc
      exact hs c hc
  | settle =>
    rw [State.settleAll_oddMember] at hc
    rw [State.settleAll_ranks, State.settleAll_standing, State.settleAll_record, if_neg (by simp [hc])]
    exact hQ.bound _ _ _ (hs c hc)
  | holdTick =>
    show Q s.cmdt.tick.ranks s.standing (s.cmdt.tick.records.read c)
    rw [Cmdt.tick_ranks, Cmdt.tick_record]
    split
    · exact hs c hc
    · exact hQ.tick (hs c hc)

/-- R8: the winner is the one chosen. -/
theorem winnerLaw : Record.Law fun ranks st r => r.winner = chooseWinner ranks st r where
  judge ranks st r := by
    rw [Record.judge_winner]
    exact (chooseWinner_congr (Record.judge_slots ranks st r) ranks st).symm
  resume ranks st r := by
    refine (chooseWinner_of_empty fun q => ?_).symm
    exact (Record.remove_slot r _ q).trans (if_pos rfl)
  limits lo hi h := h
  bound b role n h := h
  defaultHold hold h := h
  tick {ranks st r} h := h.trans (chooseWinner_of_holders (fun q => by simp [Record.tick_slot]) fun _ _ => rfl).symm
  standing hst h := h.trans (chooseWinner_of_holders (fun _ => rfl) hst).symm

/-- R13: the effective command is settled. -/
theorem settledLaw : Record.Law fun _ _ r => r.effective = r.bound.apply r.limited where
  judge _ _ _ := rfl
  resume _ _ _ := rfl
  limits _ _ _ := rfl
  bound _ _ _ _ := rfl
  defaultHold _ h := h
  tick h := h
  standing _ h := h

/-- R8, R10, R11: the values are the winner's, or the fallback's. -/
theorem valuedLaw : Record.Law fun _ _ r => r.Valued where
  judge ranks st r := Record.rearbitrate_valued ranks st r
  resume _ _ r := ⟨fun q hq => Option.noConfusion rfl (heq_of_eq hq), fun _ => r.fallback_eq⟩
  limits _ _ h := h
  bound _ _ _ h := h
  defaultHold _ h := h
  tick {_ _ r} h := by
    refine ⟨fun q hq => ?_, h.2⟩
    obtain ⟨d, hd, ha, hl⟩ := h.1 q hq
    refine ⟨d.tick, by rw [Record.tick_slot, hd]; rfl, ?_, ?_⟩
    · rw [Slot.tick_value]; exact ha
    · rw [Slot.tick_value]; exact hl
  standing _ h := h

end Sys2Proof.Machine
end

section
/-! SUPPORT. The invariants of the command table, kept by every step. -/

namespace Sys2Proof.Machine

/-! ### Warm restart and power-on -/

@[simp] theorem State.restartBlocks_oddMember (s : State) (c : OutCh) :
    s.restartBlocks.odu.oddMember c = s.odu.oddMember c :=
  congrArg (Odu.oddMember · c) (by simp only [State.restartBlocks])

theorem State.restartBlocks_standing (s : State) : s.restartBlocks.standing = s.standing :=
  State.standing_of_faults rfl

theorem Record.clearDemands_slot (r : Record) (q : Seat) : r.clearDemands.slot q = none :=
  (Record.remove_slot r _ q).trans (if_pos rfl)

/-- The blocks cleared keep a law that a record without demands meets. -/
theorem Record.Law.restartBlocks {Q : Bank Seat 4 → (Seat → Standing) → Record → Prop}
    (hclear : ∀ ranks st (r : Record), Q ranks st r.clearDemands) (s : State) : s.restartBlocks.Obeys Q := by
  intro c hc
  rw [State.restartBlocks_oddMember] at hc
  rw [State.restartBlocks_record, if_neg (by simp [hc])]
  exact hclear _ _ _

@[simp] theorem State.powerOn_record (st : Straps) (e : Bool) (l : List Instr) (m : Nat) (c : OutCh) :
    (State.powerOn st e l m).record c = Record.powerOn (powerOnFallback st.pumpPosture c) := by
  simp [State.powerOn, State.record, Cmdt.powerOn]

@[simp] theorem State.powerOn_circuit (st : Straps) (e : Bool) (l : List Instr) (m : Nat) (n : CircuitNo) :
    (State.powerOn st e l m).circuit n = Circuit.powerOn := by
  simp [State.powerOn, State.circuit]

theorem powerOnFallback_le (b : Bool) (c : OutCh) : powerOnFallback b c ≤ 1000 := by
  unfold powerOnFallback
  split <;> omega

@[simp] theorem Record.powerOn_slot (v : Nat) (q : Seat) : (Record.powerOn v).slot q = none := by
  simp [Record.powerOn, Record.slot]

theorem Record.powerOn_settled {v : Nat} (hv : v ≤ 1000) :
    (Record.powerOn v).effective = (Record.powerOn v).bound.apply (Record.powerOn v).limited := by
  have h : ¬1000 < v := by omega
  simp [Record.powerOn, Bound.apply, Record.limited, h]

theorem Record.powerOn_valued (v : Nat) : (Record.powerOn v).Valued :=
  ⟨fun _ hq => Option.noConfusion rfl (heq_of_eq hq), fun _ => rfl⟩

/-- A law that a record cleared of its demands meets, and one at power-on reset, is kept by every step. -/
theorem step_keeps_law {Q : Bank Seat 4 → (Seat → Standing) → Record → Prop} (hQ : Record.Law Q)
    (hclear : ∀ ranks st (r : Record), Q ranks st r.clearDemands)
    (hpower : ∀ ranks st v, v ≤ 1000 → Q ranks st (Record.powerOn v)) {s t : State} (hs : s.Obeys Q)
    (h : step s = .next t) : t.Obeys Q := by
  refine step_keeps (P := State.Obeys Q) (fun s l hs => hs) hQ.move (fun s _ => ?_) (fun st e l m c _ => ?_) hs h
  · exact s.warmRestart_moves.keeps hQ.move (Record.Law.restartBlocks hclear s)
  · rw [State.powerOn_record]
    exact hpower _ _ _ (powerOnFallback_le _ _)

theorem step_winnersRight {s t : State} (hs : s.winnersRight) (h : step s = .next t) : t.winnersRight := by
  refine step_keeps_law winnerLaw (fun ranks st r => ?_) (fun ranks st v _ => ?_) hs h
  · exact (chooseWinner_of_empty r.clearDemands_slot).symm
  · exact (chooseWinner_of_empty (Record.powerOn_slot v)).symm

theorem step_valuesRight {s t : State} (hs : s.valuesRight) (h : step s = .next t) : t.valuesRight := by
  refine step_keeps_law valuedLaw (fun _ _ r => ?_) (fun _ _ v _ => Record.powerOn_valued v) hs h
  exact ⟨fun _ hq => Option.noConfusion rfl (heq_of_eq hq), fun _ => r.fallback_eq⟩

theorem Record.settle_effective (r : Record) : r.settle.effective = r.settle.bound.apply r.settle.limited := rfl

/-- R20: a warm restart settles every record in use, whatever it was. -/
theorem State.warmRestart_settled (s : State) : s.warmRestart.commandsSettled := by
  have hset : s.restartBlocks.evaluateAll.settleAll.Obeys fun _ _ r => r.effective = r.bound.apply r.limited := by
    intro c hc
    rw [State.settleAll_oddMember] at hc
    rw [State.settleAll_record, if_neg (by simp [hc])]
    exact Record.settle_effective _
  unfold State.warmRestart State.shutOffHeld
  exact (State.shutOffWhere_moves ..).keeps settledLaw.move hset

theorem step_commandsSettled {s t : State} (hs : s.commandsSettled) (h : step s = .next t) : t.commandsSettled := by
  refine step_keeps (fun s l hs => hs) settledLaw.move (fun s _ => s.warmRestart_settled) (fun st e l m c _ => ?_) hs h
  rw [State.powerOn_record]
  exact Record.powerOn_settled (powerOnFallback_le _ _)

/-! ### Slots -/

/-- R1, R2: every move keeps BARRED seats and odd members of formed pairs without slots. -/
theorem State.Move.slotsAllowed {s t : State} (h : s.Move t) (hs : s.slotsAllowed) : t.slotsAllowed := by
  obtain ⟨hbar, hodd⟩ := hs
  -- where no slot is new, and standings and formed pairs stay, nothing is to be shown
  have kept : ∀ u : State, u.standing = s.standing → (∀ c, u.odu.oddMember c = s.odu.oddMember c) →
      (∀ c q, (s.record c).slot q = none → (u.record c).slot q = none) → u.slotsAllowed := by
    intro u hst hom hslot
    refine ⟨fun c q h => hslot c q (hbar c q ?_), fun c q h => hslot c q (hodd c q ?_)⟩
    · rw [← hst]; exact h
    · rw [← hom]; exact h
  cases h with
  | aside h =>
    refine kept t (State.standing_of_faults h.faults) h.oddMember fun c q hq => ?_
    rwa [h.record]
  | count b n =>
    refine ⟨fun c q hq => ?_, fun c q hq => ?_⟩
    · rw [State.setCount_standing] at hq
      rw [State.setCount_slot]
      split
      · rfl
      · next hno =>
        split at hq
        · next e =>
          subst e
          cases ho : s.odu.oddMember c with
          | true => exact hodd c _ ho
          | false =>
            refine hbar c _ (not_not.1 fun h3 => hno ⟨ho, ?_, hq, rfl⟩)
            rw [hq]; exact fun e => h3 e.symm
        · exact hbar c q hq
    · rw [State.setCount_oddMember] at hq
      rw [State.setCount_slot, hodd c q hq]
      simp
  | place c' seat d hst hv =>
    refine ⟨fun c q h => ?_, fun c q h => ?_⟩
    · rw [State.placeDemand_standing] at h
      rw [State.placeDemand_slot, if_neg]
      · exact hbar c q h
      · rintro ⟨-, rfl, -⟩
        exact hst h
    · rw [State.placeDemand_oddMember] at h
      rw [State.placeDemand_slot, if_neg (by rintro ⟨rfl, -, h'⟩; simp [h] at h')]
      exact hodd c q h
  | remove f p =>
    refine kept _ (by simp) (by simp) fun c q hq => ?_
    rw [State.removeDemands_slot, hq, ite_self]
  | circuit n now h =>
    refine kept _ (by simp) (by simp) fun c q hq => ?_
    rw [State.changeCircuit_record]
    split <;> exact hq
  | ranks ranks =>
    refine kept _ (by simp) (by simp) fun c q hq => ?_
    rw [State.setRanks_record]
    split
    · exact hq
    · simpa [Record.slot] using hq
  | limits c' lo hi hle hhi =>
    refine kept _ (by simp) (by simp) fun c q hq => ?_
    rw [State.setLimits_record]
    split <;> exact hq
  | fallback c' mode v hv =>
    refine kept _ (by simp) (by simp) fun c q hq => ?_
    rw [State.setFallback_record]
    split
    · simpa [Record.slot, State.judgeRecord] using hq
    · exact hq
  | defaultHold c' hold =>
    refine kept _ (by simp) (by simp) fun c q hq => ?_
    rw [State.setDefaultHold_record]
    split <;> exact hq
  | outputs n f hd =>
    refine kept _ (by simp) (by simp) fun c q hq => ?_
    rw [State.setOutputs_record]
    split
    · exact hq
    · unfold Record.takeRole
      split
      · exact hq
      · split <;> exact hq
  | form k f hl =>
    have hnone : ∀ q, ((s.formPair k f).record (oddCh k)).slot q = none := fun q => by
      rw [State.formPair_record, if_pos rfl]
      exact (Record.remove_slot _ _ q).trans (if_pos rfl)
    refine ⟨fun c q h => ?_, fun c q h => ?_⟩
    · by_cases hc : c = oddCh k
      · subst hc; exact hnone q
      · rw [State.formPair_record, if_neg hc]; exact hbar c q h
    · by_cases hc : c = oddCh k
      · subst hc; exact hnone q
      · rw [State.formPair_oddMember, if_neg hc] at h
        rw [State.formPair_record, if_neg hc]; exact hodd c q h
  | part k f =>
    have hnone : ∀ q, ((s.partPair k f).record (oddCh k)).slot q = none := fun q => by
      rw [State.partPair_record, if_pos rfl]
      exact (Record.remove_slot _ _ q).trans (if_pos rfl)
    refine ⟨fun c q h => ?_, fun c q h => ?_⟩
    · by_cases hc : c = oddCh k
      · subst hc; exact hnone q
      · rw [State.partPair_record, if_neg hc]; exact hbar c q h
    · by_cases hc : c = oddCh k
      · subst hc; exact hnone q
      · rw [State.partPair_oddMember, if_neg hc] at h
        rw [State.partPair_record, if_neg hc]; exact hodd c q h
  | settle =>
    refine kept _ (by simp) (by simp) fun c q hq => ?_
    rw [State.settleAll_record]
    split <;> exact hq
  | holdTick =>
    refine kept _ rfl (fun _ => rfl) fun c q hq => ?_
    show (s.cmdt.tick.records.read c).slot q = none
    rw [Cmdt.tick_record]
    split
    · exact hq
    · rw [Record.tick_slot]
      exact (congrArg _ hq).trans rfl

theorem step_slotsAllowed {s t : State} (hs : s.slotsAllowed) (h : step s = .next t) : t.slotsAllowed := by
  refine step_keeps (fun s l hs => hs) (fun _ _ h => h.slotsAllowed) (fun s hs => ?_) (fun st e l m => ?_) hs h
  · refine s.warmRestart_moves.keeps (fun _ _ h => h.slotsAllowed) ⟨fun c q h => ?_, fun c q h => ?_⟩
    · rw [State.restartBlocks_standing] at h
      rw [State.restartBlocks_record]
      split
      · exact hs.1 c q h
      · exact Record.clearDemands_slot _ q
    · rw [State.restartBlocks_oddMember] at h
      rw [State.restartBlocks_record, if_pos h]
      exact hs.2 c q h
  · exact ⟨fun c q _ => by simp, fun c q _ => by simp⟩

/-! ### Ranges -/

theorem Record.inRange.takeRole {r : Record} (h : r.inRange) (n : CircuitNo) (x : Circuit) (c : OutCh) :
    (r.takeRole n x c).inRange := by
  have hnone : ∀ role m, (Record.settle { r with role := role, circuit := m, bound := .none }).inRange := by
    intro role m
    obtain ⟨hslot, harb, hlast, hfb, hle, hmax, -, -, heff⟩ := h
    exact Record.inRange.settle ⟨hslot, harb, hlast, hfb, hle, hmax, by simp, by simp, heff⟩
  unfold Record.takeRole
  split
  · exact hnone _ _
  · split
    · exact hnone _ _
    · exact h

/-- R13: every move keeps records and circuits in range. -/
theorem State.Move.commandsInRange {s t : State} (h : s.Move t) (hs : s.commandsInRange) : t.commandsInRange := by
  obtain ⟨hrec, hcirc⟩ := hs
  cases h with
  | aside h =>
    refine ⟨fun c => h.record c ▸ hrec c, fun n => ⟨(h.circuits n).pumpMin (hcirc n).1, ?_⟩⟩
    rw [(h.circuits n).bounds]
    exact (hcirc n).2
  | count b n =>
    refine ⟨fun c => ?_, by simpa only [State.circuit, State.setCount_circuits] using hcirc⟩
    rw [State.setCount_record]
    split
    · refine Record.inRange.judge ?_ _ _
      split
      · exact (hrec c).remove _
      · exact hrec c
    · exact hrec c
  | place c' seat d hst hv =>
    refine ⟨fun c => ?_, by simpa only [State.circuit, State.placeDemand_circuits] using hcirc⟩
    rw [State.placeDemand_record]
    split
    · exact ((hrec c).place seat hv).judge _ _
    · exact hrec c
  | remove f p =>
    refine ⟨fun c => ?_, by simpa only [State.circuit, State.removeDemands_circuits] using hcirc⟩
    rw [State.removeDemands_record]
    split
    · exact ((hrec c).remove p).judge _ _
    · exact hrec c
  | circuit n now h =>
    have hb := h.inRange (hcirc n).1
    refine ⟨fun c => ?_, fun m => ?_⟩
    · rw [State.changeCircuit_record]
      split
      · obtain ⟨hslot, harb, hlast, hfb, hle, hmax, -, -, heff⟩ := hrec c
        have hrole := hb.forRole (s.record c).role c
        exact Record.inRange.settle ⟨hslot, harb, hlast, hfb, hle, hmax, hrole.1, hrole.2, heff⟩
      · exact hrec c
    · rw [State.changeCircuit_circuit]
      split
      · exact ⟨h.pumpMin ▸ (hcirc n).1, hb⟩
      · exact hcirc m
  | ranks ranks =>
    refine ⟨fun c => ?_, by simpa only [State.circuit, State.setRanks_circuits] using hcirc⟩
    rw [State.setRanks_record]
    split
    · exact hrec c
    · exact (hrec c).judge _ _
  | limits c' lo hi hle hhi =>
    refine ⟨fun c => ?_, by simpa only [State.circuit, State.setLimits_circuits] using hcirc⟩
    rw [State.setLimits_record]
    split
    · next h =>
      obtain ⟨rfl, -⟩ := h
      obtain ⟨hslot, harb, hlast, hfb, -, hmax, hrest⟩ := hrec c
      exact Record.inRange.settle ⟨hslot, harb, hlast, hfb, hle, hhi hmax, hrest⟩
    · exact hrec c
  | fallback c' mode v hv =>
    refine ⟨fun c => ?_, by simpa only [State.circuit, State.setFallback_circuits] using hcirc⟩
    rw [State.setFallback_record]
    split
    · next h =>
      obtain ⟨rfl, -⟩ := h
      obtain ⟨hslot, harb, hlast, hfb, hrest⟩ := hrec c
      exact Record.inRange.judge (r := { s.record c with fallbackMode := mode, fallbackValue := v })
        ⟨hslot, harb, hlast, hv hfb, hrest⟩ _ _
    · exact hrec c
  | defaultHold c' hold =>
    refine ⟨fun c => ?_, by simpa only [State.circuit, State.setDefaultHold_circuits] using hcirc⟩
    rw [State.setDefaultHold_record]
    split <;> exact hrec c
  | outputs n f hd =>
    refine ⟨fun c => ?_, fun m => ?_⟩
    · rw [State.setOutputs_record]
      split
      · exact hrec c
      · exact (hrec c).takeRole _ _ _
    · rw [State.setOutputs_circuit]
      split
      · exact hcirc n
      · exact hcirc m
  | form k f hl =>
    refine ⟨fun c => ?_, by simpa only [State.circuit, State.formPair_circuits] using hcirc⟩
    rw [State.formPair_record]
    split
    · exact (hrec c).remove fun _ => true
    · exact hrec c
  | part k f =>
    refine ⟨fun c => ?_, by simpa only [State.circuit, State.partPair_circuits] using hcirc⟩
    rw [State.partPair_record]
    split
    · have hr := (hrec c).remove fun _ => true
      obtain ⟨hslot, -, hrest⟩ := hr
      exact Record.inRange.settle ⟨hslot, (hrec c).fallback_le, hrest⟩
    · exact hrec c
  | settle =>
    refine ⟨fun c => ?_, by simpa only [State.circuit, State.settleAll_circuits] using hcirc⟩
    rw [State.settleAll_record]
    split
    · exact hrec c
    · exact (hrec c).settle
  | holdTick =>
    refine ⟨fun c => ?_, hcirc⟩
    show (s.cmdt.tick.records.read c).inRange
    rw [Cmdt.tick_record]
    split
    · exact hrec c
    · exact (hrec c).tick

theorem Record.powerOn_inRange {v : Nat} (hv : v ≤ 1000) : (Record.powerOn v).inRange := by
  simp [Record.inRange, Record.powerOn, Record.slot, hv]

theorem step_commandsInRange {s t : State} (hs : s.commandsInRange) (h : step s = .next t) : t.commandsInRange := by
  refine step_keeps (fun s l hs => hs) (fun _ _ h => h.commandsInRange) (fun s hs => ?_) (fun st e l m => ?_) hs h
  · refine s.warmRestart_moves.keeps (fun _ _ h => h.commandsInRange) ⟨fun c => ?_, fun n => ?_⟩
    · rw [State.restartBlocks_record]
      split
      · exact hs.1 c
      · obtain ⟨hslot, -, hrest⟩ := (hs.1 c).remove fun _ => true
        exact ⟨hslot, (hs.1 c).fallback_le, hrest⟩
    · rw [State.restartBlocks_circuit]
      exact hs.2 n
  · refine ⟨fun c => ?_, fun n => ?_⟩
    · rw [State.powerOn_record]
      exact Record.powerOn_inRange (powerOnFallback_le _ _)
    · rw [State.powerOn_circuit]
      simp [Circuit.powerOn, Bounds.inRange, Bounds.unbounded]

/-! ### Bounds handed -/

/-- R107, R108: the bound of a role, in the words of the statements. -/
theorem Bounds.forRole_eq (b : Bounds) (role : Role) (c : OutCh) : b.forRole role c = boundFor b role c := by
  have hfloor : ∀ o : Option Nat, (match o with | some v => Bound.floor v | none => .none) =
      (o.map Bound.floor).getD .none := by rintro (_ | v) <;> rfl
  cases role with
  | none => rfl
  | fan => simp only [Bounds.forRole, boundFor]; cases b.fanCeiling <;> rfl
  | bypass => exact hfloor _
  | pump => exact hfloor _

theorem boundFor_unbounded (role : Role) (c : OutCh) : boundFor Bounds.unbounded role c = .none := by
  cases role <;> simp [boundFor, Bounds.unbounded]

theorem Circuit.lists_iff (x : Circuit) (c : OutCh) :
    x.lists c = true ↔ c ∈ x.fans ∨ x.bypass = some c ∨ c ∈ x.pumps := by
  simp [Circuit.lists, or_assoc]

/-- R13, R14: the bound a record should stand under is the one its circuit has for its role. -/
def State.Handed (s : State) (c : OutCh) : Prop :=
  (s.record c).bound = (match (s.record c).circuit with
    | some n => boundFor (s.circuit n).bounds (s.record c).role c
    | none => .none) ∧
  ∀ n, (s.record c).circuit = some n → s.odu.oddMember c = false ∧ (s.circuit n).lists c = true

theorem State.boundsHanded_iff (s : State) : s.boundsHanded ↔
    (∀ c, s.Handed c) ∧ ∀ n, (s.circuit n).stage = .disabled → (s.circuit n).bounds = Bounds.unbounded := by
  simp only [State.boundsHanded, State.Handed, Circuit.lists_iff]
  constructor
  · rintro ⟨h1, h2, h3⟩
    exact ⟨fun c => ⟨h1 c, h3 c⟩, h2⟩
  · rintro ⟨h1, h2⟩
    exact ⟨fun c => (h1 c).1, h2, fun c => (h1 c).2⟩

/-- A record with the bound, role and circuit it had stands as it stood, where circuits and formed pairs do. -/
theorem State.Handed.of_same {s t : State} {c : OutCh} (h : s.Handed c) (hb : (t.record c).bound = (s.record c).bound)
    (hr : (t.record c).role = (s.record c).role) (hn : (t.record c).circuit = (s.record c).circuit)
    (ho : t.odu.oddMember c = s.odu.oddMember c)
    (hc : ∀ n, (t.circuit n).bounds = (s.circuit n).bounds ∧ (t.circuit n).lists c = (s.circuit n).lists c) :
    t.Handed c := by
  unfold State.Handed
  rw [hb, hr, hn, ho]
  simp only [hc]
  exact h

@[simp] theorem Record.rearbitrate_bound (ranks : Bank Seat 4) (st : Seat → Standing) (r : Record) :
    (r.rearbitrate ranks st).bound = r.bound := by
  unfold Record.rearbitrate
  split <;> rfl

@[simp] theorem Record.rearbitrate_role (ranks : Bank Seat 4) (st : Seat → Standing) (r : Record) :
    (r.rearbitrate ranks st).role = r.role := by
  unfold Record.rearbitrate
  split <;> rfl

@[simp] theorem Record.rearbitrate_circuit (ranks : Bank Seat 4) (st : Seat → Standing) (r : Record) :
    (r.rearbitrate ranks st).circuit = r.circuit := by
  unfold Record.rearbitrate
  split <;> rfl

/-- R13, R14: every move keeps each record under the bound that its circuit has for its role. -/
theorem State.Move.boundsHanded {s t : State} (h : s.Move t) (hs : s.boundsHanded) : t.boundsHanded := by
  rw [State.boundsHanded_iff] at hs ⊢
  obtain ⟨hrec, hcirc⟩ := hs
  -- where circuits, formed pairs and what records have of circuits stay, nothing is to be shown
  have kept : ∀ u : State, u.circuits = s.circuits → (∀ c, u.odu.oddMember c = s.odu.oddMember c) →
      (∀ c, (u.record c).bound = (s.record c).bound ∧ (u.record c).role = (s.record c).role ∧
        (u.record c).circuit = (s.record c).circuit) →
      (∀ c, u.Handed c) ∧ ∀ n, (u.circuit n).stage = .disabled → (u.circuit n).bounds = Bounds.unbounded := by
    intro u hc ho hr
    have hn : ∀ n, u.circuit n = s.circuit n := fun n => by simp only [State.circuit, hc]
    refine ⟨fun c => (hrec c).of_same (hr c).1 (hr c).2.1 (hr c).2.2 (ho c) fun n => ?_, fun n => ?_⟩
    · rw [hn]; exact ⟨rfl, rfl⟩
    · rw [hn]; exact hcirc n
  cases h with
  | aside h =>
    refine ⟨fun c => (hrec c).of_same (by rw [h.record]) (by rw [h.record]) (by rw [h.record]) (h.oddMember c)
      fun n => ⟨(h.circuits n).bounds, ?_⟩, fun n hd => ?_⟩
    · simp only [Circuit.lists, (h.circuits n).fans, (h.circuits n).bypass, (h.circuits n).pumps]
    · rw [(h.circuits n).stage] at hd
      rw [(h.circuits n).bounds]
      exact hcirc n hd
  | count b n =>
    refine kept _ (by simp) (by simp) fun c => ?_
    rw [State.setCount_record]
    split
    · split <;> simp [State.judgeRecord, Record.judge, Record.settle, Record.remove]
    · simp
  | place c' seat d hst hv =>
    refine kept _ (by simp) (by simp) fun c => ?_
    rw [State.placeDemand_record]
    split <;> simp [State.judgeRecord, Record.judge, Record.settle, Record.place]
  | remove f p =>
    refine kept _ (by simp) (by simp) fun c => ?_
    rw [State.removeDemands_record]
    split <;> simp [State.judgeRecord, Record.judge, Record.settle, Record.remove]
  | circuit n now h =>
    refine ⟨fun c => ?_, fun m hd => ?_⟩
    · have hlists : ∀ m, ((s.changeCircuit n now).circuit m).lists c = (s.circuit m).lists c := by
        intro m
        rw [State.changeCircuit_circuit]
        split
        · next e => subst e; simp only [Circuit.lists, h.fans, h.bypass, h.pumps]
        · rfl
      obtain ⟨hb, hl⟩ := hrec c
      unfold State.Handed
      simp only [State.changeCircuit_oddMember, hlists]
      rw [State.changeCircuit_record]
      by_cases hc : s.odu.oddMember c = false ∧ (s.record c).circuit = some n ∧
          (s.circuit n).bounds.forRole (s.record c).role c ≠ now.bounds.forRole (s.record c).role c
      · rw [if_pos hc]
        refine ⟨?_, hl⟩
        have e : (Record.settle { s.record c with bound := now.bounds.forRole (s.record c).role c }).circuit =
          some n := hc.2.1
        rw [e]
        simp only [State.changeCircuit_circuit, if_true]
        exact Bounds.forRole_eq ..
      · rw [if_neg hc]
        refine ⟨?_, hl⟩
        cases hn : (s.record c).circuit with
        | none => simpa [hn] using hb
        | some m =>
          rw [hn] at hb
          simp only [State.changeCircuit_circuit]
          split
          · next e =>
            subst e
            have hsame : (s.circuit n).bounds.forRole (s.record c).role c = now.bounds.forRole (s.record c).role c :=
              not_not.1 fun hne => hc ⟨(hl n hn).1, hn, hne⟩
            rw [← Bounds.forRole_eq, ← hsame, Bounds.forRole_eq]
            exact hb
          · exact hb
    · rw [State.changeCircuit_circuit] at hd ⊢
      split
      · next e => rw [if_pos e] at hd; exact h.disabled hd
      · next e => rw [if_neg e] at hd; exact hcirc m hd
  | ranks ranks =>
    refine kept _ (by simp) (by simp) fun c => ?_
    rw [State.setRanks_record]
    split <;> simp [Record.judge, Record.settle]
  | limits c' lo hi hle hhi =>
    refine kept _ (by simp) (by simp) fun c => ?_
    rw [State.setLimits_record]
    split <;> exact ⟨rfl, rfl, rfl⟩
  | fallback c' mode v hv =>
    refine kept _ (by simp) (by simp) fun c => ?_
    rw [State.setFallback_record]
    split <;> simp [State.judgeRecord, Record.judge, Record.settle]
  | defaultHold c' hold =>
    refine kept _ (by simp) (by simp) fun c => ?_
    rw [State.setDefaultHold_record]
    split <;> exact ⟨rfl, rfl, rfl⟩
  | outputs n f hd =>
    have hbounds : ∀ m, ((s.setOutputs n f).circuit m).bounds = (s.circuit m).bounds := by
      intro m
      rw [State.setOutputs_circuit]
      split
      · next e => subst e; rfl
      · rfl
    refine ⟨fun c => ?_, fun m hm => ?_⟩
    · obtain ⟨hb, hl⟩ := hrec c
      unfold State.Handed
      simp only [State.setOutputs_oddMember, hbounds]
      rw [State.setOutputs_record]
      cases hodd : s.odu.oddMember c with
      | true =>
        have hnone : (s.record c).circuit = none := by
          cases hn : (s.record c).circuit with
          | none => rfl
          | some m => simp [hodd] at hl; exact absurd hn (hl m)
        rw [if_pos rfl]
        refine ⟨hb, fun m hm => ?_⟩
        rw [hnone] at hm
        cases hm
      | false =>
        rw [if_neg (by simp)]
        unfold Record.takeRole
        by_cases hlist : (s.withLists n f).lists c = true
        · rw [if_pos hlist]
          refine ⟨?_, fun m hm => ⟨rfl, ?_⟩⟩
          · show Bound.none = boundFor (s.circuit n).bounds _ c
            rw [hcirc n hd, boundFor_unbounded]
          · cases hm
            rw [State.setOutputs_circuit, if_pos rfl]
            exact hlist
        · rw [if_neg hlist]
          split
          · exact ⟨rfl, fun m hm => Option.noConfusion rfl (heq_of_eq hm)⟩
          · next hne =>
            refine ⟨hb, fun m hm => ⟨rfl, ?_⟩⟩
            rw [State.setOutputs_circuit, if_neg (by rintro rfl; exact hne hm)]
            exact (hl m hm).2
    · rw [hbounds]
      rw [State.setOutputs_circuit] at hm
      split at hm
      · next e => subst e; exact hcirc n hm
      · exact hcirc m hm
  | form k f hl =>
    refine ⟨fun c => ?_, by simpa only [State.circuit, State.formPair_circuits] using hcirc⟩
    have hn : ∀ n, (s.formPair k f).circuit n = s.circuit n := fun n => by
      simp only [State.circuit, State.formPair_circuits]
    unfold State.Handed
    simp only [hn, State.formPair_oddMember]
    rw [State.formPair_record]
    by_cases hc : c = oddCh k
    · subst hc
      simp only [if_pos]
      refine ⟨(hrec _).1, fun n hcn => ?_⟩
      have := ((hrec _).2 n hcn).2
      simp only [State.listed, List.any_eq_false, Bool.not_eq_true] at hl
      rw [hl n (List.mem_finRange n)] at this
      cases this
    · simp only [if_neg hc]
      exact hrec c
  | part k f =>
    refine ⟨fun c => ?_, by simpa only [State.circuit, State.partPair_circuits] using hcirc⟩
    have hn : ∀ n, (s.partPair k f).circuit n = s.circuit n := fun n => by
      simp only [State.circuit, State.partPair_circuits]
    unfold State.Handed
    simp only [hn, State.partPair_oddMember]
    rw [State.partPair_record]
    by_cases hc : c = oddCh k
    · subst hc
      simp only [if_pos]
      exact ⟨(hrec _).1, fun n hcn => ⟨trivial, ((hrec _).2 n hcn).2⟩⟩
    · simp only [if_neg hc]
      exact hrec c
  | settle =>
    refine kept _ (by simp) (by simp) fun c => ?_
    rw [State.settleAll_record]
    split <;> exact ⟨rfl, rfl, rfl⟩
  | holdTick =>
    refine kept _ rfl (fun _ => rfl) fun c => ?_
    show (s.cmdt.tick.records.read c).bound = _ ∧ (s.cmdt.tick.records.read c).role = _ ∧
      (s.cmdt.tick.records.read c).circuit = _
    rw [Cmdt.tick_record]
    split <;> exact ⟨rfl, rfl, rfl⟩

theorem step_boundsHanded {s t : State} (hs : s.boundsHanded) (h : step s = .next t) : t.boundsHanded := by
  refine step_keeps (fun s l hs => hs) (fun _ _ h => h.boundsHanded) (fun s hs => ?_) (fun st e l m => ?_) hs h
  · refine s.warmRestart_moves.keeps (fun _ _ h => h.boundsHanded) ?_
    rw [State.boundsHanded_iff] at hs ⊢
    refine ⟨fun c => (hs.1 c).of_same ?_ ?_ ?_ (s.restartBlocks_oddMember c) fun n => ?_, fun n hd => ?_⟩
    · rw [State.restartBlocks_record]; split <;> rfl
    · rw [State.restartBlocks_record]; split <;> rfl
    · rw [State.restartBlocks_record]; split <;> rfl
    · rw [State.restartBlocks_circuit]; exact ⟨rfl, rfl⟩
    · rw [State.restartBlocks_circuit] at hd ⊢
      exact hs.2 n hd
  · rw [State.boundsHanded_iff]
    refine ⟨fun c => ?_, fun n _ => by rw [State.powerOn_circuit]; rfl⟩
    unfold State.Handed
    rw [State.powerOn_record]
    exact ⟨rfl, fun n hn => Option.noConfusion rfl (heq_of_eq hn)⟩

/-! ### The statements -/

/-- R108: the effective command of a settled record keeps the bound it stands under. -/
theorem Bound.apply_ceiling_le (v x : Nat) : (Bound.ceiling v).apply x ≤ v := Nat.min_le_right x v

theorem Bound.le_apply_floor (v x : Nat) : v ≤ (Bound.floor v).apply x := Nat.le_max_right x v

/-- Settles O54: each invariant is a law that every move keeps; the last clause is what the bound taken says. -/
theorem recordsStayJudged : Obligations.RecordsStayJudged := by
  refine ⟨fun s t hw hc h => ⟨step_winnersRight hw h, step_commandsSettled hc h⟩, fun s t => step_valuesRight,
    fun s t => step_boundsHanded, fun s c n hb hc hn => ?_⟩
  have hodd := (hb.2.2 c n hn).1
  have hbound := hb.1 c
  rw [hn] at hbound
  rw [hc c hodd, hbound]
  refine ⟨fun v hr hv => ?_, fun v hr hv => ?_, fun v hr hv => ?_⟩
  · simpa only [hr, boundFor, hv, Option.map_some, Option.getD_some] using Bound.apply_ceiling_le v _
  · simpa only [hr, boundFor, hv, Option.map_some, Option.getD_some] using Bound.le_apply_floor v _
  · simpa only [hr, boundFor, hv, Option.map_some, Option.getD_some] using Bound.le_apply_floor v _

/-- Settles O55: no move gives a BARRED seat or an odd member a slot. -/
theorem barredSeatsHoldNoSlot : Obligations.BarredSeatsHoldNoSlot := fun _ _ => step_slotsAllowed

/-- Settles O56: every move keeps records, and the bounds that circuits hand them, in range. -/
theorem effectiveCommandsStayInRange : Obligations.EffectiveCommandsStayInRange := fun _ _ => step_commandsInRange

end Sys2Proof.Machine
end

section
/-! SUPPORT. The power-on reset, block by block. -/

namespace Sys2Proof.Machine

/-- R122: with no pair formed, and every channel at its power-on state, every modulated pin is low. -/
theorem State.powerOn_pinLevel (st : Straps) (e : Bool) (l : List Instr) (m : Nat) (ch : ModCh) :
    (State.powerOn st e l m).pinLevel ch = false := by
  simp [State.pinLevel, State.powerOn, Odu.powerOn, Modulated.level, levelAt]

/-- R165: only RESTART is raised, in every set. -/
theorem State.powerOn_flag (st : Straps) (e : Bool) (l : List Instr) (m : Nat) (seat : Seat) (f : Flag) :
    (State.powerOn st e l m).flag seat f = if f = .restart then .fresh else .clear := by
  have hbit : f.bit = 11 ↔ f = .restart := by
    cases f with
    | stage n => revert n; decide
    | _ => decide
  simp only [State.flag, State.powerOn, Evu.powerOn, Bank.read_fill, hbit]

/-- R144: the bit rate, by the two straps. -/
theorem BitRate.ofStraps_eq (rate0 rate1 : Bool) : BitRate.ofStraps rate0 rate1 =
    if rate1 = true then .kbit250 else if rate0 = true then .kbit125 else .kbit62 := by
  cases rate0 <;> cases rate1 <;> rfl

/-- Settles O3: the part after a power-on reset is a state written out, block by block. -/
theorem powerOnSetsEveryBlock : Obligations.PowerOnSetsEveryBlock := by
  intro st s
  refine ⟨State.powerOn st s.shu.emergencyIn s.pending s.moment, rfl, ?pending, ?emergencyIn, ?ranks, fun c => ?records,
    fun a => ?memory, fun seat => ?roots, ?isOpen, ?walk, ?lastSide, ?lastSeat, fun n => ?windows,
    fun i => ⟨?victims, fun way => ?ways⟩, ?running, ?conversion, ?rangeStart, ?rangeEnd, ?modeItem, fun n => ?cycles,
    fun n k => ?tables, fun n => ⟨?settings, ?results⟩, fun n => ?pulses, fun n => ?proven, fun n => ?circuits,
    fun g => ?groups, fun m => ⟨State.powerOn_pinLevel _ _ _ _ m, ?mods⟩, fun k => ?pairs, fun d => ?discretes,
    fun c => ?shutoffs, ?station, ?rate, fun b => ?roster, fun seat => ⟨?lines, ?service, ?waiting⟩, ?last, ?chosen,
    ?bus, ?port, ?orphan, fun seat => ⟨State.powerOn_flag _ _ _ _ seat, ?masks, ?attention⟩⟩
  case records =>
    have hv : powerOnFallback st.pumpPosture c =
        if st.pumpPosture = true ∧ 24 ≤ c.val ∧ c.val ≤ 27 then 1000 else 0 := by simp [powerOnFallback, and_assoc]
    rw [State.powerOn_record, hv]
    exact ⟨Record.powerOn_slot _, rfl, rfl, rfl, rfl, rfl, rfl, rfl, rfl, rfl, rfl, rfl, rfl⟩
  case circuits => rw [State.powerOn_circuit]; simp [Circuit.powerOn]
  case rate => simp only [State.powerOn, Lbi.powerOn, BitRate.ofStraps_eq]
  all_goals
    simp [State.powerOn, Cmdt.powerOn, Pdir.powerOn, memRead, Pcache.powerOn, Smu.powerOn, SensorResult.powerOn,
      Piu.powerOn, Odu.powerOn, Shu.powerOn, Shutoff.powerOn, State.shutoff, Lbi.powerOn, RosterEntry.powerOn,
      Arbiter.powerOn, Evu.powerOn]

/-- Settles O60: no record holds a slot or a bound, no pair is formed, no entry is cached and no word is listed. -/
theorem invariantsHoldAtReset : Obligations.InvariantsHoldAtReset := by
  have hrec : ∀ c, State.reset.record c = Record.powerOn (powerOnFallback Straps.low.pumpPosture c) :=
    State.powerOn_record _ _ _ _
  have hcirc : ∀ n, State.reset.circuit n = Circuit.powerOn := State.powerOn_circuit _ _ _ _
  refine ⟨fun c _ => ?_, ⟨fun c q _ => ?_, fun c q _ => ?_⟩, fun c _ => ?_, ⟨fun c => ?_, fun n => ?_⟩, fun k p hp => ?_,
    ⟨fun b => ?_, fun seat => ?_⟩, rfl, fun i way e he => ?_, fun c _ => ?_, fun c => ?_, fun n _ => ?_, fun c n hn => ?_⟩
  · rw [hrec]; exact (chooseWinner_of_empty (Record.powerOn_slot _)).symm
  · rw [hrec]; exact Record.powerOn_slot _ q
  · rw [hrec]; exact Record.powerOn_slot _ q
  · rw [hrec]; exact Record.powerOn_settled (powerOnFallback_le _ _)
  · rw [hrec]; exact Record.powerOn_inRange (powerOnFallback_le _ _)
  · rw [hcirc]; simp [Circuit.powerOn, Bounds.inRange, Bounds.unbounded]
  · simp [State.reset, State.powerOn, Odu.powerOn] at hp
  · simp [State.reset, State.powerOn, Lbi.powerOn]
  · simp [State.reset, State.powerOn, Lbi.powerOn]
  · simp [State.reset, State.powerOn, Pcache.powerOn] at he
  · rw [hrec]; exact Record.powerOn_valued _
  · rw [hrec]; rfl
  · rw [hcirc]; rfl
  · rw [hrec] at hn; cases hn

end Sys2Proof.Machine
end

section
/-! SUPPORT. Steps: every command answers a next state and leaves the queue; what is due with an empty queue; and what
a tick does. -/

namespace Sys2Proof.Machine

/-- Every command answers a next state. -/
theorem exec_next (i : Instr) (s : State) : ∃ t, exec i s = .next t := by
  cases i <;> exact ⟨_, rfl⟩

theorem State.Move.pending {s t : State} (h : s.Move t) : t.pending = s.pending := by
  cases h with
  | aside h => exact h.pending
  | count | place | remove | circuit => simp
  | ranks | limits | fallback | defaultHold | settle =>
    simp [State.setRanks, State.setLimits, State.setFallback, State.setDefaultHold, State.settleAll]
  | outputs => simp [State.setOutputs]
  | form | part => simp
  | holdTick => rfl

theorem State.Moves.pending {s t : State} (h : s.Moves t) : t.pending = s.pending :=
  h.keeps (P := fun u => u.pending = s.pending) (fun _ _ hm hu => hm.pending.trans hu) rfl

theorem State.warmRestart_pending (s : State) : s.warmRestart.pending = s.pending :=
  s.warmRestart_moves.pending.trans (by simp only [State.restartBlocks])

/-- No command touches the queue of those that wait behind it. -/
theorem exec_pending {i : Instr} {s t : State} (h : exec i s = .next t) : t.pending = s.pending := by
  rcases exec_cases h with h | rfl | ⟨st, rfl⟩
  · exact h.pending
  · exact s.warmRestart_pending
  · simp only [State.powerOn]

theorem step_of_command {s : State} {c : Instr} {l : List Instr} (h : s.pending = c :: l) :
    step s = exec c { s with pending := l } := by
  unfold step
  rw [h]

theorem step_of_none {s : State} (h : s.pending = []) : step s = s.idle := by
  unfold step
  rw [h]

/-! ### What is due -/

theorem firstDue_eq_some {α : Type} {l : List α} {p : α → Bool} {f : α → Instr} {i : Instr}
    (h : firstDue l p f = some i) : ∃ a, p a = true ∧ i = f a := by
  obtain ⟨a, ha, rfl⟩ := Option.map_eq_some_iff.1 h
  exact ⟨a, List.find?_some ha, rfl⟩

theorem firstDue_eq_none {n : Nat} {p : Fin n → Bool} {f : Fin n → Instr}
    (h : firstDue (List.finRange n) p f = none) (a : Fin n) : p a = false := by
  have := List.find?_eq_none.1 (Option.map_eq_none_iff.1 h) a (List.mem_finRange a)
  simpa using this

theorem State.holdDue_iff (s : State) (c : OutCh) (q : Seat) :
    s.holdDue c q = true ↔
      s.odu.oddMember c = false ∧ ∃ v, (s.record c).slot q = some { value := v, hold := .counted 0 } := by
  simp only [State.holdDue, Bool.and_eq_true, Bool.not_eq_true']
  refine and_congr_right fun _ => ?_
  cases (s.record c).slot q with
  | none => simp
  | some d =>
    obtain ⟨v, h⟩ := d
    simp [Slot.expired]

theorem PulseChannel.timedOut_iff (p : PulseChannel) :
    p.timedOut = true ↔ ∃ a, p.timing = true ∧ p.age = some a ∧ p.timeout / 10 ≤ a := by
  unfold PulseChannel.timedOut
  cases p.age <;> simp

theorem State.pairDue_iff (s : State) (p : PairRun → Bool) (k : PairNo) :
    s.pairDue p k = true ↔ ∃ x, (s.odu.pairs.read k).run = some x ∧ p x = true := by
  simp [State.pairDue, Option.any_eq_true]

theorem PairRun.permilleDue_iff (p : PairRun) : p.permilleDue = true ↔
    p.stroke ≤ p.accumulator ∧ ∃ d, p.state = .moving d ∨ p.state = .safeDriving d ∧ p.unsynced = false := by
  unfold PairRun.permilleDue PairRun.counts
  cases p.state <;> simp [and_comm]

theorem PairRun.overdriveRanOut_iff (p : PairRun) :
    (p.overdriveDone && p.ranOut) = true ↔ p.left = 0 ∧ ∃ d, p.state = .overdrive d := by
  unfold PairRun.overdriveDone PairRun.timeUp PairRun.timed PairRun.ranOut
  cases p.state <;> simp
  omega

theorem PairRun.syncRanOut_iff (p : PairRun) :
    (p.syncDone && p.ranOut) = true ↔ p.left = 0 ∧ p.state = .syncing := by
  unfold PairRun.syncDone PairRun.timeUp PairRun.timed PairRun.ranOut
  cases p.state <;> simp
  omega

theorem PairRun.safeEndRanOut_iff (p : PairRun) :
    (p.safeEndDone && p.ranOut) = true ↔ p.left = 0 ∧ ∃ d, p.state = .safeEnd d := by
  unfold PairRun.safeEndDone PairRun.timeUp PairRun.timed PairRun.ranOut
  cases p.state <;> simp
  omega

theorem PairRun.unsyncedRanOut_iff (p : PairRun) :
    (p.unsyncedDriveDone && p.ranOut) = true ↔ p.left = 0 ∧ p.unsynced = true ∧ ∃ d, p.state = .safeDriving d := by
  unfold PairRun.unsyncedDriveDone PairRun.timeUp PairRun.timed PairRun.ranOut
  cases p.state <;> simp
  constructor
  · rintro ⟨⟨h1, -⟩, h2⟩
    exact ⟨h2, h1⟩
  · rintro ⟨h1, h2⟩
    exact ⟨⟨h2, by omega⟩, h1⟩

theorem State.minimumDue_iff (s : State) (d : DiscCh) :
    let x := s.odu.discretes.read d
    s.minimumDue d = true ↔
      s.shutOff (discCh d) = false ∧ x.held ≠ none ∧ 100 * (if x.on = true then x.minOn else x.minOff) ≤ x.time := by
  simp only [State.minimumDue, Discrete.reached, Bool.and_eq_true, Bool.not_eq_true', decide_eq_true_eq,
    Option.isSome_iff_ne_none]
  exact and_comm

theorem Orphan.expired_iff (o : Orphan) : o.expired = true ↔ o.holds = false ∧ 100 * o.limit ≤ o.count := by
  simp [Orphan.expired, Nat.mul_comm]

/-- What is due has run out. -/
theorem State.expires_of_dueExpiry {s : State} {i : Instr} (h : s.dueExpiry = some i) : s.expires i := by
  simp only [State.dueExpiry, Option.orElse_eq_orElse, Option.orElse_eq_or, Option.or_eq_some_iff] at h
  unfold State.expires
  rcases h with h | ⟨-, h | ⟨-, h | ⟨-, h | ⟨-, h | ⟨-, h | ⟨-, h | ⟨-, h | ⟨-, h | ⟨-, h | ⟨-, h | ⟨-, h⟩⟩⟩⟩⟩⟩⟩⟩⟩⟩⟩
  · obtain ⟨c, -, h⟩ := List.exists_of_findSome?_eq_some h
    obtain ⟨q, hq, rfl⟩ := firstDue_eq_some h
    obtain ⟨ho, v, hv⟩ := (s.holdDue_iff c q).1 hq
    exact .inl ⟨c, q, v, rfl, ho, hv⟩
  · obtain ⟨n, hn, rfl⟩ := firstDue_eq_some h
    obtain ⟨a, ha⟩ := (PulseChannel.timedOut_iff _).1 hn
    exact .inr (.inl ⟨n, a, rfl, ha⟩)
  · obtain ⟨n, hn, rfl⟩ := firstDue_eq_some h
    exact .inr (.inr (.inl ⟨n, rfl, by simpa [Circuit.enabled] using hn⟩))
  · obtain ⟨n, hn, rfl⟩ := firstDue_eq_some h
    exact .inr (.inr (.inr (.inl ⟨n, rfl, by simpa using hn⟩)))
  · obtain ⟨k, hk, rfl⟩ := firstDue_eq_some h
    obtain ⟨p, hp, hd⟩ := (s.pairDue_iff _ k).1 hk
    exact .inr (.inr (.inr (.inr (.inl ⟨k, rfl, p, hp, p.permilleDue_iff.1 hd⟩))))
  · obtain ⟨k, hk, rfl⟩ := firstDue_eq_some h
    obtain ⟨p, hp, hd⟩ := (s.pairDue_iff _ k).1 hk
    exact .inr (.inr (.inr (.inr (.inr (.inl ⟨k, rfl, p, hp, p.overdriveRanOut_iff.1 hd⟩)))))
  · obtain ⟨k, hk, rfl⟩ := firstDue_eq_some h
    obtain ⟨p, hp, hd⟩ := (s.pairDue_iff _ k).1 hk
    exact .inr (.inr (.inr (.inr (.inr (.inr (.inl ⟨k, rfl, p, hp, p.syncRanOut_iff.1 hd⟩))))))
  · obtain ⟨k, hk, rfl⟩ := firstDue_eq_some h
    obtain ⟨p, hp, hd⟩ := (s.pairDue_iff _ k).1 hk
    exact .inr (.inr (.inr (.inr (.inr (.inr (.inr (.inl ⟨k, rfl, p, hp, beq_iff_eq.1 hd⟩)))))))
  · obtain ⟨k, hk, rfl⟩ := firstDue_eq_some h
    obtain ⟨p, hp, hd⟩ := (s.pairDue_iff _ k).1 hk
    exact .inr (.inr (.inr (.inr (.inr (.inr (.inr (.inr (.inl ⟨k, rfl, p, hp, p.safeEndRanOut_iff.1 hd⟩))))))))
  · obtain ⟨k, hk, rfl⟩ := firstDue_eq_some h
    obtain ⟨p, hp, hd⟩ := (s.pairDue_iff _ k).1 hk
    exact .inr (.inr (.inr (.inr (.inr (.inr (.inr (.inr (.inr (.inl
      ⟨k, rfl, p, hp, p.unsyncedRanOut_iff.1 hd⟩)))))))))
  · obtain ⟨d, hd, rfl⟩ := firstDue_eq_some h
    exact .inr (.inr (.inr (.inr (.inr (.inr (.inr (.inr (.inr (.inr (.inl ⟨d, rfl, (s.minimumDue_iff d).1 hd⟩))))))))))
  · split at h
    · next ho =>
      cases h
      exact .inr (.inr (.inr (.inr (.inr (.inr (.inr (.inr (.inr (.inr (.inr ⟨rfl, (Orphan.expired_iff _).1 ho⟩))))))))))
    · cases h

/-- Where nothing is due, nothing has run out. -/
theorem State.not_expires_of_dueExpiry {s : State} (h : s.dueExpiry = none) (i : Instr) : ¬s.expires i := by
  simp only [State.dueExpiry, Option.orElse_eq_orElse, Option.orElse_eq_or, Option.or_eq_none_iff] at h
  obtain ⟨hold, pulse, grace, dwell, permille, overdrive, sync, dead, safeEnd, unsynced, minimum, orphan⟩ := h
  have pair : ∀ {p : PairRun → Bool} {f : PairNo → Instr} {k x},
      firstDue (List.finRange 12) (s.pairDue p) f = none → (s.odu.pairs.read k).run = some x → p x = true → False := by
    intro p f k x hn hx hp
    have := firstDue_eq_none hn k
    rw [(s.pairDue_iff p k).2 ⟨x, hx, hp⟩] at this
    cases this
  unfold State.expires
  rintro (⟨c, q, v, -, ho, hv⟩ | ⟨n, a, -, ha⟩ | ⟨n, -, hs, hg⟩ | ⟨n, -, hs, hg⟩ | ⟨k, -, x, hx, hd⟩ | ⟨k, -, x, hx, hd⟩ |
    ⟨k, -, x, hx, hd⟩ | ⟨k, -, x, hx, hd⟩ | ⟨k, -, x, hx, hd⟩ | ⟨k, -, x, hx, hd⟩ | ⟨d, -, hd⟩ | ⟨-, hd⟩)
  · have := firstDue_eq_none (List.findSome?_eq_none_iff.1 hold c (List.mem_finRange c)) q
    rw [(s.holdDue_iff c q).2 ⟨ho, v, hv⟩] at this
    cases this
  · have := firstDue_eq_none pulse n
    rw [(PulseChannel.timedOut_iff _).2 ⟨a, ha⟩] at this
    cases this
  · have := firstDue_eq_none grace n
    simp [Circuit.enabled, hs, hg] at this
  · have := firstDue_eq_none dwell n
    simp [hs, hg] at this
  · exact pair permille hx (x.permilleDue_iff.2 hd)
  · exact pair overdrive hx (x.overdriveRanOut_iff.2 hd)
  · exact pair sync hx (x.syncRanOut_iff.2 hd)
  · exact pair dead hx (beq_iff_eq.2 hd)
  · exact pair safeEnd hx (x.safeEndRanOut_iff.2 hd)
  · exact pair unsynced hx (x.unsyncedRanOut_iff.2 hd)
  · have := firstDue_eq_none minimum d
    rw [(s.minimumDue_iff d).2 hd] at this
    cases this
  · rw [if_pos ((Orphan.expired_iff _).2 hd)] at orphan
    cases orphan

/-! ### The tick -/

/-- The part after the time bases have gone on by 10 ms, before the period ends (R116). -/
def State.timeBases (s : State) : State :=
  { s with
    cmdt := s.cmdt.tick
    piu := { s.piu with channels := Bank.fill fun n => (s.piu.channels.read n).tick }
    circuits := Bank.fill fun n => (s.circuit n).tick
    odu := s.odu.tick
    lbi := { s.lbi with orphan := s.lbi.orphan.tick } }

theorem State.tick_eq (s : State) : s.tick = ((s.timeBases.endPeriod 0).endPeriod 1).endPeriod 2 := rfl

/-- R4: a tick of the hold time base on one slot. -/
theorem Slot.tick_eq (o : Option Slot) : o.map Slot.tick = match o with
    | some { value := v, hold := .counted n } => some { value := v, hold := .counted (n - 1) }
    | d => d := by
  rcases o with _ | ⟨v, _ | _⟩ <;> rfl

theorem State.timeBases_ticked (s : State) : s.ticked s.timeBases := by
  refine ⟨?_, fun h => ?_, fun h => ⟨?_, fun c => ⟨?_, fun q => ?_⟩⟩, fun n => ?_, fun n => ?_, fun k => ?_, fun d => ?_, ?_⟩
  · simp only [State.timeBases, Odu.tick]
  · simp only [State.timeBases, Cmdt.tick]
    rw [if_pos (by omega)]
  · simp only [State.timeBases, Cmdt.tick]
    rw [if_neg (by omega)]
  · simp only [State.timeBases, State.record, Cmdt.tick_record]
    rw [if_neg (by omega)]
    simp only [Record.tick]
  · simp only [State.timeBases, State.record, Cmdt.tick_record]
    rw [if_neg (by omega), Record.tick_slot]
    exact Slot.tick_eq _
  · simp only [State.timeBases, Bank.read_fill, PulseChannel.tick, PulseChannel.counterAfter, periodTop]
  · simp only [State.timeBases, State.circuit, Bank.read_fill, Circuit.tick]
  · simp only [State.timeBases, Odu.tick, Bank.read_fill, Pair.change]
    rfl
  · simp only [State.timeBases, Odu.tick, Bank.read_fill, Discrete.tick]
  · simp only [State.timeBases, Orphan.tick]

/-- Settles O2: commands are total and keep the queue; the empty queue's step is an expiry that ran out, or a tick. -/
theorem everyStepGoesOn : Obligations.EveryStepGoesOn := by
  intro s
  refine ⟨?_, fun c t h => exec_pending h, fun hq => ?_⟩
  · cases hp : s.pending with
    | cons c l => rw [step_of_command hp]; exact exec_next c _
    | nil =>
      rw [step_of_none hp]
      unfold State.idle
      split
      · exact exec_next _ s
      · exact ⟨_, rfl⟩
  · refine ⟨fun i hi => ⟨State.expires_of_dueExpiry hi, ?_⟩, fun hn => ⟨State.not_expires_of_dueExpiry hn, ?_, ?_, ?_⟩⟩
    · rw [step_of_none hq, State.idle, hi]
    · rw [step_of_none hq, State.idle, hn]
    · rw [s.tick_moves.pending, hq]
    · exact ⟨s.timeBases, _, _, s.timeBases_ticked, rfl, rfl, rfl⟩

end Sys2Proof.Machine
end

section
/-! SUPPORT. Arbitration of a record, what records hand to outputs, and the standings of seats. -/

namespace Sys2Proof.Machine

/-! ### The rank table -/

/-- The first index that satisfies `p`. -/
theorem find?_finRange_eq_some {n : Nat} {p : Fin n → Bool} {i : Fin n} :
    (List.finRange n).find? p = some i ↔ p i = true ∧ ∀ j, j < i → p j = false := by
  rw [List.find?_eq_some_iff_getElem]
  simp only [List.getElem_finRange, List.length_finRange]
  constructor
  · rintro ⟨hp, k, hk, rfl, hlt⟩
    exact ⟨hp, fun j hj => by simpa using hlt j.val hj⟩
  · rintro ⟨hp, hlt⟩
    exact ⟨hp, i.val, i.isLt, rfl, fun j hj => by simpa using hlt ⟨j, by omega⟩ hj⟩

theorem firstRanked_eq (ranks : Bank Seat 4) (p : Seat → Bool) :
    firstRanked ranks p = ((List.finRange 4).find? fun i => p (ranks.read i)).map ranks.read := by
  have e : [ranks.read 0, ranks.read 1, ranks.read 2, ranks.read 3] = (List.finRange 4).map ranks.read := rfl
  rw [firstRanked, e, List.find?_map]
  rfl

/-- R7: in a rank table that holds each seat once, the seat of a place is the first one that satisfies `p` exactly where
it does and none above it does. -/
theorem firstRanked_eq_some {ranks : Bank Seat 4} (hr : ∀ seat, ∃ i, ranks.read i = seat) {p : Seat → Bool} {i : Fin 4} :
    firstRanked ranks p = some (ranks.read i) ↔
      p (ranks.read i) = true ∧ ∀ j, j < i → p (ranks.read j) = false := by
  have hinj : Function.Injective ranks.read := Finite.injective_iff_surjective.2 hr
  rw [firstRanked_eq, Option.map_eq_some_iff]
  constructor
  · rintro ⟨k, hk, e⟩
    cases hinj e
    exact find?_finRange_eq_some.1 hk
  · exact fun h => ⟨i, find?_finRange_eq_some.2 h, rfl⟩

theorem firstRanked_eq_none {ranks : Bank Seat 4} {p : Seat → Bool} :
    firstRanked ranks p = none ↔ ∀ j, p (ranks.read j) = false := by
  simp [firstRanked_eq, List.find?_eq_none]

/-- Settles O16: the choice asks the GOOD seats first, in the order of the table, and the DOUBTFUL ones after them. -/
theorem winnerIsHighestRankedOfItsClass : Obligations.WinnerIsHighestRankedOfItsClass := by
  intro ranks standing rec hr top i
  have htop : ∀ class_, firstRanked ranks (fun s => (rec.slot s).isSome && standing s == class_) =
      some (ranks.read i) ↔ top class_ i := by
    intro class_
    rw [firstRanked_eq_some hr]
    simp only [top, Bool.and_eq_true, beq_iff_eq, and_assoc, ← Bool.not_eq_true]
  have hnone : firstRanked ranks (fun s => (rec.slot s).isSome && standing s == .good) = none ↔
      ∀ j, ¬((rec.slot (ranks.read j)).isSome ∧ standing (ranks.read j) = .good) := by
    simp only [firstRanked_eq_none, ← Bool.not_eq_true, Bool.and_eq_true, beq_iff_eq]
  unfold chooseWinner
  split
  · next q hq =>
    rw [← hq, htop]
    refine ⟨.inl, fun h => h.resolve_right fun h' => ?_⟩
    rw [hnone.2 h'.2] at hq
    cases hq
  · next hq =>
    rw [htop]
    refine ⟨fun h => .inr ⟨h, hnone.1 hq⟩, fun h => ?_⟩
    rcases h with h | h
    · rw [(htop .good).2 h] at hq
      cases hq
    · exact h.1

/-! ### Arbitration and outputs -/

/-- R8, R10, R11: a re-arbitration sets winner, arbitrated and last-won value alone. -/
theorem Record.rearbitrate_frame (ranks : Bank Seat 4) (st : Seat → Standing) (r : Record) :
    r.rearbitrate ranks st = { r with
      winner := (r.rearbitrate ranks st).winner
      arbitrated := (r.rearbitrate ranks st).arbitrated
      lastWon := (r.rearbitrate ranks st).lastWon } := by
  unfold Record.rearbitrate
  split <;> rfl

/-- R13: the arbitrated value within limits that stand the right way round. -/
theorem Record.limited_eq {r : Record} (h : r.staticMin ≤ r.staticMax) :
    r.limited = max r.staticMin (min r.arbitrated r.staticMax) := by
  unfold Record.limited
  split
  · omega
  · split <;> omega

/-- A change of records changes nothing beside them but the outputs. -/
theorem State.withRecords_frame (s : State) (f : OutCh → Record → Record) :
    s.withRecords f = { s with
      cmdt := { s.cmdt with records := (s.withRecords f).cmdt.records }, odu := (s.withRecords f).odu } := by
  simp only [State.withRecords]

/-- R117: a modulated channel outside a formed pair holds its record's changed command. -/
theorem State.withRecords_mods (s : State) (f : OutCh → Record → Record) (m : ModCh) :
    (s.withRecords f).odu.mods.read m =
      if s.odu.member (modCh m) = true ∨
          ((s.withRecords f).record (modCh m)).effective = (s.record (modCh m)).effective then s.odu.mods.read m
      else { s.odu.mods.read m with held := ((s.withRecords f).record (modCh m)).effective } := by
  have e : (s.withRecords f).odu.mods.read m =
      if ((s.record (modCh m)).effective != ((s.withRecords f).record (modCh m)).effective &&
          !s.odu.member (modCh m)) = true then
        { s.odu.mods.read m with held := ((s.withRecords f).record (modCh m)).effective }
      else s.odu.mods.read m := by
    simp only [State.withRecords, Odu.takeCommands, Bank.read_fill, State.record]
  rw [e]
  by_cases h : ((s.withRecords f).record (modCh m)).effective = (s.record (modCh m)).effective
  · simp [h]
  · cases hm : s.odu.member (modCh m) <;> simp [h, Ne.symm h]

/-- R130: a discrete channel is handed a changed requested state. -/
theorem State.withRecords_discretes (s : State) (f : OutCh → Record → Record) (d : DiscCh) :
    (s.withRecords f).odu.discretes.read d =
      if requestedOn ((s.withRecords f).record (discCh d)).effective = requestedOn (s.record (discCh d)).effective then
        s.odu.discretes.read d
      else (s.odu.discretes.read d).request (s.shutOff (discCh d))
        (requestedOn ((s.withRecords f).record (discCh d)).effective) := by
  have e : (s.withRecords f).odu.discretes.read d =
      if requestedOn (s.record (discCh d)).effective = requestedOn ((s.withRecords f).record (discCh d)).effective then
        s.odu.discretes.read d
      else (s.odu.discretes.read d).request (s.shutOff (discCh d))
        (requestedOn ((s.withRecords f).record (discCh d)).effective) := by
    simp only [State.withRecords, Odu.takeCommands, Bank.read_fill, State.record]
  rw [e]
  simp only [eq_comm]

/-- R126: a formed pair takes its even record's changed command as its target. -/
theorem State.withRecords_pairs (s : State) (f : OutCh → Record → Record) (k : PairNo) :
    (s.withRecords f).odu.pairs.read k =
      if ((s.withRecords f).record (evenCh k)).effective = (s.record (evenCh k)).effective then s.odu.pairs.read k
      else (s.odu.pairs.read k).change (PairRun.takeTarget (s.odu.pairs.read k) (s.shutOff (evenCh k))
        ((s.withRecords f).record (evenCh k)).effective) := by
  have e : (s.withRecords f).odu.pairs.read k =
      if ((s.record (evenCh k)).effective != ((s.withRecords f).record (evenCh k)).effective) = true then
        (s.odu.pairs.read k).change (PairRun.takeTarget (s.odu.pairs.read k) (s.shutOff (evenCh k))
          ((s.withRecords f).record (evenCh k)).effective)
      else s.odu.pairs.read k := by
    simp only [State.withRecords, Odu.takeCommands, Bank.read_fill, State.record]
  rw [e]
  by_cases h : ((s.withRecords f).record (evenCh k)).effective = (s.record (evenCh k)).effective
  · simp [h]
  · simp [h, Ne.symm h]

@[simp] theorem State.withRecords_groups (s : State) (f : OutCh → Record → Record) :
    (s.withRecords f).odu.groups = s.odu.groups := by simp only [State.withRecords, Odu.takeCommands]

/-- Settles O22: the three kinds of output, each as the change of records hands it on. -/
theorem recordsHandTheirCommands : Obligations.RecordsHandTheirCommands := by
  intro s f t
  refine ⟨fun m hm => ?_, s.withRecords_discretes f, s.withRecords_pairs f, s.withRecords_groups f⟩
  rw [State.withRecords_mods]
  simp only [hm, Bool.false_eq_true, false_or]
  rfl

/-- Settles O17: the choice decides the values, the limits and the bound the effective command. -/
theorem recordsArbitrateAndSettle : Obligations.RecordsArbitrateAndSettle := by
  refine ⟨fun ranks st rec => ⟨Record.rearbitrate_winner ranks st rec, fun q hq => ?_, fun hn => ?_,
    Record.rearbitrate_frame ranks st rec⟩, fun s rec => ⟨rfl, rfl⟩, fun s f =>
    ⟨s.withRecords_record f, s.withRecords_frame f, fun m hm => ?_⟩, fun rec hle => ⟨?_, fun hmax hf => ?_⟩⟩
  · obtain ⟨d, hd⟩ := slot_of_chooseWinner hq
    rw [Record.rearbitrate_of_winner hq hd]
    exact ⟨d, hd, rfl, rfl⟩
  · rw [Record.rearbitrate_of_none hn]
    exact ⟨rfl, rec.fallback_eq⟩
  · rw [State.withRecords_mods, if_pos (.inl hm)]
  · rw [← Record.limited_eq hle]
    show rec.bound.apply rec.limited = _
    cases rec.bound <;> rfl
  · exact Bound.apply_le (le_trans (Record.limited_le hle) hmax) hf

/-! ### Standings -/

theorem standingOf_good (n : Nat) : standingOf n = .good ↔ n ≤ 95 := by
  unfold standingOf
  split
  · simp [*]
  · split <;> simp [*]

theorem standingOf_doubtful (n : Nat) : standingOf n = .doubtful ↔ 96 ≤ n ∧ n ≤ 255 := by
  unfold standingOf
  split
  · simp; omega
  · split
    · simp; omega
    · simp; omega

theorem standingOf_barred (n : Nat) : standingOf n = .barred ↔ 256 ≤ n := by
  unfold standingOf
  split
  · simp; omega
  · split
    · simp; omega
    · simp; omega

theorem countAfter_other {n : Nat} {c : Code}
    (h : c ∉ [Code.badForm, .busy, .guarded, .maintOnly, .done, .clamped]) : countAfter n c = n := by
  cases c with
  | badForm | busy | guarded | maintOnly | done | clamped => simp at h
  | _ => rfl

/-- A removal of one seat's slot. -/
theorem Record.remove_one (r : Record) (seat : Seat) :
    r.remove (fun q => q == seat) = { r with slots := r.slots.write seat none } := by
  have h : (Bank.fill fun q => if (q == seat) = true then none else r.slot q) = r.slots.write seat none :=
    Bank.ext_read fun q => by
      by_cases hq : q = seat
      · simp [hq]
      · simp [hq, Bank.read_write, Ne.symm hq, Record.slot]
  simp only [Record.remove, h]

/-- A removal of one seat's demands, as the change of records it is. -/
theorem State.removeDemands_one (s : State) (inChannel : OutCh → Bool) (seat : Seat) :
    s.removeDemands inChannel (fun q => q == seat) = s.withRecords fun c r =>
      if inChannel c = true ∧ (r.slot seat).isSome = true then
        s.judgeRecord { r with slots := r.slots.write seat none } else r := by
  have hany : ∀ r : Record, ((List.finRange 4).any fun q => q == seat && (r.slot q).isSome) = (r.slot seat).isSome := by
    intro r
    rw [Bool.eq_iff_iff]
    simp [List.any_eq_true, List.mem_finRange]
  unfold State.removeDemands
  congr 1
  funext c r
  rw [hany, Record.remove_one]
  simp only [Bool.and_eq_true]

theorem Flag.bit_injective {f g : Flag} (h : f.bit = g.bit) : f = g := by
  cases f <;> cases g <;> simp_all [Flag.bit, Fin.ext_iff] <;> omega

/-- R160: a raise of one flag in one seat's set, flag by flag. -/
theorem State.flag_raiseIn {s t : State} {seat : Seat} {f : Flag} (h : t.evu = s.evu.raiseIn seat f) (q : Seat)
    (g : Flag) : t.flag q g = if q = seat ∧ g = f then .fresh else s.flag q g := by
  simp only [State.flag, h, Evu.raiseIn, Bank.update, Bank.read_write]
  by_cases hq : q = seat
  · subst hq
    by_cases hg : g = f
    · subst hg; simp [FlagState.raised]
    · have : f.bit ≠ g.bit := fun e => hg (Flag.bit_injective e).symm
      simp [hg, this, Bank.read_write]
  · simp [hq, Ne.symm hq]

/-- R152: a count that changes the standing raises STANDING in the seat's own set. -/
theorem State.setCount_evu (s : State) (b : BusSeat) (n : Nat) (h : standingOf n ≠ s.standing (seatOf b)) :
    (s.setCount b n).evu = s.evu.raiseIn (seatOf b) .standing := by
  by_cases hb : standingOf n = .barred
  · rw [s.setCount_barred b n h hb]
    simp [State.countRaised]
  · rw [s.setCount_moved b n h hb]
    simp [State.countRaised]

theorem State.setCount_lines (s : State) (b : BusSeat) (n : Nat) (h : standingOf n ≠ s.standing (seatOf b))
    (hb : standingOf n = .barred) (q : Seat) : (s.setCount b n).lbi.lines.read q =
      if q = seatOf b then (s.lbi.lines.read q).map IntakeEntry.bar else s.lbi.lines.read q := by
  rw [s.setCount_barred b n h hb]
  simp only [Bank.update, Bank.read_write, State.removeDemands_lbi, State.countRaised]
  by_cases hq : q = seatOf b
  · subst hq; simp
  · simp [hq, Ne.symm hq]

/-- An index out of range is not found. -/
theorem index?_none {n i : Nat} (h : n ≤ i) : index? n i = none := by simp [index?, h]

theorem State.mayReinstate_eq_false {s : State} {seat : Seat} :
    s.mayReinstate seat = false ↔ s.editor seat = false ∨ s.standing seat ≠ .good := by
  cases h : s.editor seat <;> simp [State.mayReinstate, h]

/-- R153: what becomes of a REINSTATE in service. -/
def State.reinstate (s : State) (seat : Seat) (r : Request) : State :=
  if s.mayReinstate seat = false then s.answer seat r .notEditor []
  else
    match index? 3 (r.word 0).toNat with
    | none => s.answer seat r .badValue []
    | some b => State.answer (if s.standing (seatOf b) = .barred then s.setCount b 0 else s) seat r .done []

/-- Settles O5: what a count does is what its standing does, and REINSTATE is a count of 0. -/
theorem barringClearsAndReinstateLifts : Obligations.BarringClearsAndReinstateLifts := by
  refine ⟨fun n _ => ⟨rfl, rfl, rfl, rfl, rfl, rfl, fun c => countAfter_other⟩,
    fun n => ⟨standingOf_good n, standingOf_doubtful n, standingOf_barred n⟩, fun r => rfl, fun h c => rfl,
    fun s b n => ⟨fun h => ?same, fun h hn => ?moved, fun h hn => ?barred⟩, fun s => ⟨rfl, ?_, ?_⟩⟩
  case same => exact s.setCount_same b n (by rw [h, s.standing_seatOf])
  case moved =>
    have hb : standingOf n ≠ .barred := fun e => by have := (standingOf_barred n).1 e; omega
    exact s.setCount_moved b n h hb
  case barred =>
    refine ⟨_, rfl, ?_⟩
    rw [s.setCount_barred b n h ((standingOf_barred n).2 hn), State.removeDemands_one]
    simp only [true_and]
    rfl
  · intro s b n hwas hn
    have hbar : standingOf n = .barred := (standingOf_barred n).2 hn
    have hne : standingOf n ≠ s.standing (seatOf b) := by
      rw [hbar, s.standing_seatOf]
      exact fun e => hwas e.symm
    refine ⟨by rw [State.setCount_standing, if_pos rfl, hbar], fun c q ho => ?_, s.setCount_lines b n hne hbar,
      State.flag_raiseIn (s.setCount_evu b n hne)⟩
    rw [State.setCount_slot]
    rw [hbar] at hne ⊢
    simp [ho, hne]
  · intro s seat r hr
    have hexec : exec (.reinstate seat) s = .next (s.reinstate seat r) := by
      show execReinstate seat s = _
      simp only [execReinstate, State.onRequest_of_serves hr]
      rfl
    rw [hexec, State.reinstate]
    refine ⟨fun h => ?_, fun he hg => ?_⟩
    · rw [if_pos (State.mayReinstate_eq_false.2 h)]
    · have hmay : ¬s.mayReinstate seat = false := by simp [State.mayReinstate_eq_false, he, hg]
      rw [if_neg hmay]
      refine ⟨fun h3 => by rw [index?_none h3], fun b hb => ?_⟩
      rw [hb, index?_val]
      refine ⟨fun hbar => ⟨by simp only [hbar, if_true], ?_, ?_⟩, fun hbar => by simp only [hbar, if_false]⟩
      · rw [State.setCount_standing, if_pos rfl]
        rfl
      · rw [State.flag_raiseIn (s.setCount_evu b 0 (by rw [hbar]; decide)), if_pos ⟨rfl, rfl⟩]

end Sys2Proof.Machine
end

section
/-! SUPPORT. SET, RELEASE and READ: words put together from fields, demands placed and withdrawn, and the views. -/

namespace Sys2Proof.Machine

/-! ### Words put together from fields -/

theorem natWord_or (a b : Nat) : natWord a ||| natWord b = natWord (a ||| b) := by
  apply BitVec.eq_of_toNat_eq
  simp [natWord]

theorem field_eq (v k : Nat) : field v k = natWord (v * 2 ^ k) := by
  apply BitVec.eq_of_toNat_eq
  simp [field, natWord, Nat.shiftLeft_eq]

/-- Fields that do not overlap, the upper one first, add up. -/
theorem natWord_or_below {h l : Nat} (k : Nat) (hh : 2 ^ k ∣ h) (hl : l < 2 ^ k) :
    natWord h ||| natWord l = natWord (h + l) := by
  obtain ⟨a, rfl⟩ := hh
  rw [natWord_or, Nat.mul_comm, ← Nat.shiftLeft_eq, Nat.shiftLeft_add_eq_or_of_lt hl]

/-- Fields that do not overlap, the lower one first, add up. -/
theorem natWord_or_above {h l : Nat} (k : Nat) (hh : 2 ^ k ∣ h) (hl : l < 2 ^ k) :
    natWord l ||| natWord h = natWord (l + h) := by
  rw [BitVec.or_comm, natWord_or_below k hh hl, Nat.add_comm]

theorem markNat_le (b : Bool) : markNat b ≤ 1 := by cases b <;> decide

/-- The translation word of a translation is the one the statements name. -/
theorem Translation.word_eq (t : Translation) : t.word = translationWord t.source.number t.link t.channel := by
  have hl := markNat_le t.link
  have hc := t.channel.isLt
  rw [Translation.word, field_eq, field_eq, natWord_or_below 13 ⟨_, Nat.mul_comm ..⟩ (by omega),
    natWord_or_below 12 (by omega) (by omega)]
  cases t.link <;> rfl

/-! ### Records left as they are -/

/-- A change of records is what it does to the records that take changes. -/
theorem State.withRecords_congr {s : State} {f g : OutCh → Record → Record}
    (h : ∀ c, s.odu.oddMember c = false → f c (s.record c) = g c (s.record c)) : s.withRecords f = s.withRecords g := by
  have e : (Bank.fill fun c => if s.odu.oddMember c then s.record c else f c (s.record c) : Bank Record 32) =
      Bank.fill fun c => if s.odu.oddMember c then s.record c else g c (s.record c) := by
    congr 1
    funext c
    cases hc : s.odu.oddMember c
    · exact h c hc
    · rfl
  simp only [State.withRecords, e]

/-- Outputs that are handed no changed command stay. -/
theorem Odu.takeCommands_of_effective (o : Odu) (l : OutCh → Bool) {was now : Bank Record 32}
    (h : ∀ c, (was.read c).effective = (now.read c).effective) : o.takeCommands l was now = o := by
  have hm : (Bank.fill fun m => o.mods.read m) = o.mods := Bank.ext_read fun m => Bank.read_fill ..
  have hp : (Bank.fill fun m => o.pairs.read m) = o.pairs := Bank.ext_read fun m => Bank.read_fill ..
  have hd : (Bank.fill fun m => o.discretes.read m) = o.discretes := Bank.ext_read fun m => Bank.read_fill ..
  simp [Odu.takeCommands, h, hm, hp, hd]

/-- A change of records that leaves each as it is changes nothing. -/
theorem State.withRecords_same {s : State} {f : OutCh → Record → Record}
    (h : ∀ c, s.odu.oddMember c = false → f c (s.record c) = s.record c) : s.withRecords f = s := by
  have e : (Bank.fill fun c => if s.odu.oddMember c then s.record c else f c (s.record c) : Bank Record 32) =
      s.cmdt.records := Bank.ext_read fun c => by
    rw [Bank.read_fill]
    cases hc : s.odu.oddMember c
    · exact h c hc
    · rfl
  simp only [State.withRecords, e, Odu.takeCommands_of_effective _ _ fun _ => rfl]

/-- A change of one record reaches no other, and beside it the outputs alone. -/
theorem State.withRecord_onlyRecord (s : State) (c : OutCh) (f : Record → Record) :
    onlyRecord s (s.withRecord c f) c :=
  ⟨fun c' h => by simp [State.withRecord_record, h], s.withRecords_frame _⟩

/-- R9: one slot set in a record that takes changes, the record judged. -/
theorem State.withRecord_slotJudged {s : State} {c : OutCh} (h : s.odu.oddMember c = false) (seat : Seat)
    (d : Option Slot) : slotJudged s
      (s.withRecord c fun rec => s.judgeRecord { rec with slots := rec.slots.write seat d }) c seat d :=
  ⟨by simp [State.withRecord_record, h], rfl⟩

/-- R8, R13: a judged record has the winner its slots give, and the effective command its values give. -/
theorem slotJudged.settled {s t : State} {c : OutCh} {seat : Seat} {d : Option Slot} (h : slotJudged s t c seat d) :
    (t.record c).winner = chooseWinner s.cmdt.ranks s.standing (t.record c) ∧
      (t.record c).effective = (t.record c).bound.apply (t.record c).limited := by
  have hrec : t.record c = Record.judge s.cmdt.ranks s.standing
      { s.record c with slots := (s.record c).slots.write seat d } := h.1
  rw [hrec]
  refine ⟨?_, Record.judge_effective ..⟩
  rw [Record.judge_winner]
  exact chooseWinner_congr (Record.judge_slots ..).symm ..

/-! ### Demands placed and withdrawn -/

theorem placedHold_clampHold (r : Record) (seat : Seat) (h : Nat) : placedHold r (clampHold seat h) =
    if h = 0 then .counted (10 * r.defaultHold)
    else if h = 65535 ∧ seat = serviceSeat then .untilReleased
    else .counted (10 * min h 600) := by
  unfold clampHold
  split
  · next h6 =>
    have : h ≠ 65535 := by omega
    have : min h 600 = h := by omega
    simp [placedHold, *]
  · next h6 =>
    have : h ≠ 0 := by omega
    have : min h 600 = 600 := by omega
    split <;> simp [placedHold, *]

theorem clampValue_eq_min (v : Nat) : clampValue v = min v 1000 := by
  unfold clampValue
  split <;> omega

/-- R148: the demand that a SET's clamped fields make is the one the statements name. -/
theorem setDemand_eq (s : State) (c : OutCh) (seat : Seat) (r : Request) : setDemand s c seat r =
    { value := clampValue (r.word 1).toNat, hold := placedHold (s.record c) (clampHold seat (r.word 2).toNat) } := by
  rw [placedHold_clampHold, clampValue_eq_min]
  rfl

theorem clampHold_eq_iff (seat : Seat) (h : Nat) :
    clampHold seat h = h ↔ h ≤ 600 ∨ h = 65535 ∧ seat = serviceSeat := by
  unfold clampHold
  split
  · simp [*]
  · split
    · simp [*]
    · simp [*]
      omega

/-- R148: the result of a SET is CLAMPED exactly where a field was cut. -/
theorem setCode_eq (seat : Seat) (r : Request) : setCode seat r = setResult seat (r.word 1).toNat (r.word 2).toNat := by
  have hv : clampValue (r.word 1).toNat = (r.word 1).toNat ↔ (r.word 1).toNat ≤ 1000 := by
    rw [clampValue_eq_min]
    omega
  simp only [setCode, setResult, hv, clampHold_eq_iff]

/-- R3, R9: a demand placed in a record that takes changes. -/
theorem State.placeDemand_placed {s : State} {c : OutCh} (h : s.odu.oddMember c = false) (seat : Seat) (r : Request) :
    demandPlaced s (s.placeDemand c seat (setDemand s c seat r)) c seat r := by
  have hj : slotJudged s (s.placeDemand c seat (setDemand s c seat r)) c seat (some (setDemand s c seat r)) :=
    State.withRecord_slotJudged h seat _
  refine ⟨hj, ?_, fun q hq => ?_, hj.settled.1, hj.settled.2, s.withRecord_onlyRecord c _⟩
  · simp [State.placeDemand_slot, h]
  · simp [State.placeDemand_slot, Ne.symm hq]

/-- R6, R9: a seat's slot withdrawn from a record that takes changes. -/
theorem State.removeDemands_withdrawn {s : State} {c : OutCh} (h : s.odu.oddMember c = false) (seat : Seat) :
    demandWithdrawn s (s.removeDemands (fun c' => c' == c) fun q => q == seat) c seat := by
  have hnone : (s.record c).slot seat = none → s.removeDemands (fun c' => c' == c) (fun q => q == seat) = s := by
    intro hn
    rw [State.removeDemands_one]
    refine State.withRecords_same fun c' _ => if_neg ?_
    rintro ⟨hc, hs⟩
    rw [eq_of_beq hc, hn] at hs
    cases hs
  have hsome : (s.record c).slot seat ≠ none → s.removeDemands (fun c' => c' == c) (fun q => q == seat) =
      s.withRecord c fun rec => s.judgeRecord { rec with slots := rec.slots.write seat none } := by
    intro hs
    rw [State.removeDemands_one]
    refine State.withRecords_congr fun c' _ => if_congr ?_ rfl rfl
    refine ⟨fun hc => eq_of_beq hc.1, fun hc => ⟨beq_iff_eq.2 hc, ?_⟩⟩
    rw [hc]
    exact Option.isSome_iff_ne_none.2 hs
  refine ⟨fun q => by simp [State.removeDemands_slot, h], hnone, fun hs => ?_, ?_⟩
  · rw [hsome hs]
    have hj := State.withRecord_slotJudged h seat none
    exact ⟨hj, hj.settled⟩
  · by_cases hs : (s.record c).slot seat = none
    · rw [hnone hs]
      exact ⟨fun _ _ => rfl, rfl⟩
    · rw [hsome hs]
      exact s.withRecord_onlyRecord c _

/-- Settles O21: an expiry is a withdrawal where the hold stands at its last step, and else nothing. -/
theorem holdExpiryRemovesTheSlot : Obligations.HoldExpiryRemovesTheSlot := by
  intro s c seat d hd ho
  have hexec : exec (.demandHoldExpiry c seat) s = .next (if d.expiring = true then
      s.removeDemands (fun c' => c' == c) (fun q => q == seat) else s) := by
    show execDemandHoldExpiry c seat s = _
    simp only [execDemandHoldExpiry, hd, Option.any_some]
  rw [hexec]
  refine ⟨fun h => ?_, fun n hn hle => ⟨_, rfl, ?_⟩⟩
  · rw [if_neg]
    rcases h with h | ⟨n, h, hn⟩
    · simp [Slot.expiring, h]
    · simp only [Slot.expiring, h, decide_eq_true_eq]
      omega
  · rw [if_pos (by simp [Slot.expiring, hn, hle])]
    refine ⟨State.removeDemands_withdrawn ho seat, ?_⟩
    simp

/-! ### Translated requests -/

theorem State.target?_none {s : State} {ch : Fin 64} (h : s.noTarget ch) : s.target? ch = none := by
  unfold State.target?
  rcases h with h | ⟨c, hc, ho⟩
  · rw [index?_none h]
  · rw [hc, index?_val]
    simp [ho]

theorem State.target?_some {s : State} {ch : Fin 64} {c : OutCh} (hc : ch.val = c.val)
    (ho : s.odu.oddMember c = false) : s.target? ch = some c := by
  unfold State.target?
  rw [hc, index?_val]
  simp [ho]

/-- R45: a translated SET finds no target. -/
theorem State.finishSet_noTarget {s : State} (seat : Seat) (r : Request) {t : Translation} (h : s.noTarget t.channel) :
    s.finishSet seat r t = s.answer seat r .badTarget [t.word] := by
  simp only [State.finishSet, State.target?_none h]

/-- R18: a translated SET of a seat that has become BARRED. -/
theorem State.finishSet_barred {s : State} {seat : Seat} (r : Request) {t : Translation} {c : OutCh}
    (hc : t.channel.val = c.val) (ho : s.odu.oddMember c = false) (h : s.standing seat = .barred) :
    s.finishSet seat r t = s.answer seat r .barred [] := by
  simp only [State.finishSet, State.target?_some hc ho, h, if_true]

/-- R3, R148: a translated SET is placed and answered with what results. -/
theorem State.finishSet_placed {s : State} {seat : Seat} (r : Request) {t : Translation} {c : OutCh}
    (hc : t.channel.val = c.val) (ho : s.odu.oddMember c = false) (h : s.standing seat ≠ .barred) :
    ∃ v, demandPlaced s v c seat r ∧
      s.finishSet seat r t = v.answer seat r (setCode seat r) (commandWords v c t.word) := by
  refine ⟨_, State.placeDemand_placed ho seat r, ?_⟩
  simp only [State.finishSet, State.target?_some hc ho, h, if_false, setDemand_eq, setCode_eq]
  rfl

/-- R45: a translated RELEASE finds no target. -/
theorem State.finishRelease_noTarget {s : State} (seat : Seat) (r : Request) {t : Translation}
    (h : s.noTarget t.channel) : s.finishRelease seat r t = s.answer seat r .badTarget [t.word] := by
  simp only [State.finishRelease, State.target?_none h]

/-- R6: a translated RELEASE withdraws its seat's own slot. -/
theorem State.finishRelease_withdrawn {s : State} (seat : Seat) (r : Request) {t : Translation} {c : OutCh}
    (hc : t.channel.val = c.val) (ho : s.odu.oddMember c = false) :
    ∃ v, demandWithdrawn s v c seat ∧ s.finishRelease seat r t = v.answer seat r .done (commandWords v c t.word) := by
  refine ⟨_, State.removeDemands_withdrawn ho seat, ?_⟩
  simp only [State.finishRelease, State.target?_some hc ho]
  rfl

/-! ### Resolving a point -/

/-- The translation that a window gives. -/
def windowTranslation (w : Fin 2) (p : Point) : Translation :=
  { source := .window w, channel := windowChannel p, link := false }

/-- The translation that a cache entry gives. -/
def entryTranslation (e : CacheEntry) : Translation := { source := .cache, channel := e.channel, link := e.link }

theorem windowTranslation_word (w : Fin 2) (p : Point) :
    (windowTranslation w p).word = translationWord (1 + w.val) false (windowChannel p) := Translation.word_eq _

theorem entryTranslation_word (e : CacheEntry) : (entryTranslation e).word = translationWord 3 e.link e.channel :=
  Translation.word_eq _

/-- R48: a request that a window translates, a SET through a guarded one set aside. -/
theorem State.resolve_window {s : State} {seat : Seat} {r : Request} {w : Fin 2} (a : Access)
    (h : s.pcache.window? seat (wordPoint (r.word 0)) = some w) : s.resolve a seat r =
      if a = .set ∧ (s.pcache.windows.read w).guarded = true then
        s.answer seat r .guarded [(windowTranslation w (wordPoint (r.word 0))).word]
      else s.finishAccess a seat r (windowTranslation w (wordPoint (r.word 0))) := by
  simp only [State.resolve, h]
  rfl

/-- R50, R52, R53: a request that a cache entry hits. -/
theorem State.resolve_entry {s : State} {seat : Seat} {r : Request} {e : CacheEntry} (a : Access)
    (hw : s.pcache.window? seat (wordPoint (r.word 0)) = none) (ho : s.pdir.isOpen = true)
    (h : s.pcache.lookup seat (wordPoint (r.word 0)) = some e) : s.resolve a seat r =
      let hit : State := { s with pcache := s.pcache.hit (wordPoint (r.word 0)) }
      if a = .set ∧ e.guarded = true then hit.answer seat r .guarded [(entryTranslation e).word]
      else if a = .set ∧ e.driven = false then hit.awaitWalk seat r true
      else hit.finishAccess a seat r (entryTranslation e) := by
  simp only [State.resolve, hw, ho, h, if_true]
  rfl

theorem exec_set {s : State} {seat : Seat} {r : Request} (h : s.serves seat .set r) :
    exec (.set seat) s = .next (s.resolve .set seat r) := by
  show execSet seat s = _
  rw [execSet, State.onRequest_of_serves h]

theorem exec_release {s : State} {seat : Seat} {r : Request} (h : s.serves seat .release r) :
    exec (.release seat) s = .next (s.resolve .release seat r) := by
  show execRelease seat s = _
  rw [execRelease, State.onRequest_of_serves h]

theorem exec_read {s : State} {seat : Seat} {r : Request} (h : s.serves seat .read r) :
    exec (.read seat) s = .next (s.resolve .read seat r) := by
  show execRead seat s = _
  rw [execRead, State.onRequest_of_serves h]

/-- Settles O18: a guard stops a SET; else the translated channel and the standing decide it. -/
theorem setPlacesTheDemand : Obligations.SetPlacesTheDemand := by
  intro s seat r hs p hit
  rw [exec_set hs]
  refine ⟨fun w hw hg => ?_, fun e hw ho he hg => ?_, fun u ch word hu => ?_⟩
  · rw [State.resolve_window _ hw, if_pos ⟨rfl, hg⟩, windowTranslation_word]
  · rw [State.resolve_entry _ hw ho he]
    simp only [hg, and_self, if_true, entryTranslation_word]
    rfl
  · have hfin : ∃ t : Translation, t.channel = ch ∧ t.word = word ∧ s.resolve .set seat r = u.finishSet seat r t ∧
        u.odu = s.odu ∧ u.standing = s.standing := by
      rcases hu with ⟨w, hw, hg, rfl, rfl, rfl⟩ | ⟨hw, ho, e, he, hg, hd, rfl, rfl, rfl⟩
      · refine ⟨windowTranslation w p, rfl, windowTranslation_word w p, ?_, rfl, rfl⟩
        rw [State.resolve_window _ hw]
        simp [hg, State.finishAccess, p]
      · refine ⟨entryTranslation e, rfl, entryTranslation_word e, ?_, rfl, rfl⟩
        rw [State.resolve_entry _ hw ho he]
        simp [hg, hd, State.finishAccess, p, hit]
    obtain ⟨t, rfl, rfl, hres, hodu, hst⟩ := hfin
    rw [hres]
    refine ⟨fun hn => ?_, fun c hc ho => ⟨fun hb => ?_, fun hb => ?_⟩⟩
    · rw [State.finishSet_noTarget]
      unfold State.noTarget
      rwa [hodu]
    · rw [State.finishSet_barred r hc (by rwa [hodu]) (by rwa [hst])]
    · obtain ⟨v, hv, e⟩ := State.finishSet_placed (s := u) (seat := seat) r hc (by rwa [hodu]) (by rwa [hst])
      exact ⟨v, hv, congrArg _ e⟩

/-- Settles O19: the translated channel decides a RELEASE, guarded or not. -/
theorem releaseRemovesItsOwnSlot : Obligations.ReleaseRemovesItsOwnSlot := by
  intro s seat r hs p u ch word hu
  rw [exec_release hs]
  have hfin : ∃ t : Translation, t.channel = ch ∧ t.word = word ∧
      s.resolve .release seat r = u.finishRelease seat r t ∧ u.odu = s.odu := by
    rcases hu with ⟨w, hw, rfl, rfl, rfl⟩ | ⟨hw, ho, e, he, rfl, rfl, rfl⟩
    · refine ⟨windowTranslation w p, rfl, windowTranslation_word w p, ?_, rfl⟩
      rw [State.resolve_window _ hw]
      simp [State.finishAccess, p]
    · refine ⟨entryTranslation e, rfl, entryTranslation_word e, ?_, rfl⟩
      rw [State.resolve_entry _ hw ho he]
      simp [State.finishAccess, p]
  obtain ⟨t, rfl, rfl, hres, hodu⟩ := hfin
  rw [hres]
  refine ⟨fun hn => ?_, fun c hc ho => ?_⟩
  · rw [State.finishRelease_noTarget]
    unfold State.noTarget
    rwa [hodu]
  · obtain ⟨v, hv, e⟩ := State.finishRelease_withdrawn (s := u) seat r hc (by rwa [hodu])
    exact ⟨v, hv, congrArg _ e⟩

end Sys2Proof.Machine
end

section
/-! SUPPORT. The views that a READ returns, word by word. -/

namespace Sys2Proof.Machine

/-! ### Words of a view -/

theorem fieldWord_output (effective : Nat) (winner : Option Seat) (b : Bool) (h : effective ≤ 1000) :
    natWord effective ||| field ((winner.map (·.val)).getD 7) 12 ||| field (markNat b) 15 =
      BitVec.ofNat 16 (effective + 4096 * ((winner.map (·.val)).getD 7) + if b = true then 32768 else 0) := by
  have hw : (winner.map (·.val)).getD 7 ≤ 7 := by
    cases winner with
    | none => exact le_rfl
    | some q => exact le_trans (Nat.le_of_lt q.isLt) (by omega)
  rw [field_eq, field_eq, natWord_or_above 12 ⟨_, Nat.mul_comm ..⟩ (by omega),
    natWord_or_above 15 ⟨_, Nat.mul_comm ..⟩ (by omega), Nat.mul_comm _ (2 ^ 12)]
  cases b <;> rfl

/-- A value below a field of two marks. -/
theorem fieldWord_marked (m v k : Nat) (h : v < 2 ^ k) : field m k ||| natWord v = natWord (m * 2 ^ k + v) := by
  rw [field_eq, natWord_or_below k ⟨_, Nat.mul_comm ..⟩ h]

theorem fieldWord_pair (b : Bool) (v : Nat) (h : v ≤ 1000) : field 1 15 ||| field (markNat b) 14 ||| natWord v =
    BitVec.ofNat 16 (32768 + (if b = true then 16384 else 0) + v) := by
  have hb := markNat_le b
  rw [field_eq, field_eq, natWord_or_below 15 (by omega) (by omega), natWord_or_below 14 (by omega) (by omega)]
  cases b <;> rfl

theorem fieldWord_pulse (a b c : Bool) (proof v : Nat) (hp : proof ≤ 3) (hv : v < 2048) :
    field (markNat a) 15 ||| field (markNat b) 14 ||| field (markNat c) 13 ||| field proof 11 ||| natWord v =
      BitVec.ofNat 16 ((if a = true then 32768 else 0) + (if b = true then 16384 else 0) +
        (if c = true then 8192 else 0) + 2048 * proof + v) := by
  have ha := markNat_le a
  have hb := markNat_le b
  have hc := markNat_le c
  rw [field_eq, field_eq, field_eq, field_eq, natWord_or_below 15 (by omega) (by omega),
    natWord_or_below 14 (by omega) (by omega), natWord_or_below 13 (by omega) (by omega),
    natWord_or_below 11 (by omega) (by omega), Nat.mul_comm proof]
  cases a <;> cases b <;> cases c <;> rfl

/-! ### The view of an output channel -/

/-- R22: the run of the formed pair whose even channel a channel is. -/
theorem Odu.evenPair_run (o : Odu) (c : OutCh) (p : PairRun) :
    ((o.evenPair c).bind fun k => (o.pairs.read k).run) = some p ↔
      ∃ k, c = evenCh k ∧ (o.pairs.read k).run = some p := by
  have heven : ∀ k, o.evenPair c = some k ↔ c = evenCh k ∧ o.formed k = true := by
    intro k
    unfold Odu.evenPair
    split
    · next h =>
      simp only [Option.filter_eq_some_iff, pairOf, index?, evenCh, Fin.ext_iff]
      refine and_congr_left fun _ => ⟨fun e => ?_, fun e => ?_⟩
      · split at e
        · cases e
          simp only
          omega
        · cases e
      · have : c.val / 2 < 12 := by omega
        rw [dif_pos this]
        congr 1
        exact Fin.ext (by simp only; omega)
    · next h =>
      simp only [reduceCtorEq, false_iff, not_and, evenCh, Fin.ext_iff]
      intro e
      omega
  rw [Option.bind_eq_some_iff]
  refine exists_congr fun k => ?_
  rw [heven, and_assoc]
  refine and_congr_right fun _ => ⟨fun h => h.2, fun h => ⟨?_, h⟩⟩
  simp [Odu.formed, Pair.isFormed, h]

theorem State.view_output (s : State) (seat : Seat) {ch : Fin 64} {c : OutCh} (h : ch.val = c.val) :
    s.view seat ch = s.outputView seat c := by
  simp only [State.view, h, index?_val]

theorem State.view_sensor (s : State) (seat : Seat) {ch : Fin 64} {n : SensorCh} (h : ch.val = 32 + n.val) :
    s.view seat ch = s.sensorView n := by
  have e : ch.val - 32 = n.val := by omega
  simp only [State.view, index?_none (show 32 ≤ ch.val by omega), e, index?_val]

theorem State.view_pulse (s : State) (seat : Seat) {ch : Fin 64} {n : PulseCh} (h : ch.val = 56 + n.val) :
    s.view seat ch = s.pulseView n := by
  have e : ch.val - 56 = n.val := by omega
  simp only [State.view, index?_none (show 32 ≤ ch.val by omega), index?_none (show 24 ≤ ch.val - 32 by omega), e,
    index?_val]

/-- R22, R45: the record that is viewed: a channel's own, or its even record for a formed pair's odd member. -/
theorem State.viewedChannel_eq {s : State} {c e : OutCh} (hodd : s.odu.oddMember c = true → c.val = e.val + 1)
    (hown : s.odu.oddMember c = false → c = e) : s.viewedChannel c = e := by
  unfold State.viewedChannel
  split
  · next h =>
    have := hodd h
    exact Fin.ext (by simp only; omega)
  · next h => exact hown (by simpa using h)

/-! ### The view of a pulse channel -/

theorem State.names_iff (s : State) (n : PulseCh) (k : CircuitNo) :
    (((s.circuit k).flow.map (·.1)) == some n) = true ↔ ∃ p, (s.circuit k).flow = some (n, p) := by
  rw [beq_iff_eq, Option.map_eq_some_iff]
  constructor
  · rintro ⟨⟨n', p⟩, h, rfl⟩
    exact ⟨p, h⟩
  · rintro ⟨p, h⟩
    exact ⟨_, h, rfl⟩

/-- R90: a pulse channel that no circuit names shows no proof. -/
theorem State.namedProof_none {s : State} {n : PulseCh} (h : ∀ k, ¬∃ p, (s.circuit k).flow = some (n, p)) :
    s.namedProof n = 0 := by
  have hf : (List.finRange 4).find? (fun c => ((s.circuit c).flow.map (·.1)) == some n) = none :=
    List.find?_eq_none.2 fun k _ => by rw [State.names_iff]; exact h k
  simp only [State.namedProof, hf]

/-- R90: a pulse channel that one circuit names shows that circuit's proof. -/
theorem State.namedProof_of_named {s : State} {n : PulseCh} {k : CircuitNo}
    (h : ∀ o, (∃ p, (s.circuit o).flow = some (n, p)) ↔ o = k) :
    s.namedProof n = if s.piu.proven.read k = true then 1 else 2 := by
  have hf : (List.finRange 4).find? (fun c => ((s.circuit c).flow.map (·.1)) == some n) = some k := by
    refine find?_finRange_eq_some.2 ⟨(s.names_iff n k).2 ((h k).2 rfl), fun j hj => ?_⟩
    rw [← Bool.not_eq_true, State.names_iff, h j]
    exact hj.ne
  simp only [State.namedProof, hf]

theorem State.namedProof_le (s : State) (n : PulseCh) : s.namedProof n ≤ 3 := by
  unfold State.namedProof
  split
  · split <;> omega
  · omega

/-! ### The words of an output channel's view -/

theorem fieldWord_slot (slot : Option Slot) : (∀ d, slot = some d → d.value ≤ 1000) →
    (match slot with
      | some d => (field 1 15 ||| natWord d.value, match d.hold with
        | .counted n => natWord n
        | .untilReleased => absentWord)
      | none => ((0 : Word), (0 : Word))) =
      (BitVec.ofNat 16 (match slot with | some d => 32768 + d.value | none => 0),
        match slot with
        | some { value := _, hold := .counted n } => BitVec.ofNat 16 n
        | some { value := _, hold := .untilReleased } => 65535#16
        | none => 0#16) := by
  intro h
  cases slot with
  | none => rfl
  | some d =>
    obtain ⟨v, hold⟩ := d
    have hv : v ≤ 1000 := h _ rfl
    have hw : field 1 15 ||| natWord v = natWord (32768 + v) := fieldWord_marked _ _ _ (by omega)
    cases hold <;> simp only [hw] <;> rfl

theorem fieldWord_bound (b : Bound) : (∀ v, b = .ceiling v ∨ b = .floor v → v ≤ 1000) →
    (match b with
      | .none => (0 : Word)
      | .ceiling v => field 1 14 ||| natWord v
      | .floor v => field 2 14 ||| natWord v) =
      BitVec.ofNat 16 (match b with | .none => 0 | .ceiling v => 16384 + v | .floor v => 32768 + v) := by
  intro h
  cases b with
  | none => rfl
  | ceiling v => exact fieldWord_marked _ _ _ (lt_of_le_of_lt (h v (.inl rfl)) (by omega))
  | floor v => exact fieldWord_marked _ _ _ (lt_of_le_of_lt (h v (.inr rfl)) (by omega))

/-- The number that the last word of an output channel's view carries: of a formed pair, its marks and its estimate. -/
def runNumber (run : Option PairRun) : Nat :=
  match run with
  | some p => 32768 + (if p.unsynced = true then 16384 else 0) + p.estimate
  | none => 0

theorem fieldWord_run (run : Option PairRun) : (∀ p, run = some p → p.estimate ≤ 1000) →
    (match run with
      | some p => field 1 15 ||| field (markNat p.unsynced) 14 ||| natWord p.estimate
      | none => (0 : Word)) = BitVec.ofNat 16 (runNumber run) := by
  intro h
  cases run with
  | none => rfl
  | some p => exact fieldWord_pair _ _ (h p rfl)

/-- Settles O20: the translation, and the view word by word. -/
theorem readReturnsTheView : Obligations.ReadReturnsTheView := by
  refine ⟨fun s seat r w hs hw => ?_, fun s seat ch => ⟨?output, fun n hn hsamples => ?_, ?pulse⟩⟩
  · rw [exec_read hs, State.resolve_window _ hw]
    simp only [reduceCtorEq, false_and, if_false, State.finishAccess, State.finishRead, windowTranslation_word]
    simp [translationWord, windowTranslation]
  case output =>
    intro c e hc hodd hown x heff hslot hbound hest
    refine ⟨runNumber ((s.odu.evenPair e).bind fun k => (s.odu.pairs.read k).run), fun h => ?_, fun k p hk hr => ?_, ?_⟩
    · cases hp : (s.odu.evenPair e).bind fun k => (s.odu.pairs.read k).run with
      | none => rfl
      | some p =>
        obtain ⟨k, hk, hr⟩ := (s.odu.evenPair_run e p).1 hp
        rw [h k hk] at hr
        cases hr
    · rw [(s.odu.evenPair_run e p).2 ⟨k, hk, hr⟩]
      rfl
    · have hrun : ∀ p, ((s.odu.evenPair e).bind fun k => (s.odu.pairs.read k).run) = some p → p.estimate ≤ 1000 :=
        fun p hp => by
          obtain ⟨k, hk, hr⟩ := (s.odu.evenPair_run e p).1 hp
          exact hest k p hk hr
      rw [State.view_output s seat hc, State.outputView, State.viewedChannel_eq hodd hown]
      have hwords := fieldWord_slot _ hslot
      refine congrArg₂ List.cons (fieldWord_output _ _ _ heff) ?_
      refine congrArg₂ List.cons (congrArg Prod.fst hwords) (congrArg₂ List.cons (congrArg Prod.snd hwords) ?_)
      exact congrArg₂ List.cons (fieldWord_bound _ hbound) (congrArg (fun w => [w]) (fieldWord_run _ hrun))
  · rw [State.view_sensor s seat hn]
    have hv : (s.smu.results.read n).validity.number < 2 ^ 8 := by cases (s.smu.results.read n).validity <;> decide
    simp only [State.sensorView, fieldWord_marked _ _ _ hv, Nat.mul_comm _ (2 ^ 8)]
    rfl
  case pulse =>
    intro n hn x named hperiod
    refine ⟨s.namedProof n, fun h => State.namedProof_none h, fun k h => State.namedProof_of_named h, ?_⟩
    have hv : (s.piu.channels.read n).period.getD 0 / 65536 < 2048 := by
      cases hp : (s.piu.channels.read n).period with
      | none => decide
      | some p =>
        have := hperiod p hp
        simp only [Option.getD_some]
        omega
    rw [State.view_pulse s seat hn]
    simp only [State.pulseView, fieldWord_pulse _ _ _ _ _ (s.namedProof_le n) hv, Option.isNone_iff_eq_none]
    rfl

end Sys2Proof.Machine
end

section
/-! SUPPORT. How the rows of CONFIG_WRITE judge a request: rights, fields, use, and the sorts of a pair's write. -/

namespace Sys2Proof.Machine

/-! ### Rows of CONFIG_WRITE -/

section
variable {s : State} {seat : Seat} {i : Item} {r : Request} {pick : Item → Request → Option Verdict}

/-- A CONFIG_WRITE in service that its row refuses. -/
theorem State.next_onWrite_refused {c : Code} (h : s.servesWrite seat i r) (hv : pick i r = some (.refused c)) :
    (.next (s.onWrite seat pick) : Outcome) = .next (s.answer seat r c []) := by
  rw [State.onWrite_of_servesWrite h hv]
  rfl

/-- A CONFIG_WRITE in service that its row takes. -/
theorem State.next_onWrite_accepted {t : State} (h : s.servesWrite seat i r) (hv : pick i r = some (.accepted t)) :
    (.next (s.onWrite seat pick) : Outcome) = .next (t.answer seat r .done []) := by
  rw [State.onWrite_of_servesWrite h hv]
  rfl

end

/-! ### Rights -/

@[simp] theorem asService_serviceSeat (v : Verdict) : asService serviceSeat v = v := rfl

theorem asService_of_ne {seat : Seat} (h : seat ≠ serviceSeat) (v : Verdict) : asService seat v = .refused .notEditor :=
  if_neg h

theorem State.asEditor_of_editor {s : State} {seat : Seat} (h : s.editor seat = true) (v : Verdict) :
    s.asEditor seat v = v := if_pos h

theorem State.asEditor_of_not {s : State} {seat : Seat} (h : s.editor seat = false) (v : Verdict) :
    s.asEditor seat v = .refused .notEditor := if_neg (by simp [h])

theorem State.circuitWrite_of_not {s : State} {seat : Seat} (h : s.editor seat = false) (n : CircuitNo) (v : Verdict) :
    s.circuitWrite seat n v = .refused .notEditor := State.asEditor_of_not h _

/-- R95: an editor's write to a DISABLED circuit is judged on its fields. -/
theorem State.circuitWrite_disabled {s : State} {seat : Seat} {n : CircuitNo} (h : s.editor seat = true)
    (hd : (s.circuit n).stage = .disabled) (v : Verdict) : s.circuitWrite seat n v = v := by
  rw [State.circuitWrite, State.asEditor_of_editor h, if_neg]
  simp [Circuit.enabled, hd]

/-! ### Channels in use (R16) -/

theorem State.settingsWrite_odd {s : State} {c : OutCh} (h : s.odu.oddMember c = true) (t : State) :
    s.settingsWrite c t = .refused .badTarget := if_pos h

theorem State.settingsWrite_held {s : State} {c : OutCh} (ho : s.odu.oddMember c = false)
    (h : s.settingsHeld c = true) (t : State) : s.settingsWrite c t = .refused .inUse := by
  simp [State.settingsWrite, ho, h]

theorem State.settingsWrite_taken {s : State} {c : OutCh} (ho : s.odu.oddMember c = false)
    (h : s.settingsHeld c = false) (t : State) : s.settingsWrite c t = .accepted t := by
  simp [State.settingsWrite, ho, h]

/-! ### The sorts of a pair's write (R119) -/

theorem mark?_eq_some {w : Word} {b : Bool} (h : mark? w = some b) : w = if b = true then 1 else 0 := by
  unfold mark? at h
  split at h
  · cases h; assumption
  · split at h
    · cases h; assumption
    · cases h

theorem Pair.isFormed_eq_false {q : Pair} : q.isFormed = false ↔ q.run = none := by simp [Pair.isFormed]

theorem Pair.isFormed_eq_true {q : Pair} : q.isFormed = true ↔ q.run ≠ none := by
  rw [Pair.isFormed, Option.isSome_iff_ne_none]

theorem pairChange_form {q : Pair} {r : Request} (hl : 2 ≤ r.payload.length) (hq : q.run = none) (h : r.word 1 = 1) :
    pairChange q r = .form := by
  have hh : r.has 1 = true := decide_eq_true hl
  have hw : r.field 0 = 1 := h
  rw [pairChange, hh, hw, Pair.isFormed_eq_false.2 hq]
  rfl

theorem pairChange_dissolve {q : Pair} {r : Request} (hl : 2 ≤ r.payload.length) (hq : q.run ≠ none)
    (h : r.word 1 = 0) : pairChange q r = .dissolve := by
  have hh : r.has 1 = true := decide_eq_true hl
  have hw : r.field 0 = 0 := h
  rw [pairChange, hh, hw, Pair.isFormed_eq_true.2 hq]
  rfl

theorem pairChange_settings {q : Pair} {r : Request} (hn : q.run = none → r.word 1 ≠ 1)
    (hs : q.run ≠ none → r.word 1 ≠ 0) : pairChange q r = .settings := by
  unfold pairChange
  split
  · next hm hf => exact absurd (mark?_eq_some hm) (hn (Pair.isFormed_eq_false.1 hf))
  · next hm hf => exact absurd (mark?_eq_some hm) (hs (Pair.isFormed_eq_true.1 hf))
  · rfl

/-- A pair item's write in service is judged by the row of its sort. -/
theorem State.onPairWrite_of_servesWrite {s : State} {seat : Seat} {k : PairNo} {r : Request} {sort : PairChange}
    (h : s.servesWrite seat (.pair k) r) (hs : pairChange (s.odu.pairs.read k) r = sort)
    (f : PairNo → PairFields → Verdict) : s.onPairWrite seat sort f =
      s.conclude seat r (s.asEditor seat (Verdict.fields (pairFields r) (f k))) :=
  State.onWrite_of_servesWrite h (if_pos hs)

/-- R16: a pair item's write from a seat without editor right, of whichever sort. -/
theorem State.onPairWrite_of_not {s : State} {seat : Seat} {k : PairNo} {r : Request} {sort : PairChange}
    (h : s.servesWrite seat (.pair k) r) (hs : pairChange (s.odu.pairs.read k) r = sort)
    (he : s.editor seat = false) (f : PairNo → PairFields → Verdict) :
    s.onPairWrite seat sort f = s.answer seat r .notEditor [] := by
  rw [State.onPairWrite_of_servesWrite h hs, State.asEditor_of_not he]
  rfl

/-! ### Requests of forms -/

/-- R57: a FLUSH of a form in service. -/
theorem State.onFlush_of_serves {s : State} {seat : Seat} {r : Request} {form : Nat} (h : s.serves seat .flush r)
    (hf : flushForm r = form) (f : Request → State) : s.onFlush seat form f = f r := by
  rw [State.onFlush, State.onRequest_of_serves h, if_pos hf]

/-- R57: a bus seat's FLUSH that names another seat. -/
theorem State.flushNamed_other {s : State} {seat : Seat} {r : Request} (h : seat ≠ serviceSeat)
    (hn : flushSeatNamed r ≠ seat.val) (f : Seat → State) : s.flushNamed seat r f = s.answer seat r .notEditor [] :=
  if_pos ⟨h, hn⟩

/-- R76: a SCAN of a form from a seat without editor right. -/
theorem State.onScan_of_not {s : State} {seat : Seat} {r : Request} {form : Nat} (h : s.serves seat .scan r)
    (hf : (r.word 0).toNat = form) (he : s.editor seat = false) (f : Request → State) :
    s.onScan seat form f = s.answer seat r .notEditor [] := by
  rw [State.onScan, State.onRequest_of_serves h]
  simp only [hf, true_or, if_true, he]

/-- R111: a CIRCUIT of a form from a seat without editor right. -/
theorem State.onCircuit_of_not {s : State} {seat : Seat} {r : Request} {form : Nat} (h : s.serves seat .circuit r)
    (hf : (r.word 1).toNat = form) (he : s.editor seat = false) (f : Request → CircuitNo → State) :
    s.onCircuit seat form f = s.answer seat r .notEditor [] := by
  rw [State.onCircuit, State.onRequest_of_serves h]
  simp only [hf, true_or, if_true, he]

/-- R42: a directory access from a seat without editor right. -/
theorem State.directoryAccess_of_not {s : State} {seat : Seat} (h : s.editor seat = false) (r : Request)
    (data : Option DirWord) : s.directoryAccess seat r data = s.answer seat r .notEditor [] := if_pos h

/-- What the service seat alone may ask, of any other seat. -/
theorem serviceRightsRequired {s : State} {seat : Seat} {r : Request} (hs : seat ≠ serviceSeat) :
    let refused : Outcome := .next (s.answer seat r .notEditor [])
    (s.servesWrite seat .rankTable r → exec (.configWriteRankTable seat) s = refused) ∧
      (∀ q, s.servesWrite seat (.root q) r → exec (.configWriteRoot seat) s = refused) ∧
      (∀ w, s.servesWrite seat (.window w) r → exec (.configWriteWindow seat) s = refused) ∧
      (∀ b, s.servesWrite seat (.rosterEntry b) r → exec (.configWriteRosterEntry seat) s = refused) ∧
      (s.servesWrite seat .orphanLimit r → exec (.configWriteOrphanLimit seat) s = refused) ∧
      (∀ q, q ≠ seat → s.servesWrite seat (.eventMask q) r → exec (.configWriteEventMask seat) s = refused) := by
  have hv := fun v => congrArg some (asService_of_ne hs v)
  exact ⟨fun h => State.next_onWrite_refused h (hv _), fun q h => State.next_onWrite_refused h (hv _),
    fun w h => State.next_onWrite_refused h (hv _), fun b h => State.next_onWrite_refused h (hv _),
    fun h => State.next_onWrite_refused h (hv _),
    fun q hq h => State.next_onWrite_refused h (congrArg some (if_pos ⟨hs, hq⟩))⟩

/-- Settles O30: the row or the form in service is refused for its sender alone, its fields unread. -/
theorem rightsAreRequired : Obligations.RightsAreRequired := by
  intro s seat r
  refine ⟨fun hs => ?_, fun he => ?_⟩
  · obtain ⟨hrank, hroot, hwindow, hroster, hlimit, hmask⟩ := serviceRightsRequired (s := s) (r := r) hs
    refine ⟨hrank, hroot, hwindow, hroster, hlimit, hmask, fun h => ?lockout, fun h hf hn => ?point,
      fun h hf hn => ?seat, fun h hf => ?all⟩
    case lockout => exact congrArg Host.Outcome.next ((State.onRequest_of_serves h _).trans (if_pos hs))
    case point =>
      exact congrArg Host.Outcome.next ((State.onFlush_of_serves h hf _).trans (State.flushNamed_other hs hn _))
    case seat =>
      exact congrArg Host.Outcome.next ((State.onFlush_of_serves h hf _).trans (State.flushNamed_other hs hn _))
    case all => exact congrArg Host.Outcome.next ((State.onFlush_of_serves h hf _).trans (if_pos hs))
  · have hv := fun v => congrArg some (State.asEditor_of_not he v)
    have hc := fun n v => congrArg some (State.circuitWrite_of_not he n v)
    refine ⟨fun c h => State.next_onWrite_refused h (hv _), fun c h => State.next_onWrite_refused h (hv _),
      fun c h => State.next_onWrite_refused h (hv _), fun m h => State.next_onWrite_refused h ?polarity,
      fun d h => State.next_onWrite_refused h ?minimum, fun g h => State.next_onWrite_refused h (hv _),
      fun k h hl => ⟨fun hq h1 => ?_, fun hq h0 => ?_, fun hq hq' => ?_⟩,
      fun c h => State.next_onWrite_refused h (hv _), fun n h => State.next_onWrite_refused h (hv _),
      fun n h => State.next_onWrite_refused h (hv _), fun t k h => State.next_onWrite_refused h (hv _),
      fun h => State.next_onWrite_refused h (hv _), fun h => State.next_onWrite_refused h (hv _),
      fun n h => State.next_onWrite_refused h (hv _), fun n h => State.next_onWrite_refused h (hc n _),
      fun n h => State.next_onWrite_refused h (hc n _), fun n h => State.next_onWrite_refused h (hc n _),
      fun n h => State.next_onWrite_refused h (hc n _), fun n h => State.next_onWrite_refused h (hc n _),
      fun h => ?_, fun h => ?_, fun h h0 => ?_, fun h h1 => ?_, fun h h2 => ?_, fun h h0 => ?_, fun h h1 => ?_,
      fun h => ?_⟩
    case polarity => exact (congrArg (Option.map _) (modOf_modCh m)).trans (hv _)
    case minimum => exact (congrArg (Option.map _) (discOf_discCh d)).trans (hv _)
    · exact congrArg Host.Outcome.next (State.onPairWrite_of_not h (pairChange_form hl hq h1) he _)
    · exact congrArg Host.Outcome.next (State.onPairWrite_of_not h (pairChange_dissolve hl hq h0) he _)
    · exact congrArg Host.Outcome.next (State.onPairWrite_of_not h (pairChange_settings hq hq') he _)
    · exact congrArg Host.Outcome.next ((State.onRequest_of_serves h _).trans (State.directoryAccess_of_not he _ _))
    · exact congrArg Host.Outcome.next ((State.onRequest_of_serves h _).trans (State.directoryAccess_of_not he _ _))
    · exact congrArg Host.Outcome.next (State.onScan_of_not h (by rw [h0]; rfl) he _)
    · exact congrArg Host.Outcome.next (State.onScan_of_not h (by rw [h1]; rfl) he _)
    · exact congrArg Host.Outcome.next (State.onScan_of_not h (by rw [h2]; rfl) he _)
    · exact congrArg Host.Outcome.next (State.onCircuit_of_not h (by rw [h0]; rfl) he _)
    · exact congrArg Host.Outcome.next (State.onCircuit_of_not h (by rw [h1]; rfl) he _)
    · exact congrArg Host.Outcome.next ((State.onRequest_of_serves h _).trans (if_pos he))

end Sys2Proof.Machine
end

section
/-! SUPPORT. The service seat's writes: fields read from their words, and the rank table, roots, windows, roster and
event masks they replace. -/

namespace Sys2Proof.Machine

/-! ### Fields of an item -/

theorem Request.has_of_le {r : Request} {n : Nat} (h : n + 1 ≤ r.payload.length) : r.has n = true := decide_eq_true h

theorem inRange?_of_le {lo hi : Nat} {w : Word} (h1 : lo ≤ w.toNat) (h2 : w.toNat ≤ hi) :
    inRange? lo hi w = some w.toNat := if_pos ⟨h1, h2⟩

/-- The four digits of a rank word are the seats it is made of. -/
theorem rankWord_digits {w : Word} {a b c d : Seat}
    (h : w.toNat = 4096 * a.val + 256 * b.val + 16 * c.val + d.val) :
    (w.extractLsb' 12 4).toNat = a.val ∧ (w.extractLsb' 8 4).toNat = b.val ∧ (w.extractLsb' 4 4).toNat = c.val ∧
      (w.extractLsb' 0 4).toNat = d.val := by
  have ha := a.isLt
  have hb := b.isLt
  have hc := c.isLt
  have hd := d.isLt
  simp only [BitVec.extractLsb'_toNat, Nat.shiftRight_eq_div_pow, h]
  omega

/-- R7: the word of four different seats is a rank table. -/
theorem rankFields_of_word {r : Request} {a b c d : Seat} (hl : 2 ≤ r.payload.length) (hn : [a, b, c, d].Nodup)
    (h : (r.word 1).toNat = 4096 * a.val + 256 * b.val + 16 * c.val + d.val) :
    rankFields r = some ⟨#v[a, b, c, d]⟩ := by
  obtain ⟨ha, hb, hc, hd⟩ := rankWord_digits h
  have hne : a ≠ b ∧ a ≠ c ∧ a ≠ d ∧ b ≠ c ∧ b ≠ d ∧ c ≠ d := by
    simpa [and_assoc] using hn
  simp only [rankFields, Request.has_of_le hl, if_true, Request.field, Option.bind_eq_bind, ha, hb, hc, hd, index?_val,
    Option.bind_some, if_pos hne]

/-- R28: an even base and a mark are a root. -/
theorem rootFields_of_words {r : Request} {v : Bool} (hl : 3 ≤ r.payload.length) (hb : (r.word 1).toNat ≤ 255)
    (he : (r.word 1).toNat % 2 = 0) (hv : r.word 2 = BitVec.ofNat 16 (if v = true then 1 else 0)) :
    rootFields r = some { base := BitVec.ofNat 8 (r.word 1).toNat, valid := v } := by
  simp only [rootFields, Request.has_of_le hl, if_true, Request.field, Option.bind_eq_bind,
    inRange?_of_le (Nat.zero_le _) hb, hv, mark?_ofNat, Option.bind_some, if_pos he]

/-- R47: five words in range are a window. -/
theorem windowFields_of_words {r : Request} {e g : Bool} (hl : 6 ≤ r.payload.length)
    (he : r.word 1 = BitVec.ofNat 16 (if e = true then 1 else 0)) (hb : (r.word 2).toNat ≤ 31)
    (hm : (r.word 3).toNat ≤ 31) (hs : (r.word 4).toNat ≤ 15)
    (hg : r.word 5 = BitVec.ofNat 16 (if g = true then 1 else 0)) :
    windowFields r = some
      { enable := e, zoneBase := BitVec.ofNat 5 (r.word 2).toNat, zoneMask := BitVec.ofNat 5 (r.word 3).toNat,
        seats := BitVec.ofNat 4 (r.word 4).toNat, guarded := g } := by
  simp only [windowFields, Request.has_of_le hl, if_true, Request.field, Option.bind_eq_bind,
    inRange?_of_le (Nat.zero_le _) hb, inRange?_of_le (Nat.zero_le _) hm, inRange?_of_le (Nat.zero_le _) hs, he, hg,
    mark?_ofNat, Option.bind_some]

/-- R145: a station and two marks are a roster entry. -/
theorem rosterFields_of_words {r : Request} {e g : Bool} (hl : 4 ≤ r.payload.length) (hst : (r.word 1).toNat ≤ 15)
    (he : r.word 2 = BitVec.ofNat 16 (if e = true then 1 else 0))
    (hg : r.word 3 = BitVec.ofNat 16 (if g = true then 1 else 0)) :
    rosterFields r = some { station := BitVec.ofNat 4 (r.word 1).toNat, enabled := e, editor := g } := by
  simp only [rosterFields, Request.has_of_le hl, if_true, Request.field, Option.bind_eq_bind,
    inRange?_of_le (Nat.zero_le _) hst, he, hg, mark?_ofNat, Option.bind_some]

/-- R161: a flag set and a mark are an event mask. -/
theorem eventMaskFields_of_words {r : Request} {e : Bool} (hl : 3 ≤ r.payload.length)
    (he : r.word 2 = BitVec.ofNat 16 (if e = true then 1 else 0)) :
    eventMaskFields r = some ((r.word 1).extractLsb' 0 12, e) := by
  simp only [eventMaskFields, Request.has_of_le hl, if_true, Request.field, he, mark?_ofNat, Option.map_some]

/-! ### The roster -/

/-- R145: a seat is in use that holds a demand, an entry in its line, or a request in service. -/
theorem State.seatInUse_iff (s : State) (seat : Seat) : s.seatInUse seat = true ↔
    (∃ c, (s.record c).slot seat ≠ none) ∨ s.lbi.lines.read seat ≠ [] ∨ s.lbi.service.read seat ≠ none := by
  simp only [State.seatInUse, Bool.or_eq_true, List.any_eq_true, List.mem_finRange, true_and, Bool.not_eq_true',
    List.isEmpty_eq_false_iff, Option.isSome_iff_ne_none, or_assoc]

/-- R145: an entry clashes with no station where it is not enabled, or its station is no other's. -/
theorem Lbi.rosterClash_of_free {l : Lbi} {b : BusSeat} {e g : Bool} {n : Nat} (hn : n ≤ 15)
    (h : e = true → n ≠ l.station.toNat ∧
      ∀ o, o ≠ b → (l.roster.read o).enabled = true → (l.roster.read o).station.toNat ≠ n) :
    l.rosterClash b { station := BitVec.ofNat 4 n, enabled := e, editor := g } = false := by
  have hst : ∀ x : BitVec 4, BitVec.ofNat 4 n = x ↔ n = x.toNat := by
    intro x
    rw [← BitVec.toNat_inj, BitVec.toNat_ofNat, Nat.mod_eq_of_lt (by omega)]
  cases e with
  | false => rfl
  | true =>
    obtain ⟨hown, hothers⟩ := h rfl
    simp only [Lbi.rosterClash, Bool.true_and, Bool.or_eq_false_iff, beq_eq_false_iff_ne, List.any_eq_false,
      List.mem_finRange, Bool.and_eq_true, bne_iff_ne, beq_iff_eq, not_and, true_implies]
    refine ⟨fun e => hown ((hst _).1 e), fun o ho e => hothers o ho.1 ho.2 ((hst _).1 e.symm).symm⟩

/-! ### The rank table -/

/-- R7, R9: a new rank table judges every record in use by it. -/
theorem State.setRanks_judged (s : State) (ranks : Bank Seat 4) {c : OutCh} (h : s.odu.oddMember c = false) :
    (s.setRanks ranks).record c = (s.record c).judge ranks s.standing := by
  rw [State.setRanks_record, if_neg (by simp [h])]

/-- R8, R10, R11: the arbitrated value of a judged record is its winner's, or with none its fallback's. -/
theorem Record.judge_arbitrated (ranks : Bank Seat 4) (st : Seat → Standing) (r : Record) :
    (∀ q, (r.judge ranks st).winner = some q → ∃ x, r.slot q = some x ∧ (r.judge ranks st).arbitrated = x.value) ∧
      ((r.judge ranks st).winner = none → (r.judge ranks st).arbitrated = r.fallback) := by
  refine ⟨fun q hq => ?_, fun hn => ?_⟩
  · rw [Record.judge_winner] at hq
    obtain ⟨d, hd⟩ := slot_of_chooseWinner hq
    refine ⟨d, hd, ?_⟩
    rw [Record.judge, Record.rearbitrate_of_winner hq hd]
    rfl
  · rw [Record.judge_winner] at hn
    rw [Record.judge, Record.rearbitrate_of_none hn]
    rfl

/-- R7: a new rank table reaches the command table and the outputs alone. -/
theorem State.setRanks_frame (s : State) (ranks : Bank Seat 4) :
    (s.setRanks ranks).pdir = s.pdir ∧ (s.setRanks ranks).lbi = s.lbi ∧ (s.setRanks ranks).shu = s.shu ∧
      (s.setRanks ranks).evu = s.evu ∧ (s.setRanks ranks).circuits = s.circuits := by
  simp only [State.setRanks, State.withRecords_pdir, State.withRecords_lbi, State.withRecords_shu,
    State.withRecords_evu, State.withRecords_circuits, and_self]

/-- Settles O31: each item's fields are read from its words, and replace the item where nothing stands against it. -/
theorem serviceItemsAreReplaced : Obligations.ServiceItemsAreReplaced := by
  refine ⟨fun s r a b c d h hl hn hw => ?ranks, fun s r =>
    ⟨fun q v h hl hb he hv => ?root, fun n e g h hl he hb hm hs hg => ?window,
      fun b e g h hl hst he hg hfree => ?roster, fun q e seat hq h hl he => ?mask⟩⟩
  case ranks =>
    obtain ⟨ranks, hranks⟩ : ∃ ranks : Bank Seat 4, ranks = ⟨#v[a, b, c, d]⟩ := ⟨_, rfl⟩
    have hfields : rankFields r = some ranks := hranks ▸ rankFields_of_word hl hn hw
    obtain ⟨t, ht⟩ : ∃ t, t = s.setRanks ranks := ⟨_, rfl⟩
    have htable : t.cmdt.ranks = ranks := by rw [ht, State.setRanks_ranks]
    have hrecord : ∀ ch, s.odu.oddMember ch = false → t.record ch = (s.record ch).judge ranks s.standing := by
      intro ch hch
      rw [ht, s.setRanks_judged _ hch]
    refine ⟨t, State.next_onWrite_accepted h ?_, htable.trans hranks, ⟨?_, fun ch hch => ?_⟩, fun ch hch => ?_,
      ht ▸ s.setRanks_frame ranks⟩
    · simp only [asService_serviceSeat, hfields, Verdict.fields, ht]
    · rw [htable, ht]
      rfl
    · rw [htable, hrecord ch hch]
      rfl
    · rw [hrecord ch hch, htable]
      obtain ⟨hwinner, hnone⟩ := Record.judge_arbitrated ranks s.standing (s.record ch)
      exact ⟨Record.judge_slots .., Record.judge_winner .., hwinner,
        fun h => (hnone h).trans (s.record ch).fallback_eq, Record.judge_effective ..⟩
  case root =>
    refine State.next_onWrite_accepted h ?_
    simp only [asService_serviceSeat, rootFields_of_words hl hb he hv, Verdict.fields]
    rfl
  case window =>
    refine State.next_onWrite_accepted h ?_
    simp only [asService_serviceSeat, windowFields_of_words hl he hb hm hs hg, Verdict.fields]
  case roster =>
    have hclash := Lbi.rosterClash_of_free (l := s.lbi) (b := b) (e := e) (g := g) hst hfree
    refine ⟨fun hu => State.next_onWrite_refused h ?_, fun hu => State.next_onWrite_accepted h ?_⟩
    · simp only [asService_serviceSeat, rosterFields_of_words hl hst he hg, Verdict.fields, State.rosterWrite, hclash,
        (s.seatInUse_iff _).2 hu, Bool.false_eq_true, if_false, if_true]
    · have hfree : ¬s.seatInUse (seatOf b) = true := fun e => hu ((s.seatInUse_iff _).1 e)
      simp only [asService_serviceSeat, rosterFields_of_words hl hst he hg, Verdict.fields, State.rosterWrite, hclash,
        hfree, Bool.false_eq_true, if_false]
  case mask =>
    refine State.next_onWrite_accepted h ?_
    have hown : ¬(seat ≠ serviceSeat ∧ q ≠ seat) := fun e => hq.elim e.1 e.2
    simp only [if_neg hown, eventMaskFields_of_words hl he, Verdict.fields]
    rfl

end Sys2Proof.Machine
end

section
/-! SUPPORT. Writes of a channel's settings and of its output: limits, fallback, default hold, polarity, minimum times
and periods. -/

namespace Sys2Proof.Machine

/-! ### Fields -/

/-- R169: 65535 keeps a setting, and a number to 1000 replaces it. -/
theorem keepOr_of_le {w : Word} (h : w = 65535#16 ∨ w.toNat ≤ 1000) (now : Nat) :
    keepOr now w = some (if w = 65535#16 then now else w.toNat) := by
  have ha : absentWord = 65535#16 := rfl
  unfold keepOr
  rw [ha]
  split
  · rfl
  · next hw => rw [inRange?_of_le (Nat.zero_le _) (h.resolve_left hw)]

/-- R10, R169: 65535 keeps the fallback mode, and 0 or 1 names one. -/
theorem fallbackMode?_of_le {w : Word} (h : w = 65535#16 ∨ w.toNat ≤ 1) (now : FallbackMode) :
    (if w = absentWord then some now else fallbackMode? w) =
      some (if w = 65535#16 then now else if w = 0 then .fixed else .holdLast) := by
  have ha : absentWord = 65535#16 := rfl
  rw [ha]
  split
  · rfl
  · next hw =>
    have h1 := h.resolve_left hw
    unfold fallbackMode?
    split
    · rfl
    · next h0 =>
      have hne : w.toNat ≠ 0 := fun e => h0 (BitVec.eq_of_toNat_eq e)
      have hone : w = 1 := BitVec.eq_of_toNat_eq (show w.toNat = 1 by omega)
      simp [hone]

theorem limitFields_eq {rec : Record} {r : Request} {lo hi : Nat} (hl : 3 ≤ r.payload.length)
    (h1 : keepOr rec.staticMin (r.word 1) = some lo) (h2 : keepOr rec.staticMax (r.word 2) = some hi) :
    limitFields rec r = if lo ≤ hi then some (lo, hi) else none := by
  simp only [limitFields, Request.has_of_le hl, if_true, Request.field, Option.bind_eq_bind, h1, h2, Option.bind_some]

theorem fallbackFields_eq {rec : Record} {r : Request} {mode : FallbackMode} {value : Nat} (hl : 3 ≤ r.payload.length)
    (h1 : (if r.word 1 = absentWord then some rec.fallbackMode else fallbackMode? (r.word 1)) = some mode)
    (h2 : keepOr rec.fallbackValue (r.word 2) = some value) : fallbackFields rec r = some (mode, value) := by
  have hmode : r.field 0 = r.word 1 := rfl
  have hvalue : r.field 1 = r.word 2 := rfl
  rw [fallbackFields, if_pos (Request.has_of_le hl), hmode, hvalue, h2]
  by_cases ha : r.word 1 = absentWord
  · rw [if_pos ha] at h1 ⊢
    cases h1
    rfl
  · rw [if_neg ha] at h1 ⊢
    rw [h1]
    rfl

theorem limitField_of_le {r : Request} (hl : 2 ≤ r.payload.length) (h1 : 1 ≤ (r.word 1).toNat)
    (h2 : (r.word 1).toNat ≤ 600) : limitField r = some (r.word 1).toNat := by
  rw [limitField, Request.has_of_le hl]
  exact inRange?_of_le h1 h2

theorem polarityField_of_word {r : Request} {p : Polarity} (hl : 2 ≤ r.payload.length)
    (h : r.word 1 = BitVec.ofNat 16 p.number) : polarityField r = some p := by
  rw [polarityField, Request.has_of_le hl, if_pos rfl, Request.field, h]
  cases p <;> rfl

theorem minimumFields_of_le {r : Request} (hl : 3 ≤ r.payload.length) (h1 : (r.word 1).toNat ≤ 600)
    (h2 : (r.word 2).toNat ≤ 600) : minimumFields r = some ((r.word 1).toNat, (r.word 2).toNat) := by
  simp only [minimumFields, Request.has_of_le hl, if_true, Request.field, Option.bind_eq_bind,
    inRange?_of_le (Nat.zero_le _) h1, inRange?_of_le (Nat.zero_le _) h2, Option.bind_some]

theorem periodField_of_le {r : Request} (hl : 2 ≤ r.payload.length) (h1 : 100 ≤ (r.word 1).toNat)
    (h2 : (r.word 1).toNat ≤ 4000) : periodField r = some (r.word 1).toNat := by
  rw [periodField, Request.has_of_le hl]
  exact inRange?_of_le h1 h2

theorem periodField_of_out {r : Request} (hl : 2 ≤ r.payload.length)
    (h : (r.word 1).toNat < 100 ∨ 4000 < (r.word 1).toNat) : periodField r = none := by
  rw [periodField, if_pos (Request.has_of_le hl)]
  refine if_neg fun e => ?_
  have he : 100 ≤ (r.word 1).toNat ∧ (r.word 1).toNat ≤ 4000 := e
  omega

/-! ### One record's settings -/

/-- What a change of one record leaves: the others, and everything beside records and outputs. -/
theorem State.withRecord_frame (s : State) (c : OutCh) (f : Record → Record) :
    (∀ c', c' ≠ c → (s.withRecord c f).record c' = s.record c') ∧ (s.withRecord c f).shu = s.shu ∧
      (s.withRecord c f).lbi = s.lbi ∧ (s.withRecord c f).evu = s.evu :=
  ⟨(s.withRecord_onlyRecord c f).1, s.withRecords_shu _, s.withRecords_lbi _, s.withRecords_evu _⟩

theorem State.withRecord_record_same {s : State} {c : OutCh} (h : s.odu.oddMember c = false) (f : Record → Record) :
    (s.withRecord c f).record c = f (s.record c) := by simp [State.withRecord_record, h]

/-- R16: a new default hold reaches its record alone. -/
theorem State.setDefaultHold_frame (s : State) (c : OutCh) (hold : Nat) : s.setDefaultHold c hold =
    { s with cmdt := { s.cmdt with records := (s.setDefaultHold c hold).cmdt.records } } := by
  have heff : ∀ c', (s.cmdt.records.read c').effective = ((s.setDefaultHold c hold).cmdt.records.read c').effective := by
    intro c'
    show (s.record c').effective = ((s.setDefaultHold c hold).record c').effective
    rw [State.setDefaultHold_record]
    split <;> rfl
  have hodu : (s.setDefaultHold c hold).odu = s.odu := Odu.takeCommands_of_effective _ _ heff
  conv_lhs => rw [State.setDefaultHold, State.withRecord, State.withRecords_frame]
  rw [← State.withRecord, ← State.setDefaultHold, hodu]

theorem Record.judge_fallbackMode (ranks : Bank Seat 4) (st : Seat → Standing) (r : Record) :
    (r.judge ranks st).fallbackMode = r.fallbackMode := by
  have h := congrArg Record.fallbackMode (r.rearbitrate_frame ranks st)
  exact h

theorem Record.judge_fallbackValue (ranks : Bank Seat 4) (st : Seat → Standing) (r : Record) :
    (r.judge ranks st).fallbackValue = r.fallbackValue := by
  have h := congrArg Record.fallbackValue (r.rearbitrate_frame ranks st)
  exact h

/-- R10, R11: the fallback's value, by its mode. -/
theorem Record.fallback_eq_ite (r : Record) :
    r.fallback = if r.fallbackMode = .fixed then r.fallbackValue else r.lastWon.getD r.fallbackValue := by
  unfold Record.fallback
  cases r.fallbackMode <;> rfl

/-- Settles O32: values first, then use; what is taken is a change of the one record. -/
theorem channelSettingsAreHeldInUse : Obligations.ChannelSettingsAreHeldInUse := by
  intro s seat r c he ho was keeps
  refine ⟨?limits, ?fallback, fun h hl h1 h2 => ?hold⟩
  case limits =>
    intro h hl h1 h2 lo hi
    have hf := limitFields_eq hl (keepOr_of_le h1 was.staticMin) (keepOr_of_le h2 was.staticMax)
    refine ⟨fun hlt => State.next_onWrite_refused h ?_, fun hle hh => State.next_onWrite_refused h ?_,
      fun hle hh => ⟨s.setLimits c lo hi, State.next_onWrite_accepted h ?_, rfl,
        State.withRecord_record_same ho _, s.withRecord_frame c _⟩⟩
    · rw [if_neg (by exact Nat.not_le.2 hlt)] at hf
      simp only [State.asEditor_of_editor he, hf, Verdict.fields, was]
    · rw [if_pos hle] at hf
      simp only [State.asEditor_of_editor he, hf, Verdict.fields, State.settingsWrite_held ho hh, was]
    · rw [if_pos hle] at hf
      simp only [State.asEditor_of_editor he, hf, Verdict.fields, State.settingsWrite_taken ho hh, was]
      rfl
  case fallback =>
    intro h hl h1 h2 mode value
    have hf := fallbackFields_eq hl (fallbackMode?_of_le h1 was.fallbackMode) (keepOr_of_le h2 was.fallbackValue)
    refine ⟨fun hh => State.next_onWrite_refused h ?_, fun hh => ?_⟩
    · simp only [State.asEditor_of_editor he, hf, Verdict.fields, State.settingsWrite_held ho hh, was]
    · have hrec := State.withRecord_record_same ho
        (fun rec => s.judgeRecord { rec with fallbackMode := mode, fallbackValue := value })
      have hframe := s.withRecord_frame c
        (fun rec => s.judgeRecord { rec with fallbackMode := mode, fallbackValue := value })
      obtain ⟨t, ht⟩ : ∃ t, t = s.setFallback c mode value := ⟨_, rfl⟩
      rw [← State.setFallback, ← ht] at hrec hframe
      refine ⟨t, State.next_onWrite_accepted h ?_, ht, ?_⟩
      · simp only [State.asEditor_of_editor he, hf, Verdict.fields, State.settingsWrite_taken ho hh, was, ht]
        rfl
      · rw [hrec]
        refine ⟨Record.judge_fallbackMode .., Record.judge_fallbackValue .., fun hq => ?_, Record.judge_effective ..,
          Record.judge_slots .., hframe⟩
        refine ((Record.judge_arbitrated ..).2 ?_).trans (Record.fallback_eq_ite _)
        rw [Record.judge_winner]
        exact chooseWinner_of_empty hq
  case hold =>
    have hf := limitField_of_le hl h1 h2
    refine ⟨fun hh => State.next_onWrite_refused h ?_, fun hh =>
      ⟨s.setDefaultHold c (r.word 1).toNat, State.next_onWrite_accepted h ?_, s.setDefaultHold_frame c _,
        State.withRecord_record_same ho _, s.withRecord_frame c _⟩⟩
    · simp only [State.asEditor_of_editor he, hf, Verdict.fields, State.settingsWrite_held ho hh]
    · simp only [State.asEditor_of_editor he, hf, Verdict.fields, State.settingsWrite_taken ho hh]

/-! ### Use of a channel (R16) -/

theorem pairOf_eq_some {c : OutCh} {k : PairNo} : pairOf c = some k ↔ c = evenCh k ∨ c = oddCh k := by
  have hk := k.isLt
  simp only [pairOf, index?, evenCh, oddCh, Fin.ext_iff]
  split
  · rw [Option.some.injEq, Fin.ext_iff]
    simp only
    omega
  · simp only [reduceCtorEq, false_iff]
    omega

theorem Pair.moveInFlight_iff (q : Pair) : q.moveInFlight = true ↔ ∃ p, q.run = some p ∧ p.state ≠ .idle := by
  unfold Pair.moveInFlight
  cases q.run <;> simp

/-- R16: a channel has a move in flight where its formed pair is in another state than IDLE. -/
theorem State.moveInFlight_iff (s : State) (c : OutCh) : s.moveInFlight c = true ↔
    ∃ k p, (c = evenCh k ∨ c = oddCh k) ∧ (s.odu.pairs.read k).run = some p ∧ p.state ≠ .idle := by
  unfold State.moveInFlight
  constructor
  · intro h
    split at h
    · next k hk =>
      obtain ⟨p, hp⟩ := (Pair.moveInFlight_iff _).1 h
      exact ⟨k, p, pairOf_eq_some.1 hk, hp⟩
    · cases h
  · rintro ⟨k, p, hk, hp⟩
    rw [pairOf_eq_some.2 hk]
    exact (Pair.moveInFlight_iff _).2 ⟨p, hp⟩

theorem Record.live_iff (r : Record) : r.live = true ↔ ∃ q, r.slot q ≠ none := by
  simp only [Record.live, List.any_eq_true, List.mem_finRange, true_and, Option.isSome_iff_ne_none]

theorem State.settingsHeld_iff (s : State) (c : OutCh) : s.settingsHeld c = true ↔ s.shutOff c = false ∧
    ((∃ q, (s.record c).slot q ≠ none) ∨
      ∃ k p, (c = evenCh k ∨ c = oddCh k) ∧ (s.odu.pairs.read k).run = some p ∧ p.state ≠ .idle) := by
  simp only [State.settingsHeld, Bool.and_eq_true, Bool.or_eq_true, Bool.not_eq_true', Record.live_iff,
    State.moveInFlight_iff]

/-! ### Minimum times (R129) -/

/-- R129, R130: with none held, or its minimum not met, a held change waits. -/
theorem Discrete.applyHeld_waits {d : Discrete} (h : d.held = none ∨ d.time < d.minimum) : d.applyHeld = d := by
  unfold Discrete.applyHeld
  split
  · next want hw =>
    have hlt : d.time < d.minimum := h.resolve_left (by simp [hw])
    exact if_neg (by omega)
  · rfl

/-- R130: a held change whose minimum is met is applied. -/
theorem Discrete.applyHeld_met {d : Discrete} {want : Bool} (h : d.held = some want) (hne : want ≠ d.on)
    (hle : d.minimum ≤ d.time) : d.applyHeld = { d with on := want, time := 0, held := none } := by
  simp only [Discrete.applyHeld, h, if_pos hle, Discrete.change, if_neg hne]

section
variable {s : State} {seat : Seat} {r : Request} (he : s.editor seat = true)
include he

/-- R118: an editor's write of a modulated channel's output item. -/
theorem State.exec_outputPolarity {m : ModCh} {p : Polarity} (h : s.servesWrite seat (.output (modCh m)) r)
    (hf : polarityField r = some p) : exec (.configWriteOutputPolarity seat) s =
      .next (s.conclude seat r (s.settingsWrite (modCh m) (s.setPolarity m p))) := by
  refine congrArg Host.Outcome.next (State.onWrite_of_servesWrite h ?_)
  simp only [modOf_modCh, Option.map_some, State.asEditor_of_editor he, hf, Verdict.fields]

/-- R129: an editor's write of a discrete channel's output item. -/
theorem State.exec_minimumTimes {d : DiscCh} {on off : Nat} (h : s.servesWrite seat (.output (discCh d)) r)
    (hf : minimumFields r = some (on, off)) : exec (.configWriteMinimumTimes seat) s =
      .next (s.conclude seat r (s.settingsWrite (discCh d) (s.setMinimums d on off))) := by
  refine congrArg Host.Outcome.next (State.onWrite_of_servesWrite h ?_)
  simp only [discOf_discCh, Option.map_some, State.asEditor_of_editor he, hf, Verdict.fields]

end

/-- R129: minimum times whose write leaves no held change to apply. -/
theorem State.setMinimums_waits {s : State} {d : DiscCh} {on off : Nat} {now : Discrete}
    (hnow : now = { s.odu.discretes.read d with minOn := on, minOff := off })
    (h : s.shutOff (discCh d) = true ∨ now.held = none ∨ now.time < now.minimum) : s.setMinimums d on off =
      { s with odu := { s.odu with discretes := s.odu.discretes.write d now } } := by
  subst hnow
  unfold State.setMinimums Bank.update
  dsimp only
  split
  · rfl
  · next hoff => rw [Discrete.applyHeld_waits (h.resolve_left hoff)]

/-- R129: minimum times whose write applies the held change of a driving channel. -/
theorem State.setMinimums_met {s : State} {d : DiscCh} {on off : Nat} {now : Discrete} {want : Bool}
    (hnow : now = { s.odu.discretes.read d with minOn := on, minOff := off }) (hoff : s.shutOff (discCh d) = false)
    (hw : now.held = some want) (hne : want ≠ now.on) (hle : now.minimum ≤ now.time) : s.setMinimums d on off =
      { s with odu := { s.odu with
        discretes := s.odu.discretes.write d { now with on := want, time := 0, held := none } } } := by
  subst hnow
  unfold State.setMinimums Bank.update
  dsimp only
  rw [if_neg (by simp [hoff]), Discrete.applyHeld_met hw hne hle]

/-- Settles O33: values first, then the pair's odd channel, then use; what is taken is a change of the one output. -/
theorem driveItemsAreTaken : Obligations.DriveItemsAreTaken := by
  refine ⟨State.settingsHeld_iff, fun s seat r he => ⟨fun m pol h hl hp => ?polarity, ?minimum,
    fun g h hl => ⟨fun hr => ?period, fun hr => ?range⟩⟩⟩
  case polarity =>
    rw [State.exec_outputPolarity he h (polarityField_of_word hl hp)]
    refine ⟨fun ho => ?_, fun ho hh => ?_, fun ho hh => ?_⟩
    · rw [State.settingsWrite_odd ho]
      rfl
    · rw [State.settingsWrite_held ho hh]
      rfl
    · rw [State.settingsWrite_taken ho hh]
      rfl
  case minimum =>
    intro d h hl h1 h2 was minimum taken replaced
    have ho : s.odu.oddMember (discCh d) = false := oddMember_discCh _ d
    rw [State.exec_minimumTimes he h (minimumFields_of_le hl h1 h2)]
    refine ⟨fun hh => ?_, fun hh hw => ?_, fun want hh hw hne hoff hle => ?_⟩
    · rw [State.settingsWrite_held ho hh]
      rfl
    · have hwaits : s.shutOff (discCh d) = true ∨ replaced.held = none ∨ replaced.time < replaced.minimum := by
        rcases hw with hw | hw | hw
        · exact .inr (.inl hw)
        · exact .inl hw
        · exact .inr (.inr hw)
      rw [State.settingsWrite_taken ho hh, State.setMinimums_waits rfl hwaits]
      rfl
    · rw [State.settingsWrite_taken ho hh, State.setMinimums_met (now := replaced) rfl hoff hw hne hle]
      rfl
  case period =>
    refine State.next_onWrite_accepted h ?_
    simp only [State.asEditor_of_editor he, periodField_of_le hl hr.1 hr.2, Verdict.fields]
    rfl
  case range =>
    refine State.next_onWrite_refused h ?_
    simp only [State.asEditor_of_editor he, periodField_of_out hl hr, Verdict.fields]

end Sys2Proof.Machine
end

section
/-! SUPPORT. A circuit's outputs write: the lists its words give, the checks of R96, and the roles it hands out. -/

namespace Sys2Proof.Machine

/-! ### The lists of an outputs item -/

theorem mem_setMembers {n v : Nat} {i : Fin n} : i ∈ setMembers n v ↔ v.testBit i.val = true := by
  simp [setMembers, List.mem_finRange]

theorem setMembers_nodup (n v : Nat) : (setMembers n v).Nodup := (List.nodup_finRange n).filter _

theorem wordsNat_eq (hi lo : Word) : wordsNat hi lo = 65536 * hi.toNat + lo.toNat := by
  rw [wordsNat, Nat.mul_comm]

/-- R94: the bypass word names a modulated channel, or with 65535 none. -/
theorem bypassField_of_word {w : Word} (h : ¬(24 ≤ w.toNat ∧ w.toNat ≠ 65535)) :
    ∃ b, bypassField w = some b ∧ ∀ c, b = some c ↔ w.toNat = c.val := by
  unfold bypassField
  split
  · next ha =>
    refine ⟨none, rfl, fun c => ?_⟩
    have hw : w.toNat = 65535 := by rw [ha]; rfl
    have := c.isLt
    simp only [reduceCtorEq, false_iff]
    omega
  · next ha =>
    have hne : w.toNat ≠ 65535 := fun e => ha (BitVec.eq_of_toNat_eq e)
    have hlt : w.toNat < 24 := by omega
    refine ⟨some (modCh ⟨w.toNat, hlt⟩), by rw [index?, dif_pos hlt]; rfl, fun c => ?_⟩
    rw [Option.some.injEq, Fin.ext_iff]
    rfl

theorem bypassField_none {w : Word} (h : 24 ≤ w.toNat ∧ w.toNat ≠ 65535) : bypassField w = none := by
  have ha : w ≠ absentWord := fun e => h.2 (by rw [e]; rfl)
  rw [bypassField, if_neg ha, index?_none h.1]
  rfl

/-- R94: the lists that the words of an outputs item give. -/
theorem outputWords_of_words {r : Request} (hl : ¬r.payload.length < 6)
    (hf : ¬2 ^ 24 ≤ 65536 * (r.word 1).toNat + (r.word 2).toNat)
    (hb : ¬(24 ≤ (r.word 3).toNat ∧ (r.word 3).toNat ≠ 65535)) :
    ∃ b, (∀ c, b = some c ↔ (r.word 3).toNat = c.val) ∧ outputWords r = some
      { fans := setMembers 32 (65536 * (r.word 1).toNat + (r.word 2).toNat), bypass := b
        pumps := setMembers 32 (65536 * (r.word 4).toNat + (r.word 5).toNat) } := by
  obtain ⟨b, hb, hc⟩ := bypassField_of_word hb
  have hhas : r.has 5 = true := Request.has_of_le (Nat.not_lt.1 hl)
  refine ⟨b, hc, ?_⟩
  simp only [outputWords, wordsNat_eq, Request.field, hb, Option.map_some]
  rw [if_pos ⟨hhas, Nat.not_le.1 hf⟩]

theorem outputWords_none {r : Request} (h : r.payload.length < 6 ∨
    2 ^ 24 ≤ 65536 * (r.word 1).toNat + (r.word 2).toNat ∨ 24 ≤ (r.word 3).toNat ∧ (r.word 3).toNat ≠ 65535) :
    outputWords r = none := by
  simp only [outputWords, wordsNat_eq, Request.field]
  split
  · next hok =>
    have hl : 6 ≤ r.payload.length := of_decide_eq_true hok.1
    have hf : 65536 * (r.word 1).toNat + (r.word 2).toNat < 2 ^ 24 := hok.2
    have hb := (h.resolve_left (Nat.not_lt.2 hl)).resolve_left (Nat.not_le.2 hf)
    show (bypassField (r.word 3)).map _ = none
    rw [bypassField_none hb]
    rfl
  · rfl

/-! ### The checks of R96 -/

theorem Odu.formed_iff (o : Odu) (k : PairNo) : o.formed k = true ↔ (o.pairs.read k).run ≠ none := Pair.isFormed_eq_true

theorem Odu.member_iff (o : Odu) (c : OutCh) :
    o.member c = true ↔ ∃ k, (o.pairs.read k).run ≠ none ∧ (c = evenCh k ∨ c = oddCh k) := by
  unfold Odu.member
  constructor
  · intro h
    split at h
    · next k hk => exact ⟨k, (o.formed_iff k).1 h, pairOf_eq_some.1 hk⟩
    · cases h
  · rintro ⟨k, hr, hk⟩
    rw [pairOf_eq_some.2 hk]
    exact (o.formed_iff k).2 hr

theorem Odu.oddMember_run_iff (o : Odu) (c : OutCh) :
    o.oddMember c = true ↔ ∃ k, (o.pairs.read k).run ≠ none ∧ c = oddCh k := by
  simp only [Odu.oddMember_iff, Odu.formed_iff]

/-- R96: a channel that another circuit lists. -/
theorem State.otherCircuit_lists (s : State) (n : CircuitNo) (c : OutCh) :
    s.otherCircuit n (fun o => o.lists c) = true ↔ ∃ o, o ≠ n ∧
      (c ∈ (s.circuit o).fans ∨ (s.circuit o).bypass = some c ∨ c ∈ (s.circuit o).pumps) := by
  simp only [State.otherCircuit, List.any_eq_true, List.mem_finRange, true_and, Bool.and_eq_true, bne_iff_ne,
    Circuit.lists_iff]

/-- A channel stands in two of the lists of an outputs item. -/
def OutputFields.twice (f : OutputFields) (c : OutCh) : Prop :=
  c ∈ f.fans ∧ f.bypass = some c ∨ c ∈ f.fans ∧ c ∈ f.pumps ∨ f.bypass = some c ∧ c ∈ f.pumps

theorem OutputFields.all_nodup {f : OutputFields} (hf : f.fans.Nodup) (hp : f.pumps.Nodup) :
    f.all.Nodup ↔ ∀ c, ¬f.twice c := by
  have hb : f.bypass.toList.Nodup := by cases f.bypass <;> simp
  simp only [OutputFields.all, List.nodup_append, hf, hb, hp, true_and, Option.mem_toList, List.mem_append,
    OutputFields.twice]
  constructor
  · rintro ⟨h1, h2⟩ c (⟨hc, hd⟩ | ⟨hc, hd⟩ | ⟨hc, hd⟩)
    · exact h1 c hc c hd rfl
    · exact h2 c (.inl hc) c hd rfl
    · exact h2 c (.inr hc) c hd rfl
  · refine fun h => ⟨fun a ha b hb e => h a (.inl ⟨ha, e ▸ hb⟩), fun a ha b hb e => ?_⟩
    rcases ha with ha | ha
    · exact h a (.inr (.inl ⟨ha, e ▸ hb⟩))
    · exact h a (.inr (.inr ⟨ha, e ▸ hb⟩))

theorem OutputFields.mem_all (f : OutputFields) (c : OutCh) :
    c ∈ f.all ↔ c ∈ f.fans ∨ f.bypass = some c ∨ c ∈ f.pumps := by
  simp [OutputFields.all]

/-- R96: the checks of an outputs write, one by one. -/
theorem State.outputsAllowed_iff (s : State) (n : CircuitNo) {f : OutputFields} (hf : f.fans.Nodup) (hp : f.pumps.Nodup) :
    s.outputsAllowed n f = true ↔ f.fans.length ≤ 6 ∧ f.pumps.length ≤ 2 ∧
      (∀ c ∈ f.fans, ¬s.odu.member c = true ∧ (s.shutoff c).mask.frostTrip = true) ∧
      (∀ c, f.bypass = some c → ¬s.odu.oddMember c = true) ∧ (∀ c ∈ f.pumps, ¬s.odu.member c = true) ∧
      (∀ c, ¬f.twice c) ∧ ∀ c ∈ f.all, ¬s.otherCircuit n (fun o => o.lists c) = true := by
  simp only [State.outputsAllowed, Bool.and_eq_true, decide_eq_true_eq, List.all_eq_true, Bool.not_eq_true',
    Bool.not_eq_true, Option.mem_toList, OutputFields.all_nodup hf hp, and_assoc]

/-! ### Roles (R14) -/

/-- A change of records, written by what it leaves. -/
theorem State.withRecords_fix (s : State) (f : OutCh → Record → Record) :
    s.withRecords f = s.withRecords fun c _ => (s.withRecords f).record c := by
  refine State.withRecords_congr fun c hc => ?_
  rw [State.withRecords_record, if_neg (by simp [hc])]

/-- R14: the record of a channel with a role and a circuit, under no bound. -/
def Record.withRole (r : Record) (role : Role) (n : Option CircuitNo) : Record :=
  { r with role := role, circuit := n, bound := .none, effective := r.limited }

section
variable {x : Circuit} {c : OutCh} {n : CircuitNo} (r : Record)

theorem Record.takeRole_fan (h : c ∈ x.fans) : r.takeRole n x c = r.withRole .fan (some n) := by
  have hrole : x.roleOf c = .fan := by simp [Circuit.roleOf, h]
  rw [Record.takeRole, if_pos ((x.lists_iff c).2 (.inl h)), hrole]
  rfl

theorem Record.takeRole_bypass (h : x.bypass = some c) (hf : c ∉ x.fans) :
    r.takeRole n x c = r.withRole .bypass (some n) := by
  have hrole : x.roleOf c = .bypass := by simp [Circuit.roleOf, h, hf]
  rw [Record.takeRole, if_pos ((x.lists_iff c).2 (.inr (.inl h))), hrole]
  rfl

theorem Record.takeRole_pump (h : c ∈ x.pumps) (hf : c ∉ x.fans) (hb : x.bypass ≠ some c) :
    r.takeRole n x c = r.withRole .pump (some n) := by
  have hrole : x.roleOf c = .pump := by simp [Circuit.roleOf, h, hf, hb]
  rw [Record.takeRole, if_pos ((x.lists_iff c).2 (.inr (.inr h))), hrole]
  rfl

theorem Record.takeRole_dropped (h : ¬x.lists c = true) (hc : r.circuit = some n) :
    r.takeRole n x c = r.withRole .none none := by
  rw [Record.takeRole, if_neg h, if_pos hc]
  rfl

theorem Record.takeRole_other (h : ¬x.lists c = true) (hc : r.circuit ≠ some n) : r.takeRole n x c = r := by
  rw [Record.takeRole, if_neg h, if_neg hc]

end

/-- R14: a role leaves slots and winner. -/
theorem Record.takeRole_keeps (r : Record) (n : CircuitNo) (x : Circuit) (c : OutCh) :
    (r.takeRole n x c).slots = r.slots ∧ (r.takeRole n x c).winner = r.winner := by
  unfold Record.takeRole
  split
  · exact ⟨rfl, rfl⟩
  · split <;> exact ⟨rfl, rfl⟩

/-- R95: an outputs write replaces the lists of its circuit. -/
theorem State.setOutputs_circuits (s : State) (n : CircuitNo) (f : OutputFields) :
    (s.setOutputs n f).circuits = s.circuits.write n (s.withLists n f) := by
  simp only [State.setOutputs, State.withRecords_circuits]
  rfl

/-- R95: an outputs write is a change of records beside the lists. -/
theorem State.setOutputs_fix (s : State) (n : CircuitNo) (f : OutputFields) : s.setOutputs n f =
    State.withRecords { s with circuits := (s.setOutputs n f).circuits } fun c _ => (s.setOutputs n f).record c := by
  rw [State.setOutputs_circuits]
  exact State.withRecords_fix ..

theorem State.setOutputs_frame (s : State) (n : CircuitNo) (f : OutputFields) :
    (s.setOutputs n f).shu = s.shu ∧ (s.setOutputs n f).lbi = s.lbi ∧ (s.setOutputs n f).evu = s.evu ∧
      (s.setOutputs n f).pdir = s.pdir := by
  simp [State.setOutputs, State.setCircuit]

/-- Settles O38: the lists the words give pass the checks of R96 or are refused, and hand out their roles. -/
theorem circuitOutputsSetTheRoles : Obligations.CircuitOutputsSetTheRoles := by
  intro s seat r n he h hd fanBits pumpBits fan bypass pump count odd member other wrong
  have hrefused : s.outputsFields n r = none →
      exec (.configWriteCircuitOutputs seat) s = .next (s.answer seat r .badValue []) := fun hnone => by
    refine State.next_onWrite_refused h ?_
    simp only [State.circuitWrite_disabled he hd, hnone, Verdict.fields]
  have htaken : ∀ f, s.outputsFields n r = some f →
      exec (.configWriteCircuitOutputs seat) s = .next ((s.setOutputs n f).answer seat r .done []) := fun f hsome => by
    refine State.next_onWrite_accepted h ?_
    simp only [State.circuitWrite_disabled he hd, hsome, Verdict.fields]
  by_cases hw : r.payload.length < 6 ∨ 2 ^ 24 ≤ fanBits ∨ 24 ≤ (r.word 3).toNat ∧ (r.word 3).toNat ≠ 65535
  · have hwrong : wrong := by
      rcases hw with hw | hw | hw
      · exact .inl hw
      · exact .inr (.inl hw)
      · exact .inr (.inr (.inl hw))
    refine ⟨fun _ => hrefused ?_, fun hn => absurd hwrong hn⟩
    rw [State.outputsFields, outputWords_none hw]
    rfl
  · obtain ⟨hl, hfans, hword⟩ : _ ∧ _ ∧ _ := by simpa only [not_or] using hw
    obtain ⟨b, hbypass, hwords⟩ := outputWords_of_words hl hfans hword
    obtain ⟨f, hf⟩ : ∃ f : OutputFields,
        f = { fans := setMembers 32 fanBits, bypass := b, pumps := setMembers 32 pumpBits } := ⟨_, rfl⟩
    have hfan : ∀ c, c ∈ f.fans ↔ fan c := fun c => hf ▸ mem_setMembers
    have hby : ∀ c, f.bypass = some c ↔ bypass c := fun c => hf ▸ hbypass c
    have hpump : ∀ c, c ∈ f.pumps ↔ pump c := fun c => hf ▸ mem_setMembers
    have hfanNodup : f.fans.Nodup := hf ▸ setMembers_nodup 32 fanBits
    have hpumpNodup : f.pumps.Nodup := hf ▸ setMembers_nodup 32 pumpBits
    have hcounts : f.fans.length = count fanBits ∧ f.pumps.length = count pumpBits := hf ▸ ⟨rfl, rfl⟩
    have hallowed : s.outputsAllowed n f = true ↔ ¬wrong := by
      rw [State.outputsAllowed_iff s n hfanNodup hpumpNodup]
      simp only [wrong, hl, hfans, hword, false_or, not_or, not_lt, not_exists, hcounts.1, hcounts.2]
      refine and_congr Iff.rfl (and_congr Iff.rfl (and_congr ?_ (and_congr ?_ (and_congr ?_ (and_congr ?_ ?_)))))
      · simp only [hfan, Odu.member_iff, member, not_and, not_or, Bool.not_eq_false]
      · simp only [hby, Odu.oddMember_run_iff, odd, not_and]
      · simp only [hpump, Odu.member_iff, member, not_and]
      · simp only [OutputFields.twice, hfan, hby, hpump, not_or]
      · simp only [OutputFields.mem_all, hfan, hby, hpump, State.otherCircuit_lists, other, not_and]
    have hfields : s.outputsFields n r = if wrong then none else some f := by
      rw [State.outputsFields, hwords, ← hf, Option.filter_some]
      by_cases hwrong : wrong
      · rw [if_pos hwrong, if_neg (fun e => hallowed.1 e hwrong)]
      · rw [if_neg hwrong, if_pos (hallowed.2 hwrong)]
    refine ⟨fun hwrong => hrefused (hfields.trans (if_pos hwrong)), fun hright => ?_⟩
    obtain ⟨-, -, -, -, -, hapart, -⟩ := (State.outputsAllowed_iff s n hfanNodup hpumpNodup).1 (hallowed.2 hright)
    have hlists : ∀ c, (s.withLists n f).lists c = true ↔ fan c ∨ bypass c ∨ pump c := fun c => by
      rw [Circuit.lists_iff, ← hfan, ← hby, ← hpump]
      rfl
    refine ⟨s.setOutputs n f, htaken f (hfields.trans (if_neg hright)), ⟨f.fans, f.bypass, f.pumps,
      State.setOutputs_circuits .., hfanNodup, hpumpNodup, fun c => ⟨hfan c, hby c, hpump c⟩⟩,
      State.setOutputs_fix .., fun c hc => ?_, State.setOutputs_frame ..⟩
    rw [State.setOutputs_record, if_neg (by simp [hc])]
    obtain ⟨hslots, hwinner⟩ := (s.record c).takeRole_keeps n (s.withLists n f) c
    refine ⟨hslots, hwinner, fun h => ?_, fun h => ?_, fun h => ?_, fun h => ⟨fun hn => ?_, fun hn => ?_⟩⟩
    · exact Record.takeRole_fan _ ((hfan c).2 h)
    · have h := (hby c).2 h
      exact Record.takeRole_bypass _ h fun e => hapart c (.inl ⟨e, h⟩)
    · have h := (hpump c).2 h
      exact Record.takeRole_pump _ h (fun e => hapart c (.inr (.inl ⟨e, h⟩))) fun e => hapart c (.inr (.inr ⟨e, h⟩))
    · exact Record.takeRole_dropped _ (fun e => h ((hlists c).1 e)) hn
    · exact Record.takeRole_other _ (fun e => h ((hlists c).1 e)) hn

end Sys2Proof.Machine
end

section
/-! SUPPORT. Floating pairs formed and dissolved: the run a pair starts with, and the pins it leaves behind. -/

namespace Sys2Proof.Machine

/-! ### Channels of a pair -/

theorem evenCh_ne_oddCh (k k' : PairNo) : evenCh k ≠ oddCh k' := by
  simp only [evenCh, oddCh, ne_eq, Fin.ext_iff]
  omega

theorem ofPair_iff {k : PairNo} {c : OutCh} : ofPair k c = true ↔ c = evenCh k ∨ c = oddCh k := by
  simp [ofPair]

theorem ofPair_discCh (k : PairNo) (d : DiscCh) : ofPair k (discCh d) = false := by
  rw [← Bool.not_eq_true, ofPair_iff]
  simp only [discCh, evenCh, oddCh, Fin.ext_iff]
  omega

theorem ofPair_evenCh {k k' : PairNo} : ofPair k (evenCh k') = true ↔ k' = k := by
  rw [ofPair_iff]
  simp only [evenCh, oddCh, Fin.ext_iff]
  omega

theorem ofPair_modCh {k : PairNo} {m : ModCh} : ofPair k (modCh m) = true ↔ pairOfMod m = k := by
  rw [ofPair_iff]
  simp only [modCh, evenCh, oddCh, pairOfMod, Fin.ext_iff]
  omega

theorem Odu.oddMember_evenCh (o : Odu) (k : PairNo) : o.oddMember (evenCh k) = false := by
  rw [← Bool.not_eq_true, Odu.oddMember_iff]
  rintro ⟨k', _, e⟩
  exact evenCh_ne_oddCh k k' e

/-- R119: the fields of a pair's write in range. -/
theorem pairFields_of_words {r : Request} {formed : Bool} (hl : 5 ≤ r.payload.length)
    (hf : r.word 1 = if formed = true then 1#16 else 0#16) (h2 : 10 ≤ (r.word 2).toNat) (h2' : (r.word 2).toNat ≤ 600)
    (h3 : 1 ≤ (r.word 3).toNat) (h3' : (r.word 3).toNat ≤ 50) (h4 : 100 ≤ (r.word 4).toNat)
    (h4' : (r.word 4).toNat ≤ 10000) (h10 : (r.word 4).toNat % 10 = 0) : pairFields r = some
      { formed := formed, stroke := (r.word 2).toNat, deadband := (r.word 3).toNat, deadTime := (r.word 4).toNat } := by
  have hm : mark? (r.word 1) = some formed := by
    rw [hf]
    cases formed <;> rfl
  simp only [pairFields, Request.has_of_le hl, if_true, Request.field, Option.bind_eq_bind, hm,
    inRange?_of_le h2 h2', inRange?_of_le h3 h3', inRange?_of_le h4 h4', Option.bind_some, if_pos h10]

/-! ### Forming -/

theorem State.listed_iff (s : State) (c : OutCh) : s.listed c = true ↔ ∃ n, (s.circuit n).lists c = true := by
  simp [State.listed, List.any_eq_true, List.mem_finRange]

/-- R17: of a pair that is not formed, live demands alone hold a forming back, where a channel drives. -/
theorem State.formHeld_iff {s : State} {k : PairNo} (h : (s.odu.pairs.read k).run = none) : s.formHeld k = true ↔
    ¬(s.shutOff (evenCh k) = true ∧ s.shutOff (oddCh k) = true) ∧
      ((∃ q, (s.record (evenCh k)).slot q ≠ none) ∨ ∃ q, (s.record (oddCh k)).slot q ≠ none) := by
  have hm : s.moveInFlight (evenCh k) = false := by
    rw [← Bool.not_eq_true, State.moveInFlight_iff]
    rintro ⟨k', p, hk, hp, -⟩
    rw [ofPair_evenCh.1 (ofPair_iff.2 hk), hp] at h
    cases h
  simp only [State.formHeld, hm, Bool.or_false, Bool.and_eq_true, Bool.not_eq_true', Bool.or_eq_true, Record.live_iff,
    ← Bool.not_eq_true]

/-- R120, R140: what every pair just formed has, whichever way it starts. -/
theorem formedRun_fields (q : Pair) (target : Nat) (off : Bool) (a : PairAction) :
    let p := formedRun q target off a
    p.target = target ∧ p.estimate = 0 ∧ p.unsynced = true ∧ p.deadLeft = none ∧ p.lastReleased = none := by
  unfold formedRun
  cases off with
  | false =>
    simp only [Bool.false_eq_true, if_false, PairRun.judge]
    split
    · exact ⟨rfl, rfl, rfl, rfl, rfl⟩
    · exact ⟨rfl, rfl, rfl, rfl, rfl⟩
  | true =>
    cases a with
    | stop => exact ⟨rfl, rfl, rfl, rfl, rfl⟩
    | drive d => exact ⟨rfl, rfl, rfl, rfl, rfl⟩

/-- R120: a pair formed to drive is IDLE within the deadband and else SYNCING. -/
theorem formedRun_drives (q : Pair) (target : Nat) (a : PairAction) :
    (formedRun q target false a).state = (if target ≤ q.deadband then .idle else .syncing) ∧
      ((formedRun q target false a).state = .syncing → (formedRun q target false a).left = 110 * q.stroke) := by
  have hoff : max target 0 - min target 0 = target := by omega
  simp only [formedRun, Bool.false_eq_true, if_false, PairRun.judge, PairRun.formed, hoff]
  split
  · exact ⟨rfl, fun h => by cases h⟩
  · exact ⟨rfl, fun _ => Nat.mul_comm ..⟩

/-- R140: a pair formed of a channel that is shut off takes its safe action, UNSYNCED as it is. -/
theorem formedRun_safe (q : Pair) (target : Nat) (a : PairAction) :
    (a = .stop → (formedRun q target true a).state = .safeRest) ∧
      ∀ d, a = .drive d →
        (formedRun q target true a).state = .safeDriving d ∧ (formedRun q target true a).left = 110 * q.stroke := by
  refine ⟨?_, ?_⟩
  · rintro rfl
    rfl
  · rintro d rfl
    exact ⟨rfl, Nat.mul_comm ..⟩

/-- R120, R140: what the forming of a pair leaves, with a run that its settings give. -/
theorem State.formPair_formed (s : State) (k : PairNo) (f : PairFields) :
    let t := s.formPair k f
    let p := formedRun (Pair.withFields f none) (s.record (evenCh k)).effective
      (s.shutOff (evenCh k) || s.shutOff (oddCh k)) (s.shutoff (evenCh k)).pair
    t.odu = { s.odu with pairs := s.odu.pairs.write k (Pair.withFields f (some p)) } ∧
      p.target = (s.record (evenCh k)).effective ∧ p.estimate = 0 ∧ p.unsynced = true ∧ p.deadLeft = none ∧
      p.lastReleased = none ∧
      (∀ seat', (t.record (oddCh k)).slot seat' = none) ∧ (∀ c, c ≠ oddCh k → t.record c = s.record c) ∧
      t.record (oddCh k) = { s.record (oddCh k) with slots := (t.record (oddCh k)).slots, winner := none } ∧
      t.evu = s.evu ∧ t.lbi = s.lbi ∧ t = { s with
        odu := t.odu, cmdt := { s.cmdt with records := t.cmdt.records }
        shu := { s.shu with records := t.shu.records } } := by
  intro t p
  obtain ⟨htarget, hestimate, hunsynced, hdead, hlast⟩ := formedRun_fields (Pair.withFields f none)
    (s.record (evenCh k)).effective (s.shutOff (evenCh k) || s.shutOff (oddCh k)) (s.shutoff (evenCh k)).pair
  refine ⟨rfl, htarget, hestimate, hunsynced, hdead, hlast, fun q => ?_, fun c hc => ?_, ?_, rfl, rfl, rfl⟩
  · rw [State.formPair_record, if_pos rfl]
    exact Record.remove_slot (s.record (oddCh k)) (fun _ => true) q
  · rw [State.formPair_record, if_neg hc]
  · rw [State.formPair_record, if_pos rfl]
    rfl

/-- R140: the latches a forming leaves: the even channel's as either was, the odd one's at DRIVING. -/
theorem State.formPair_shutoff (s : State) (k : PairNo) (f : PairFields) (c : OutCh) : (s.formPair k f).shutoff c =
    if c = evenCh k then { s.shutoff c with latched := s.shutOff (evenCh k) || s.shutOff (oddCh k) }
    else if c = oddCh k then { s.shutoff c with latched := false } else s.shutoff c := by
  simp only [State.formPair, State.shutoff, Bank.read_fill]

/-- R140: a forming of two channels that drive leaves every latch. -/
theorem State.formPair_shu {s : State} {k : PairNo} (f : PairFields) (he : s.shutOff (evenCh k) = false)
    (ho : s.shutOff (oddCh k) = false) : (s.formPair k f).shu = s.shu := by
  have hrecords : (s.formPair k f).shu.records = s.shu.records := Bank.ext_read fun c => by
    have h := s.formPair_shutoff k f c
    simp only [State.shutOff] at he ho
    rw [State.shutOff, State.shutOff, he, ho] at h
    refine h.trans ?_
    split
    · next hc => rw [hc, Bool.or_false, ← he]; rfl
    · split
      · next hc => rw [hc, ← ho]; rfl
      · rfl
  have hframe : (s.formPair k f).shu = { s.shu with records := (s.formPair k f).shu.records } := rfl
  rw [hframe, hrecords]

/-- R140: a forming with a channel shut off latches the even channel, and leaves the odd one at DRIVING. -/
theorem State.formPair_latched {s : State} {k : PairNo} (f : PairFields)
    (h : s.shutOff (evenCh k) = true ∨ s.shutOff (oddCh k) = true) (c : OutCh) :
    ((s.formPair k f).shutOff c = true ↔ c = evenCh k ∨ c ≠ oddCh k ∧ s.shutOff c = true) ∧
      (s.formPair k f).shutoff c = { s.shutoff c with latched := (s.formPair k f).shutOff c } := by
  have hoff : (s.shutOff (evenCh k) || s.shutOff (oddCh k)) = true := by rwa [Bool.or_eq_true]
  rw [State.shutOff, State.formPair_shutoff, hoff]
  by_cases he : c = evenCh k
  · simp [he]
  · by_cases ho : c = oddCh k
    · simp [ho, (evenCh_ne_oddCh k k).symm]
    · simp [he, ho, State.shutOff]

/-! ### Dissolving -/

/-- R121, R137: the outputs `o` are those of `s` after pair `k` has parted, the channels of it that `struck` names having
gone to their line safe actions from the inactive level. -/
def State.partedOutputs (s : State) (k : PairNo) (f : PairFields) (o : Odu) (struck : OutCh → Prop) : Prop :=
  o.pairs = s.odu.pairs.write k (Pair.withFields f none) ∧ o.discretes = s.odu.discretes ∧
    (∀ g, ∃ n, o.groups.read g = { s.odu.groups.read g with counter := n }) ∧
    (∀ m, ofPair k (modCh m) = false → o.mods.read m = s.odu.mods.read m) ∧
    ∀ m, ofPair k (modCh m) = true → ∃ l,
      o.mods.read m = { s.odu.mods.read m with
        held := ((s.partPair k f).record (modCh m)).effective
        activePolarity := (s.odu.mods.read m).polarity, forced := some l } ∧
      (¬struck (modCh m) → l = levelAt (s.odu.mods.read m).polarity false) ∧
      (struck (modCh m) → l = (s.shutoff (modCh m)).line.pinLevel (levelAt (s.odu.mods.read m).polarity false))

theorem State.partPair_mods (s : State) (k : PairNo) (f : PairFields) (m : ModCh) : (s.partPair k f).odu.mods.read m =
    if ofPair k (modCh m) = true then
      (s.odu.mods.read m).leavePair ((s.partPair k f).record (modCh m)).effective
    else s.odu.mods.read m := by
  have e : (s.partPair k f).odu.mods.read m =
      if modCh m = evenCh k then (s.odu.mods.read m).leavePair (s.record (evenCh k)).effective
      else if modCh m = oddCh k then (s.odu.mods.read m).leavePair (s.record (oddCh k)).resume.effective
      else s.odu.mods.read m := by simp only [State.partPair, Bank.read_fill]
  rw [e, State.partPair_record]
  by_cases he : modCh m = evenCh k
  · rw [if_pos he, if_pos (ofPair_iff.2 (.inl he)), he, if_neg (evenCh_ne_oddCh k k)]
  · by_cases ho : modCh m = oddCh k
    · rw [if_neg he, if_pos ho, if_pos (ofPair_iff.2 (.inr ho)), ho, if_pos rfl]
    · rw [if_neg he, if_neg ho, if_neg (fun h => (ofPair_iff.1 h).elim he ho)]

theorem State.partPair_pairs (s : State) (k : PairNo) (f : PairFields) :
    (s.partPair k f).odu.pairs = s.odu.pairs.write k (Pair.withFields f none) := by simp only [State.partPair]

theorem State.partPair_discretes (s : State) (k : PairNo) (f : PairFields) :
    (s.partPair k f).odu.discretes = s.odu.discretes := by simp only [State.partPair]

theorem State.partPair_groups (s : State) (k : PairNo) (f : PairFields) :
    (s.partPair k f).odu.groups = s.odu.groups := by simp only [State.partPair]

theorem State.partPair_shutoff (s : State) (k : PairNo) (f : PairFields) (c : OutCh) :
    (s.partPair k f).shutoff c = s.shutoff c := by simp only [State.partPair, State.shutoff]

theorem State.partPair_shutOff (s : State) (k : PairNo) (f : PairFields) (c : OutCh) :
    (s.partPair k f).shutOff c = s.shutOff c := by rw [State.shutOff, State.partPair_shutoff, State.shutOff]

/-- R121: a pair parted with no channel struck. -/
theorem State.partPair_outputs (s : State) (k : PairNo) (f : PairFields) {struck : OutCh → Prop}
    (h : ∀ c, ¬struck c) : s.partedOutputs k f (s.partPair k f).odu struck := by
  refine ⟨s.partPair_pairs k f, s.partPair_discretes k f, fun g => ⟨(s.odu.groups.read g).counter, ?_⟩, fun m hm => ?_,
    fun m hm => ⟨levelAt (s.odu.mods.read m).polarity false, ?_, fun _ => rfl, fun hs => absurd hs (h _)⟩⟩
  · rw [State.partPair_groups]
  · rw [State.partPair_mods, if_neg (by simp [hm])]
  · rw [State.partPair_mods, if_pos hm]
    rfl

/-- R137: an output held at a level is struck from that level. -/
theorem struckLevel_of_forced {x : Modulated} {l : Bool} (h : x.forced = some l) (a : LineAction) (place : Nat) :
    struckLevel x a place = a.pinLevel l := by
  unfold struckLevel
  rw [h]
  cases a <;> rfl

/-- R121, R137: a pair parted, and some of its channels struck. -/
theorem State.partPair_struck {s : State} {k : PairNo} {f : PairFields} {o : Odu} {struck : OutCh → Prop}
    (h : outputsStruck (s.partPair k f) o struck) (hpair : ∀ c, struck c → ofPair k c = true) :
    s.partedOutputs k f o struck := by
  obtain ⟨⟨place, hgroups, hmods⟩, hmods', hdiscretes, hpairs⟩ := h
  have hdisc : o.discretes = s.odu.discretes := by
    refine Bank.ext_read fun d => ((hdiscretes d).2 fun hd => ?_).trans (by rw [State.partPair_discretes])
    have := hpair _ hd
    rw [ofPair_discCh] at this
    cases this
  have hmember : ∀ m, ofPair k (modCh m) = true → (s.partPair k f).odu.member (modCh m) = false := by
    intro m hm
    rw [Odu.member_modCh, ofPair_modCh.1 hm, State.partPair_pairs]
    simp [Pair.isFormed, Pair.withFields]
  rw [State.partPair_groups] at hgroups
  refine ⟨Bank.ext_read fun k' => ((hpairs k').2 ?_).trans (by rw [State.partPair_pairs]), hdisc,
    fun g => ⟨_, (hgroups g).2⟩, fun m hm => ?_, fun m hm => ?_⟩
  · by_cases hk : k' = k
    · refine .inr ?_
      rw [hk, State.partPair_pairs]
      simp [Pair.withFields]
    · exact .inl fun hs => hk (ofPair_evenCh.1 (hpair _ hs))
  · rw [hmods' m (.inl fun hs => by rw [hpair _ hs] at hm; cases hm), State.partPair_mods, if_neg (by simp [hm])]
  · have hleft : (s.partPair k f).odu.mods.read m =
        (s.odu.mods.read m).leavePair ((s.partPair k f).record (modCh m)).effective := by
      rw [State.partPair_mods, if_pos hm]
    by_cases hs : struck (modCh m)
    · obtain ⟨hread, -⟩ := hmods m (groupOf m) rfl hs (hmember m hm)
      rw [hleft, State.partPair_shutoff] at hread
      exact ⟨_, hread, fun hn => absurd hs hn, fun _ => struckLevel_of_forced rfl _ _⟩
    · refine ⟨levelAt (s.odu.mods.read m).polarity false, ?_, fun _ => rfl, fun h => absurd h hs⟩
      rw [hmods' m (.inl hs), hleft]
      rfl

/-- R121: the pins of a parted pair's channels stand at the level each is held at. -/
theorem State.partedOutputs.pinLevel {s t : State} {k : PairNo} {f : PairFields} {struck : OutCh → Prop}
    (h : s.partedOutputs k f t.odu struck) {m : ModCh} (hm : ofPair k (modCh m) = true) :
    t.odu.mods.read m = { s.odu.mods.read m with
        held := ((s.partPair k f).record (modCh m)).effective
        activePolarity := (s.odu.mods.read m).polarity, forced := some (t.pinLevel m) } ∧
      (¬struck (modCh m) → t.pinLevel m = levelAt (s.odu.mods.read m).polarity false) ∧
      (struck (modCh m) →
        t.pinLevel m = (s.shutoff (modCh m)).line.pinLevel (levelAt (s.odu.mods.read m).polarity false)) := by
  obtain ⟨hpairs, -, -, -, hmods⟩ := h
  obtain ⟨l, hread, hfree, hstruck⟩ := hmods m hm
  have hmember : t.odu.member (modCh m) = false := by
    rw [Odu.member_modCh, ofPair_modCh.1 hm, hpairs]
    simp [Pair.isFormed, Pair.withFields]
  have hpin : t.pinLevel m = l := by
    rw [State.pinLevel_alone hmember, hread]
    rfl
  rw [hpin]
  exact ⟨hread, hfree, hstruck⟩

/-- R121, R140: pair `k` has parted, taking the part from `s` to `t`, whatever has been shut off of it. -/
def State.partedInto (s t : State) (k : PairNo) (f : PairFields) : Prop :=
  t.odu.pairs = s.odu.pairs.write k (Pair.withFields f none) ∧ t.odu.discretes = s.odu.discretes ∧
    (∀ m : ModCh, (modCh m = evenCh k ∨ modCh m = oddCh k) →
      (t.odu.mods.read m).held = (t.record (modCh m)).effective ∧
      t.odu.mods.read m = { s.odu.mods.read m with
        held := (t.record (modCh m)).effective, activePolarity := (s.odu.mods.read m).polarity
        forced := some (t.pinLevel m) }) ∧
    (∀ g, t.odu.groups.read g = { s.odu.groups.read g with counter := (t.odu.groups.read g).counter }) ∧
    t.record (oddCh k) = { s.record (oddCh k) with
      slots := (t.record (oddCh k)).slots, winner := none, effective := (t.record (oddCh k)).effective
      arbitrated := match (s.record (oddCh k)).fallbackMode, (s.record (oddCh k)).lastWon with
        | .holdLast, some v => v
        | .holdLast, none => (s.record (oddCh k)).fallbackValue
        | .fixed, _ => (s.record (oddCh k)).fallbackValue } ∧
    t = { s with
      odu := t.odu, cmdt := { s.cmdt with records := t.cmdt.records }
      shu := { s.shu with records := t.shu.records }, evu := t.evu, moment := t.moment } ∧
    (∀ m : ModCh, ¬(modCh m = evenCh k ∨ modCh m = oddCh k) → t.odu.mods.read m = s.odu.mods.read m) ∧
    (∀ seat', (t.record (oddCh k)).slot seat' = none) ∧ (t.record (oddCh k)).winner = none ∧
    (t.record (oddCh k)).effective = (t.record (oddCh k)).bound.apply (t.record (oddCh k)).limited ∧
    (∀ c, c ≠ oddCh k → t.record c = s.record c) ∧ t.lbi = s.lbi

/-- R1: a record that resumes has no slot and no winner, and its fallback's value. -/
theorem Record.resume_eq (r : Record) : r.resume = { r with
    slots := r.resume.slots, winner := none, effective := r.resume.effective
    arbitrated := match r.fallbackMode, r.lastWon with
      | .holdLast, some v => v
      | .holdLast, none => r.fallbackValue
      | .fixed, _ => r.fallbackValue } := by
  have h : r.resume = { r with
      slots := r.resume.slots, winner := none, effective := r.resume.effective, arbitrated := r.fallback } := rfl
  rw [Record.fallback_eq] at h
  exact h

/-- R121: what the parting leaves in the records and the outputs, shut off or not. -/
theorem State.partedInto_of_outputs {s t : State} {k : PairNo} {f : PairFields} {struck : OutCh → Prop}
    (ho : s.partedOutputs k f t.odu struck) (hc : t.cmdt = (s.partPair k f).cmdt)
    (ht : t = { s with
      odu := t.odu, cmdt := { s.cmdt with records := t.cmdt.records }
      shu := { s.shu with records := t.shu.records }, evu := t.evu, moment := t.moment }) : s.partedInto t k f := by
  have hrecord : ∀ c, t.record c = (s.partPair k f).record c := fun c => by rw [State.record, hc, State.record]
  have hodd : t.record (oddCh k) = (s.record (oddCh k)).resume := by rw [hrecord, State.partPair_record, if_pos rfl]
  have hpins := fun m (hm : ofPair k (modCh m) = true) => (ho.pinLevel (m := m) hm).1
  obtain ⟨hpairs, hdiscretes, hgroups, hmods, -⟩ := ho
  refine ⟨hpairs, hdiscretes, fun m hm => ?_, fun g => ?_, ?_, ht, fun m hm => hmods m ?_, fun q => ?_, ?_, ?_,
    fun c hne => ?_, ?_⟩
  · have h := hpins m (ofPair_iff.2 hm)
    rw [← hrecord] at h
    exact ⟨by rw [h], h⟩
  · obtain ⟨n, hn⟩ := hgroups g
    rw [hn]
  · rw [hodd]
    exact Record.resume_eq _
  · rw [← Bool.not_eq_true, ofPair_iff]
    exact hm
  · rw [hodd]
    exact Record.remove_slot (s.record (oddCh k)) (fun _ => true) q
  · rw [hodd]
    rfl
  · rw [hodd]
    rfl
  · rw [hrecord, State.partPair_record, if_neg hne]
  · rw [ht]

theorem State.partPair_heldCauses (s : State) (k : PairNo) (f : PairFields) (c : OutCh) (m : Mask) :
    (s.partPair k f).heldCauses c m = s.heldCauses c m := by
  have hcircuit : ((s.partPair k f).record c).circuit = (s.record c).circuit := by
    rw [State.partPair_record]
    split <;> rfl
  simp only [State.heldCauses, State.causeHolds, hcircuit]
  rfl

/-- R140: the channels of a dissolved pair that its dissolving shuts off: those whose own mask names a holding cause. -/
def State.caughtOf (s : State) (k : PairNo) (c : OutCh) : Prop :=
  (c = evenCh k ∨ c = oddCh k) ∧ (s.heldCauses c (s.shutoff c).mask).any = true

/-- R121, R140: a driving pair dissolved, each channel judged on its own mask. -/
theorem State.dissolvePair_driving {s : State} {k : PairNo} (f : PairFields) (he : s.shutOff (evenCh k) = false)
    (ho : s.shutOff (oddCh k) = false) :
    let t := s.dissolvePair k f
    s.partedInto t k f ∧ s.partedOutputs k f t.odu (s.caughtOf k) ∧
      (∀ c, (t.shutOff c = true ↔ s.shutOff c = true ∨ s.caughtOf k c) ∧
        t.shutoff c = { s.shutoff c with latched := t.shutOff c }) ∧
      ((∀ c, ¬s.caughtOf k c) → t.evu = s.evu) ∧ ((∃ c, s.caughtOf k c) → t.evu = s.evu.raiseAll .shutoff) := by
  obtain ⟨t, ht⟩ : ∃ t, t = s.dissolvePair k f := ⟨_, rfl⟩
  rw [← ht]
  have hdown : shutDown (s.partPair k f) t (s.caughtOf k) := by
    have h := State.shutOffWhere_shutDown (s.partPair k f)
      fun c => ofPair k c && ((s.partPair k f).heldCauses c ((s.partPair k f).shutoff c).mask).any
    have hstruck : (fun c => (ofPair k c && ((s.partPair k f).heldCauses c ((s.partPair k f).shutoff c).mask).any) = true ∧
        (s.partPair k f).shutOff c = false ∧ (s.partPair k f).odu.oddMember c = false) = s.caughtOf k := by
      funext c
      rw [Bool.and_eq_true, ofPair_iff, State.partPair_shutoff, State.partPair_heldCauses, eq_iff_iff]
      refine ⟨fun h => h.1, fun h => ⟨h, ?_, ?_⟩⟩
      · rcases h.1 with rfl | rfl
        · rw [State.partPair_shutOff, he]
        · rw [State.partPair_shutOff, ho]
      · rw [State.partPair_oddMember]
        rcases h.1 with rfl | rfl
        · rw [if_neg (evenCh_ne_oddCh k k), Odu.oddMember_evenCh]
        · rw [if_pos rfl]
    rw [hstruck] at h
    rw [ht, State.dissolvePair, he]
    exact h
  obtain ⟨hfree, hstruck⟩ := hdown
  by_cases hc : ∃ c, s.caughtOf k c
  · obtain ⟨houts, hlatch, hframe⟩ := hstruck hc
    have hparted := State.partPair_struck houts fun c h => ofPair_iff.2 h.1
    refine ⟨State.partedInto_of_outputs hparted (by rw [hframe]) ?_, hparted, fun c => ?_, fun h => absurd hc ?_,
      fun _ => by rw [hframe]; rfl⟩
    · rw [hframe]
      rfl
    · obtain ⟨hiff, hrest⟩ := hlatch c
      rw [State.partPair_shutoff] at hrest
      rw [State.partPair_shutOff] at hiff
      exact ⟨hiff, hrest⟩
    · rintro ⟨c, hcc⟩
      exact h c hcc
  · have hnone : ∀ c, ¬s.caughtOf k c := fun c h => hc ⟨c, h⟩
    have hparted : s.partedOutputs k f t.odu (s.caughtOf k) := by
      rw [hfree hnone]
      exact s.partPair_outputs k f hnone
    refine ⟨State.partedInto_of_outputs hparted (by rw [hfree hnone]) ?_, hparted, fun c => ?_, fun _ => ?_,
      fun h => absurd h hc⟩
    · rw [hfree hnone]
      rfl
    · have hsame : t.shutoff c = s.shutoff c := by rw [hfree hnone, State.partPair_shutoff]
      rw [State.shutOff, hsame]
      exact ⟨by simp [State.shutOff, hnone c], rfl⟩
    · rw [hfree hnone]
      rfl

/-- R121, R140: a shut-off pair dissolved, both channels shut off by their own line safe actions. -/
theorem State.dissolvePair_off {s : State} {k : PairNo} (f : PairFields) (he : s.shutOff (evenCh k) = true) :
    let t := s.dissolvePair k f
    s.partedInto t k f ∧ s.partedOutputs k f t.odu (fun c => c = evenCh k ∨ c = oddCh k) ∧
      (∀ c, (t.shutOff c = true ↔ s.shutOff c = true ∨ (c = evenCh k ∨ c = oddCh k)) ∧
        t.shutoff c = { s.shutoff c with latched := t.shutOff c }) ∧ t.evu = s.evu := by
  obtain ⟨t, ht⟩ : ∃ t, t = s.dissolvePair k f := ⟨_, rfl⟩
  rw [← ht]
  have houts : outputsStruck (s.partPair k f) t.odu fun c => c = evenCh k ∨ c = oddCh k := by
    have h := (s.partPair k f).forceOutputs_struck (ofPair k)
    simp only [ofPair_iff] at h
    rw [ht, State.dissolvePair, he]
    exact h
  have hparted := State.partPair_struck houts fun c h => ofPair_iff.2 h
  have hlatch : ∀ c, t.shutoff c = { s.shutoff c with latched := s.shutOff c || ofPair k c } := by
    intro c
    rw [ht, State.dissolvePair, he]
    simp only [if_true, State.shutoff, Bank.read_fill, State.forceOutputs_shu]
    rfl
  have hoff : ∀ c, t.shutOff c = (s.shutOff c || ofPair k c) := fun c => by rw [State.shutOff, hlatch]
  have hevu : t.evu = s.evu := by
    rw [ht, State.dissolvePair, he]
    simp only [if_true, State.forceOutputs_evu]
    rfl
  have hcmdt : t.cmdt = (s.partPair k f).cmdt := by
    rw [ht, State.dissolvePair, he]
    simp only [if_true, State.forceOutputs_cmdt]
  refine ⟨State.partedInto_of_outputs hparted hcmdt ?_, hparted, fun c => ⟨?_, ?_⟩, hevu⟩
  · rw [ht, State.dissolvePair, he]
    rfl
  · rw [hoff, Bool.or_eq_true, ofPair_iff]
  · rw [hlatch, hoff]

/-! ### The rows of a pair's write -/

/-- R159, R160: a raise in all four sets, flag by flag. -/
theorem State.flag_raiseAll {s t : State} {f : Flag} (h : t.evu = s.evu.raiseAll f) (q : Seat) (g : Flag) :
    t.flag q g = if g = f then .fresh else s.flag q g := by
  simp only [State.flag, h, Evu.raiseAll, Bank.read_fill, Bank.update, Bank.read_write]
  by_cases hg : g = f
  · subst hg
    simp [FlagState.raised]
  · have hbit : f.bit ≠ g.bit := fun e => hg (Flag.bit_injective e).symm
    simp [hg, hbit]

section
variable {s : State} {seat : Seat} {r : Request} {k : PairNo} {f : PairFields} (he : s.editor seat = true)
  (h : s.servesWrite seat (.pair k) r) (hf : pairFields r = some f)
include he h hf

/-- R119: an editor's write that leaves the formed mark. -/
theorem State.exec_configWritePair (hs : pairChange (s.odu.pairs.read k) r = .settings) :
    exec (.configWritePair seat) s = .next (s.conclude seat r
      (if s.settingsHeld (evenCh k) = true then .refused .inUse else .accepted (s.setPair k f))) := by
  refine congrArg Host.Outcome.next ((State.onPairWrite_of_servesWrite h hs _).trans ?_)
  simp only [State.asEditor_of_editor he, hf, Verdict.fields]

/-- R119, R120: an editor's write that sets the formed mark. -/
theorem State.exec_pairForm (hs : pairChange (s.odu.pairs.read k) r = .form) :
    exec (.pairForm seat) s = .next (s.conclude seat r
      (if (s.listed (evenCh k) || s.listed (oddCh k)) = true then .refused .badValue
        else if s.formHeld k = true then .refused .inUse else .accepted (s.formPair k f))) := by
  refine congrArg Host.Outcome.next ((State.onPairWrite_of_servesWrite h hs _).trans ?_)
  simp only [State.asEditor_of_editor he, hf, Verdict.fields]

/-- R119, R121: an editor's write that clears the formed mark. -/
theorem State.exec_pairDissolve (hs : pairChange (s.odu.pairs.read k) r = .dissolve) :
    exec (.pairDissolve seat) s = .next (s.conclude seat r
      (if s.settingsHeld (evenCh k) = true then .refused .inUse else .accepted (s.dissolvePair k f))) := by
  refine congrArg Host.Outcome.next ((State.onPairWrite_of_servesWrite h hs _).trans ?_)
  simp only [State.asEditor_of_editor he, hf, Verdict.fields]

end

/-- R16: a shut-off channel's settings are never held. -/
theorem State.settingsHeld_of_off {s : State} {c : OutCh} (h : s.shutOff c = true) : s.settingsHeld c = false := by
  simp [State.settingsHeld, h]

/-- Settles O34: the sort of the write picks its row; forming and dissolving leave what their own lemmas say. -/
theorem pairItemsFormAndPart : Obligations.PairItemsFormAndPart := by
  intro s seat r k he h hl h2 h2' h3 h3' h4 h4' h10 refused listed live bothOff q ofPair' settings formed parted latched
  have hfields : ∀ b, r.word 1 = (if b = true then 1#16 else 0#16) → pairFields r = some
      { formed := b, stroke := (r.word 2).toNat, deadband := (r.word 3).toNat, deadTime := (r.word 4).toNat } :=
    fun b hb => pairFields_of_words hl hb h2 h2' h3 h3' h4 h4' h10
  have hlistedIff : (s.listed (evenCh k) || s.listed (oddCh k)) = true ↔ listed := by
    simp only [Bool.or_eq_true, State.listed_iff, ← exists_or, listed]
  refine ⟨fun hw => ?settings, fun hw hq hlisted => ?listed, fun hw hq hlisted => ?form, fun hw hq => ?dissolve⟩
  case settings =>
    have hsort : pairChange (s.odu.pairs.read k) r = .settings := by
      refine pairChange_settings (fun hr e => ?_) fun hr e => ?_
      · rw [if_neg (by simp [q, Pair.isFormed_eq_false.2 hr]), e] at hw
        cases hw
      · rw [if_pos (Pair.isFormed_eq_true.2 hr), e] at hw
        cases hw
    rw [State.exec_configWritePair he h (hfields _ hw) hsort]
    refine ⟨fun hh => ?_, fun hh => ?_⟩
    · rw [if_pos hh]
      rfl
    · rw [if_neg (by simp [hh])]
      rfl
  case listed =>
    rw [State.exec_pairForm he h (hfields true hw) (pairChange_form (by omega) hq hw), if_pos (hlistedIff.2 hlisted)]
    rfl
  case form =>
    rw [State.exec_pairForm he h (hfields true hw) (pairChange_form (by omega) hq hw),
      if_neg fun e => hlisted (hlistedIff.1 e)]
    refine ⟨fun hoff hlive => ?_, fun heven hodd hle hlo => ?_, fun hoff hfree => ?_⟩
    · rw [if_pos ((State.formHeld_iff hq).2 ⟨hoff, hlive⟩)]
      rfl
    · have hheld : ¬s.formHeld k = true := fun e => ((State.formHeld_iff hq).1 e).2.elim hle hlo
      rw [if_neg hheld]
      obtain ⟨hstate, hleft⟩ := formedRun_drives
        (Pair.withFields ⟨true, (r.word 2).toNat, (r.word 3).toNat, (r.word 4).toNat⟩ none)
        (s.record (evenCh k)).effective (s.shutoff (evenCh k)).pair
      refine ⟨_, _, rfl, s.formPair_formed k _, ?_⟩
      rw [heven, hodd]
      exact ⟨hstate, hleft, s.formPair_shu _ heven hodd⟩
    · have hheld : ¬s.formHeld k = true := fun e => by
        obtain ⟨hboth, hlive⟩ := (State.formHeld_iff hq).1 e
        exact hfree.elim hboth fun hn => hlive.elim hn.1 hn.2
      rw [if_neg hheld]
      obtain ⟨hstop, hdrive⟩ := formedRun_safe
        (Pair.withFields ⟨true, (r.word 2).toNat, (r.word 3).toNat, (r.word 4).toNat⟩ none)
        (s.record (evenCh k)).effective (s.shutoff (evenCh k)).pair
      have hor : (s.shutOff (evenCh k) || s.shutOff (oddCh k)) = true := by rwa [Bool.or_eq_true]
      refine ⟨_, _, rfl, s.formPair_formed k _, ?_⟩
      rw [hor]
      exact ⟨hstop, hdrive, s.formPair_latched _ hoff⟩
  case dissolve =>
    have hsort := pairChange_dissolve (r := r) (by omega) (Pair.isFormed_eq_true.1 hq) hw
    rw [State.exec_pairDissolve he h (hfields false hw) hsort]
    refine ⟨fun hh => ?_, ?_, fun heven => ?_⟩
    · rw [if_pos hh]
      rfl
    · intro hh heven hodd caught
      rw [if_neg (by simp [hh])]
      obtain ⟨hparted, houts, hlatch, hnone, hsome⟩ := s.dissolvePair_driving
        ⟨false, (r.word 2).toNat, (r.word 3).toNat, (r.word 4).toNat⟩ heven hodd
      refine ⟨_, rfl, hparted, fun m hm hc => ?_, fun m hc => ?_, hlatch, hnone, fun hc => ⟨hsome hc, fun q => ?_⟩⟩
      · obtain ⟨-, hfree, -⟩ := houts.pinLevel (ofPair_iff.2 hm)
        exact hfree hc
      · obtain ⟨-, -, hstruck⟩ := houts.pinLevel (ofPair_iff.2 hc.1)
        exact hstruck hc
      · rw [State.flag_raiseAll (hsome hc), if_pos rfl]
    · rw [if_neg (by simp [State.settingsHeld_of_off heven])]
      obtain ⟨hparted, houts, hlatch, hevu⟩ := s.dissolvePair_off
        ⟨false, (r.word 2).toNat, (r.word 3).toNat, (r.word 4).toNat⟩ heven
      refine ⟨_, rfl, hparted, fun m hm => ?_, hlatch, hevu⟩
      obtain ⟨-, -, hstruck⟩ := houts.pinLevel (ofPair_iff.2 hm)
      exact hstruck hm

end Sys2Proof.Machine
end

section
/-! SUPPORT. A warm restart: what the evaluations of the circuits, one after another, hand on, and what each block
keeps. -/

namespace Sys2Proof.Machine

/-! ### Causes and shutting off -/

theorem State.heldCauses_any (s : State) (c : OutCh) (m : Mask) :
    (s.heldCauses c m).any = true ↔ ∃ cause, m.names cause = true ∧ s.causeHolds c cause = true := by
  simp only [Mask.any, State.heldCauses, Bool.or_eq_true, Bool.and_eq_true]
  constructor
  · rintro ((h | h) | h)
    · exact ⟨.frostTrip, h⟩
    · exact ⟨.orphan, h⟩
    · exact ⟨.emergency, h⟩
  · rintro ⟨cause, h⟩
    cases cause with
    | frostTrip => exact .inl (.inl h)
    | orphan => exact .inl (.inr h)
    | emergency => exact .inr h

/-- A shutting off leaves each shutoff record but for its latch. -/
theorem State.shutOffWhere_shutoff (s : State) (p : OutCh → Bool) (c : OutCh) :
    (s.shutOffWhere p).shutoff c = { s.shutoff c with latched := (s.shutOffWhere p).shutOff c } := by
  obtain ⟨hnone, hsome⟩ := s.shutOffWhere_shutDown p
  by_cases h : ∃ c, p c = true ∧ s.shutOff c = false ∧ s.odu.oddMember c = false
  · obtain ⟨-, hlatch, -⟩ := hsome h
    exact (hlatch c).2
  · rw [hnone fun c hc => h ⟨c, hc⟩]
    rfl

theorem State.shutOffWhere_emergencyIn (s : State) (p : OutCh → Bool) :
    (s.shutOffWhere p).shu.emergencyIn = s.shu.emergencyIn := by
  obtain ⟨hnone, hsome⟩ := s.shutOffWhere_shutDown p
  by_cases h : ∃ c, p c = true ∧ s.shutOff c = false ∧ s.odu.oddMember c = false
  · obtain ⟨-, -, hframe⟩ := hsome h
    rw [hframe]
  · rw [hnone fun c hc => h ⟨c, hc⟩]

/-- Masks and enables are no flags: what a raise leaves. -/
def Evu.SameMasks (e e' : Evu) : Prop := e'.masks = e.masks ∧ e'.attention = e.attention

/-- R136: a shutting off raises SHUTOFF where a latch changes, and nothing else. -/
theorem State.shutOffWhere_flags (s : State) (p : OutCh → Bool) :
    s.evu.SameMasks (s.shutOffWhere p).evu ∧ ∀ q f,
      ((f = .shutoff ∧ ∃ c, (s.shutOffWhere p).shutOff c ≠ s.shutOff c) → (s.shutOffWhere p).flag q f = .fresh) ∧
      (¬(f = .shutoff ∧ ∃ c, (s.shutOffWhere p).shutOff c ≠ s.shutOff c) →
        (s.shutOffWhere p).flag q f = s.flag q f) := by
  obtain ⟨hnone, hsome⟩ := s.shutOffWhere_shutDown p
  by_cases h : ∃ c, p c = true ∧ s.shutOff c = false ∧ s.odu.oddMember c = false
  · obtain ⟨-, hlatch, hframe⟩ := hsome h
    have hevu : (s.shutOffWhere p).evu = s.evu.raiseAll .shutoff := by rw [hframe]
    have hchanged : ∃ c, (s.shutOffWhere p).shutOff c ≠ s.shutOff c := by
      obtain ⟨c, hc⟩ := h
      refine ⟨c, ?_⟩
      rw [(hlatch c).1.2 (.inr hc), hc.2.1]
      decide
    refine ⟨by rw [hevu]; exact ⟨rfl, rfl⟩, fun q f => ?_⟩
    rw [State.flag_raiseAll hevu]
    simp only [hchanged, and_true]
    exact ⟨fun hf => if_pos hf, fun hf => if_neg hf⟩
  · rw [hnone fun c hc => h ⟨c, hc⟩]
    exact ⟨⟨rfl, rfl⟩, fun q f => ⟨fun hf => absurd rfl hf.2.choose_spec, fun _ => rfl⟩⟩

/-! ### A circuit changed -/

/-- R108: the flags that go with a change from `s` to `t`: of a stage that changed, and SHUTOFF where a latch did. -/
def State.raisedBy (s t : State) (f : Flag) : Prop :=
  (∃ n, f = .stage n ∧ (t.circuit n).stage ≠ (s.circuit n).stage) ∨ f = .shutoff ∧ ∃ c, t.shutOff c ≠ s.shutOff c

/-- From `s` to `t` exactly the flags that go with the change have been raised. -/
def State.flagsFollow (s t : State) : Prop :=
  s.evu.SameMasks t.evu ∧ ∀ q f, (s.raisedBy t f → t.flag q f = .fresh) ∧ (¬s.raisedBy t f → t.flag q f = s.flag q f)

/-- R109: a change of a circuit begins its frost trip. -/
def Circuit.tripBegins (was now : Circuit) : Bool := !was.stage.frostTrip && now.stage.frostTrip

/-- The channels that a change of circuit `n` to `now` shuts off. -/
def State.tripCatches (s : State) (n : CircuitNo) (now : Circuit) (c : OutCh) : Bool :=
  (s.circuit n).tripBegins now && ((s.record c).circuit == some n && (s.shutoff c).mask.frostTrip)

/-- R108 to R110: a changed circuit is a flag raised, channels shut off, and bounds handed over. -/
theorem State.changeCircuit_shu_evu (s : State) (n : CircuitNo) (now : Circuit) :
    let raised := State.raiseIf { s with circuits := s.circuits.write n now } ((s.circuit n).stage != now.stage) (.stage n)
    (s.changeCircuit n now).shu = (raised.shutOffWhere (s.tripCatches n now)).shu ∧
      (s.changeCircuit n now).evu = (raised.shutOffWhere (s.tripCatches n now)).evu := by
  intro raised
  have hrecord : ∀ c, raised.record c = s.record c := fun c => by simp only [raised, State.record, State.raiseIf_cmdt]
  have hshutoff : ∀ c, raised.shutoff c = s.shutoff c := fun c => by simp only [raised, State.shutoff, State.raiseIf_shu]
  have hmid : (if (s.circuit n).tripBegins now = true then
      raised.causeBegins .frostTrip fun c => (raised.record c).circuit == some n else raised) =
      raised.shutOffWhere (s.tripCatches n now) := by
    split
    · next h =>
      rw [State.causeBegins]
      congr 1
      funext c
      simp only [State.tripCatches, h, hrecord, hshutoff, Bool.true_and]
      rfl
    · next h =>
      refine (((raised.shutOffWhere_shutDown _).1 fun c hc => ?_)).symm
      have hc' : s.tripCatches n now c = true := hc.1
      simp only [State.tripCatches, Bool.and_eq_true] at hc'
      exact h hc'.1
  rw [← hmid]
  exact ⟨State.handBounds_shu .., State.handBounds_evu ..⟩

/-- The flag of a circuit's stage raised, the circuit changed. -/
def State.stageRaised (s : State) (n : CircuitNo) (now : Circuit) : State :=
  State.raiseIf { s with circuits := s.circuits.write n now } ((s.circuit n).stage != now.stage) (.stage n)

theorem State.stageRaised_shutoff (s : State) (n : CircuitNo) (now : Circuit) (c : OutCh) :
    (s.stageRaised n now).shutoff c = s.shutoff c := by simp only [State.stageRaised, State.shutoff, State.raiseIf_shu]

theorem State.stageRaised_shutOff (s : State) (n : CircuitNo) (now : Circuit) (c : OutCh) :
    (s.stageRaised n now).shutOff c = s.shutOff c := by rw [State.shutOff, State.stageRaised_shutoff, State.shutOff]

theorem State.stageRaised_flags (s : State) (n : CircuitNo) (now : Circuit) :
    s.evu.SameMasks (s.stageRaised n now).evu ∧ ∀ q f, (s.stageRaised n now).flag q f =
      if now.stage ≠ (s.circuit n).stage ∧ f = .stage n then .fresh else s.flag q f := by
  unfold State.stageRaised State.raiseIf
  by_cases h : (s.circuit n).stage = now.stage
  · rw [if_neg (by simp [h])]
    exact ⟨⟨rfl, rfl⟩, fun q f => by rw [if_neg (by simp [h])]; rfl⟩
  · rw [if_pos (by simp [h])]
    refine ⟨⟨rfl, rfl⟩, fun q f => ?_⟩
    rw [State.flag_raiseAll (s := { s with circuits := s.circuits.write n now }) rfl]
    simp only [ne_eq, Ne.symm h, not_false_eq_true, true_and]
    rfl

theorem State.changeCircuit_shutOff (s : State) (n : CircuitNo) (now : Circuit) (c : OutCh) :
    (s.changeCircuit n now).shutOff c = (s.shutOff c || (s.tripCatches n now c && !s.odu.oddMember c)) := by
  have hodd : (s.stageRaised n now).odu.oddMember c = s.odu.oddMember c := by
    simp only [State.stageRaised, State.raiseIf_odu]
  obtain ⟨hshu, -⟩ := s.changeCircuit_shu_evu n now
  rw [← State.stageRaised] at hshu
  rw [State.shutOff, State.shutoff, hshu, ← State.shutoff, ← State.shutOff, State.shutOffWhere_shutOff,
    State.stageRaised_shutOff, hodd]

theorem State.changeCircuit_shutoff (s : State) (n : CircuitNo) (now : Circuit) (c : OutCh) :
    (s.changeCircuit n now).shutoff c = { s.shutoff c with latched := (s.changeCircuit n now).shutOff c } := by
  obtain ⟨hshu, -⟩ := s.changeCircuit_shu_evu n now
  rw [← State.stageRaised] at hshu
  rw [State.shutOff, State.shutoff, hshu, ← State.shutoff, ← State.shutOff, State.shutOffWhere_shutoff,
    State.stageRaised_shutoff]

theorem State.changeCircuit_emergencyIn (s : State) (n : CircuitNo) (now : Circuit) :
    (s.changeCircuit n now).shu.emergencyIn = s.shu.emergencyIn := by
  obtain ⟨hshu, -⟩ := s.changeCircuit_shu_evu n now
  rw [hshu, State.shutOffWhere_emergencyIn, State.raiseIf_shu]

/-- R108, R109: the flags that a changed circuit raises are those that go with what it changes. -/
theorem State.changeCircuit_flags (s : State) (n : CircuitNo) (now : Circuit) : s.flagsFollow (s.changeCircuit n now) := by
  obtain ⟨hshu, hevu⟩ := s.changeCircuit_shu_evu n now
  rw [← State.stageRaised] at hshu hevu
  obtain ⟨⟨hmask1, hatt1⟩, hstage⟩ := s.stageRaised_flags n now
  obtain ⟨⟨hmask2, hatt2⟩, hoff⟩ := (s.stageRaised n now).shutOffWhere_flags (s.tripCatches n now)
  have hshutOff : ∀ c, ((s.stageRaised n now).shutOffWhere (s.tripCatches n now)).shutOff c =
      (s.changeCircuit n now).shutOff c := fun c => by
    rw [State.shutOff, State.shutoff, ← hshu, ← State.shutoff, ← State.shutOff]
  have hflag : ∀ q f, (s.changeCircuit n now).flag q f =
      ((s.stageRaised n now).shutOffWhere (s.tripCatches n now)).flag q f := fun q f => by
    rw [State.flag, hevu, ← State.flag]
  simp only [hshutOff, State.stageRaised_shutOff, ← hflag, hstage] at hoff
  have hraised : ∀ f, s.raisedBy (s.changeCircuit n now) f ↔
      (now.stage ≠ (s.circuit n).stage ∧ f = .stage n) ∨
        f = .shutoff ∧ ∃ c, (s.changeCircuit n now).shutOff c ≠ s.shutOff c := by
    intro f
    refine or_congr ⟨?_, ?_⟩ Iff.rfl
    · rintro ⟨m, rfl, hm⟩
      rw [State.changeCircuit_circuit] at hm
      split at hm
      · next h => exact ⟨h ▸ hm, h ▸ rfl⟩
      · exact absurd rfl hm
    · rintro ⟨hm, rfl⟩
      exact ⟨n, rfl, by rwa [State.changeCircuit_circuit, if_pos rfl]⟩
  refine ⟨by rw [hevu]; exact ⟨hmask2.trans hmask1, hatt2.trans hatt1⟩, fun q f => ?_⟩
  obtain ⟨hfresh, hsame⟩ := hoff q f
  rw [hraised]
  refine ⟨fun h => ?_, fun h => ?_⟩
  · by_cases ho : f = .shutoff ∧ ∃ c, (s.changeCircuit n now).shutOff c ≠ s.shutOff c
    · exact hfresh ho
    · rw [hsame ho, if_pos (h.resolve_right ho)]
  · rw [hsame fun ho => h (.inr ho), if_neg fun hs => h (.inl hs)]

/-! ### Changes one after another -/

/-- A record differs in its bound and its effective command alone. -/
def Record.SameButBound (r r' : Record) : Prop := r' = { r with bound := r'.bound, effective := r'.effective }

theorem Record.SameButBound.trans {r r' r'' : Record} (h : r.SameButBound r') (h' : r'.SameButBound r'') :
    r.SameButBound r'' := by
  unfold Record.SameButBound at h h' ⊢
  rw [h] at h'
  exact h'

/-- What two changes raise together, where no stage changes in both and latches only close. -/
theorem State.raisedBy_trans {b x y : State}
    (hstage : ∀ n, (x.circuit n).stage = (b.circuit n).stage ∨ (y.circuit n).stage = (x.circuit n).stage)
    (hoff : ∀ c, b.shutOff c = true → x.shutOff c = true) (hoff' : ∀ c, x.shutOff c = true → y.shutOff c = true)
    (f : Flag) : b.raisedBy y f ↔ b.raisedBy x f ∨ x.raisedBy y f := by
  have hlatch : ∀ c, y.shutOff c ≠ b.shutOff c ↔ x.shutOff c ≠ b.shutOff c ∨ y.shutOff c ≠ x.shutOff c := by
    intro c
    have h1 := hoff c
    have h2 := hoff' c
    revert h1 h2
    cases b.shutOff c <;> cases x.shutOff c <;> cases y.shutOff c <;> simp
  have hstages : ∀ n, (y.circuit n).stage ≠ (b.circuit n).stage ↔
      (x.circuit n).stage ≠ (b.circuit n).stage ∨ (y.circuit n).stage ≠ (x.circuit n).stage := by
    intro n
    rcases hstage n with e | e
    · rw [e]
      simp
    · rw [e]
      simp
  simp only [State.raisedBy, hlatch, hstages, and_or_left, exists_or]
  exact or_or_or_comm

theorem State.flagsFollow.trans {b x y : State} (hbx : b.flagsFollow x) (hxy : x.flagsFollow y)
    (hstage : ∀ n, (x.circuit n).stage = (b.circuit n).stage ∨ (y.circuit n).stage = (x.circuit n).stage)
    (hoff : ∀ c, b.shutOff c = true → x.shutOff c = true) (hoff' : ∀ c, x.shutOff c = true → y.shutOff c = true) :
    b.flagsFollow y := by
  obtain ⟨⟨hmask, hatt⟩, hflag⟩ := hbx
  obtain ⟨⟨hmask', hatt'⟩, hflag'⟩ := hxy
  refine ⟨⟨hmask'.trans hmask, hatt'.trans hatt⟩, fun q f => ?_⟩
  obtain ⟨hfresh, hsame⟩ := hflag q f
  obtain ⟨hfresh', hsame'⟩ := hflag' q f
  rw [State.raisedBy_trans hstage hoff hoff']
  refine ⟨fun h => ?_, fun h => ?_⟩
  · by_cases h' : x.raisedBy y f
    · exact hfresh' h'
    · rw [hsame' h', hfresh (h.resolve_right h')]
  · rw [hsame' fun h' => h (.inr h'), hsame fun h' => h (.inl h')]

/-! ### Circuits evaluated one after another -/

/-- R99: what becomes of a circuit that is evaluated, a DISABLED one staying. -/
def Circuit.reevaluated (results : Bank SensorResult 24) (c : Circuit) : Circuit :=
  if c.enabled = true then c.evaluate results false else c

/-- R108 to R110: from `b` to `x` the circuits of `done` have been evaluated, each once, with all that they hand on. -/
structure State.Evaluated (b x : State) (done : List CircuitNo) : Prop where
  oddMember : ∀ c, x.odu.oddMember c = b.odu.oddMember c
  smu : x.smu = b.smu
  emergencyIn : x.shu.emergencyIn = b.shu.emergencyIn
  circuit : ∀ n, x.circuit n = if n ∈ done then (b.circuit n).reevaluated b.smu.results else b.circuit n
  record : ∀ c, (b.record c).SameButBound (x.record c)
  free : ∀ c, (b.record c).circuit = none → (x.record c).bound = (b.record c).bound
  bound : ∀ c n, b.odu.oddMember c = false → (b.record c).circuit = some n → (x.record c).bound =
    if (b.circuit n).bounds.forRole (b.record c).role c = (x.circuit n).bounds.forRole (b.record c).role c then
      (b.record c).bound
    else (x.circuit n).bounds.forRole (b.record c).role c
  shutoff : ∀ c, x.shutoff c = { b.shutoff c with latched := x.shutOff c }
  kept : ∀ c, b.shutOff c = true → x.shutOff c = true
  caught : ∀ c, x.shutOff c = true → b.shutOff c = true ∨ b.odu.oddMember c = false ∧
    (b.shutoff c).mask.frostTrip = true ∧
      ∃ n ∈ done, (b.record c).circuit = some n ∧ (x.circuit n).stage.frostTrip = true
  flags : b.flagsFollow x

theorem State.Evaluated.refl (b : State) : b.Evaluated b [] where
  oddMember _ := rfl
  smu := rfl
  emergencyIn := rfl
  circuit _ := rfl
  record _ := rfl
  free _ _ := rfl
  bound _ _ _ _ := (if_pos rfl).symm
  shutoff _ := rfl
  kept _ h := h
  caught _ h := .inl h
  flags := by
    refine ⟨⟨rfl, rfl⟩, fun q f => ⟨fun h => ?_, fun _ => rfl⟩⟩
    rcases h with ⟨n, -, h⟩ | ⟨-, c, h⟩
    · exact absurd rfl h
    · exact absurd rfl h

/-- An evaluation leaves roles and circuits of records. -/
theorem State.Evaluated.record_fields {b x : State} {done : List CircuitNo} (h : b.Evaluated x done) (c : OutCh) :
    (x.record c).circuit = (b.record c).circuit ∧ (x.record c).role = (b.record c).role := by
  rw [h.record c]
  exact ⟨rfl, rfl⟩

section
variable {b x : State} {done : List CircuitNo} {m : CircuitNo} (h : b.Evaluated x done) (hm : m ∉ done)
include h hm

theorem State.Evaluated.circuit_of_not_mem : x.circuit m = b.circuit m := by rw [h.circuit, if_neg hm]

/-- A DISABLED circuit counts as evaluated. -/
theorem State.Evaluated.skip (hd : (b.circuit m).enabled = false) : b.Evaluated x (m :: done) :=
  { h with
    circuit := fun n => by
      rw [h.circuit]
      by_cases hn : n = m
      · subst hn
        rw [if_neg hm, if_pos List.mem_cons_self, Circuit.reevaluated, if_neg (by simp [hd])]
      · simp [hn]
    caught := fun c hc => (h.caught c hc).imp_right fun ⟨ho, hmask, n, hn, hcirc⟩ =>
      ⟨ho, hmask, n, List.mem_cons_of_mem _ hn, hcirc⟩ }

/-- An enabled circuit that is evaluated next. -/
theorem State.Evaluated.change (he : (b.circuit m).enabled = true) :
    b.Evaluated (x.changeCircuit m ((b.circuit m).evaluate b.smu.results false)) (m :: done) := by
  have hmb := h.circuit_of_not_mem hm
  obtain ⟨now, hnow⟩ : ∃ now, now = (b.circuit m).evaluate b.smu.results false := ⟨_, rfl⟩
  rw [← hnow]
  have hcircuit : ∀ n, n ≠ m → (x.changeCircuit m now).circuit n = x.circuit n := fun n hn => by
    rw [x.changeCircuit_circuit, if_neg (Ne.symm hn)]
  have hcircuitM : (x.changeCircuit m now).circuit m = now := by rw [x.changeCircuit_circuit, if_pos rfl]
  have hfields := h.record_fields
  have hrecord : ∀ c, (x.changeCircuit m now).record c =
      if b.odu.oddMember c = false ∧ (b.record c).circuit = some m ∧
          (b.circuit m).bounds.forRole (b.record c).role c ≠ now.bounds.forRole (b.record c).role c then
        Record.settle { x.record c with bound := now.bounds.forRole (b.record c).role c }
      else x.record c := fun c => by
    rw [x.changeCircuit_record, h.oddMember, (hfields c).1, (hfields c).2, hmb]
  have hother : ∀ c, (b.record c).circuit ≠ some m → (x.changeCircuit m now).record c = x.record c := fun c hc => by
    rw [hrecord, if_neg fun e => hc e.2.1]
  exact
    { oddMember := fun c => by rw [x.changeCircuit_oddMember, h.oddMember]
      smu := by rw [x.changeCircuit_smu, h.smu]
      emergencyIn := by rw [x.changeCircuit_emergencyIn, h.emergencyIn]
      circuit := fun n => by
        by_cases hn : n = m
        · rw [hn, hcircuitM, if_pos List.mem_cons_self, Circuit.reevaluated, if_pos he, hnow]
        · rw [hcircuit n hn, h.circuit]
          simp [hn]
      record := fun c => (h.record c).trans (by
        rw [Record.SameButBound, hrecord]
        split <;> rfl)
      free := fun c hc => by rw [hother c (by simp [hc]), h.free c hc]
      bound := fun c n ho hn => by
        by_cases hnm : n = m
        · subst hnm
          have hb := h.bound c n ho hn
          rw [hmb, if_pos rfl] at hb
          rw [hrecord, hcircuitM]
          by_cases hf : (b.circuit n).bounds.forRole (b.record c).role c = now.bounds.forRole (b.record c).role c
          · rw [if_neg fun e => e.2.2 hf, if_pos hf, hb]
          · rw [if_pos ⟨ho, hn, hf⟩, if_neg hf]
            rfl
        · rw [hother c (by rw [hn]; exact fun e => hnm (Option.some.inj e)), hcircuit n hnm, h.bound c n ho hn]
      shutoff := fun c => by rw [x.changeCircuit_shutoff, h.shutoff]
      kept := fun c hc => by rw [x.changeCircuit_shutOff, h.kept c hc, Bool.true_or]
      caught := fun c hc => by
        rw [x.changeCircuit_shutOff, Bool.or_eq_true] at hc
        rcases hc with hc | hc
        · refine (h.caught c hc).imp_right fun ⟨ho, hmask, n, hn, hcirc, htrip⟩ =>
            ⟨ho, hmask, n, List.mem_cons_of_mem _ hn, hcirc, ?_⟩
          rwa [hcircuit n fun e => hm (e ▸ hn)]
        · simp only [State.tripCatches, Circuit.tripBegins, Bool.and_eq_true, Bool.not_eq_true', beq_iff_eq,
            h.oddMember, (hfields c).1, h.shutoff] at hc
          obtain ⟨⟨⟨-, htrip⟩, hcirc, hmask⟩, ho⟩ := hc
          exact .inr ⟨ho, hmask, m, List.mem_cons_self, hcirc, by rwa [hcircuitM]⟩
      flags := by
        refine h.flags.trans (x.changeCircuit_flags m now) (fun n => ?_) h.kept fun c hc => ?_
        · by_cases hn : n = m
          · exact .inl (by rw [hn, hmb])
          · exact .inr (by rw [hcircuit n hn])
        · rw [x.changeCircuit_shutOff, hc, Bool.true_or] }

/-- R99: one more circuit evaluated. -/
theorem State.Evaluated.evaluate : b.Evaluated (x.evaluate m) (m :: done) := by
  rw [State.evaluate, h.circuit_of_not_mem hm, h.smu]
  split
  · next he => exact h.change hm he
  · next he => exact h.skip hm (by simpa using he)

end

/-- R115: every circuit evaluated, each once. -/
theorem State.evaluateAll_evaluated (b : State) : b.Evaluated b.evaluateAll [3, 2, 1, 0] := by
  have h0 := (State.Evaluated.refl b).evaluate (m := 0) (by decide)
  have h1 := h0.evaluate (m := 1) (by decide)
  have h2 := h1.evaluate (m := 2) (by decide)
  exact h2.evaluate (m := 3) (by decide)

end Sys2Proof.Machine
end

section
/-! SUPPORT. A warm restart, block by block. -/

namespace Sys2Proof.Machine

/-! ### A pass of the scan -/

theorem Smu.firstEnabled_eq_some (m : Smu) (c : SensorCh) :
    m.firstEnabled m.rangeStart.val m.rangeEnd.val = some c ↔ m.lowestEnabled 0 c := by
  rw [Smu.firstEnabled, find?_finRange_eq_some]
  simp only [Smu.lowestEnabled, Bool.and_eq_true, decide_eq_true_eq, ← Bool.not_eq_true, Nat.zero_le, true_and,
    Fin.le_def, not_and]
  exact ⟨fun ⟨⟨h, he⟩, hmin⟩ => ⟨h, he, fun d hd hlt => hmin d hlt hd⟩, fun ⟨h, he, hmin⟩ =>
    ⟨⟨h, he⟩, fun d hlt hd => hmin d hd hlt⟩⟩

theorem Smu.firstEnabled_eq_none {m : Smu} (h : m.noneEnabled 0) :
    m.firstEnabled m.rangeStart.val m.rangeEnd.val = none := by
  refine List.find?_eq_none.2 fun c _ => ?_
  simp only [Bool.and_eq_true, decide_eq_true_eq, not_and, Bool.not_eq_true]
  exact fun hr => h c (Nat.zero_le _) hr.1 hr.2

/-- R78: the start of a pass is the one that the range and the enables give. -/
theorem Smu.startPass_begun (m : Smu) (mode : ScanMode) : m.passBegun (m.startPass mode) mode := by
  refine ⟨fun c hc => ?_, fun hn => ?_⟩
  · simp only [Smu.startPass, (m.firstEnabled_eq_some c).2 hc]
    rfl
  · simp only [Smu.startPass, Smu.firstEnabled_eq_none hn]
    cases mode <;> rfl

theorem Smu.startPass_keeps (m : Smu) (mode : ScanMode) :
    (m.startPass mode).results = m.results ∧ (m.startPass mode).settings = m.settings := by
  unfold Smu.startPass
  split
  · exact ⟨rfl, rfl⟩
  · cases mode <;> exact ⟨rfl, rfl⟩

theorem Smu.restart_stopped {m : Smu} (h : m.running = none) : m.restart = { m with conversion := none } := by
  simp only [Smu.restart, h]

theorem Smu.restart_running {m : Smu} {mode : ScanMode} (h : m.running = some mode) : m.restart = m.startPass mode := by
  simp only [Smu.restart, h]

/-- R84: what a restart leaves of the measurement. -/
theorem Smu.restart_keeps (m : Smu) : m.restart.results = m.results ∧ m.restart.settings = m.settings := by
  cases h : m.running with
  | none => rw [Smu.restart_stopped h]; exact ⟨rfl, rfl⟩
  | some mode => rw [Smu.restart_running h]; exact m.startPass_keeps mode

/-! ### The directory and the links -/

/-- R46: a restart completes a mark write begun, and changes no other word. -/
theorem Pdir.restart_memory (p : Pdir) :
    ((∀ w addr word next, p.walk = some w → w.step ≠ .mark addr word next) → p.restart.memory = p.memory) ∧
      ∀ w addr word next, p.walk = some w → w.step = .mark addr word next → memWf p.memory = true →
        ∀ a, memRead p.restart.memory a = if a = addr.toNat then word else memRead p.memory a := by
  refine ⟨fun h => ?_, fun w addr word next hw hs hwf a => ?_⟩
  · unfold Pdir.restart
    dsimp only
    split
    · next w hw =>
      split
      · next addr word next hs => exact absurd hs (h w addr word next hw)
      · rfl
      · rfl
      · rfl
      · rfl
    · rfl
  · have hm : p.restart.memory = memWrite p.memory addr.toNat word := by
      unfold Pdir.restart
      rw [hw]
      dsimp only
      rw [hs]
    rw [hm]
    by_cases ha : a = addr.toNat
    · rw [if_pos ha, ha]
      exact memRead_memWrite_same _ 0 _ _ hwf
    · rw [if_neg ha]
      exact memRead_memWrite_ne _ _ _ _ (Ne.symm ha)

/-- R165: a restart leaves RESTART alone raised. -/
theorem State.restartBlocks_flag (s : State) (q : Seat) (f : Flag) :
    s.restartBlocks.flag q f = if f = .restart then .fresh else .clear := by
  have h := State.flag_raiseAll (s := { s with evu := { s.evu with flags := Bank.fill fun _ => Bank.fill fun _ => .clear } })
    (t := s.restartBlocks) (f := .restart) (by simp only [State.restartBlocks, Evu.restarted]) q f
  rw [h]
  simp only [State.flag, Bank.read_fill]

/-- R115: a running timer restarts from its full time. -/
theorem Circuit.restartTimers_eq (c : Circuit) : c.restartTimers = { c with
    graceLeft := c.graceLeft.map fun _ => 100 * c.flowGrace
    dwellLeft := c.dwellLeft.map fun _ => 100 * c.tripDwell } := by
  simp only [Circuit.restartTimers, Nat.mul_comm]

/-! ### The restart as a whole -/

theorem State.evaluate_ranks (s : State) (n : CircuitNo) : (s.evaluate n).cmdt.ranks = s.cmdt.ranks := by
  unfold State.evaluate
  split
  · exact State.changeCircuit_ranks ..
  · rfl

theorem State.evaluateAll_eq (s : State) : s.evaluateAll = (((s.evaluate 0).evaluate 1).evaluate 2).evaluate 3 := rfl

/-- The state that a restart leaves before it judges what is to be shut off. -/
def State.restartSettled (s : State) : State := s.restartBlocks.evaluateAll.settleAll

/-- R143: the channels that a restart judges to be shut off: those whose mask names a holding cause. -/
def State.heldAfter (s : State) (c : OutCh) : Bool :=
  (s.restartSettled.heldCauses c (s.restartSettled.shutoff c).mask).any

theorem State.warmRestart_eq (s : State) : s.warmRestart = s.restartSettled.shutOffWhere s.heldAfter := rfl

theorem State.restartBlocks_frame (s : State) : s.restartBlocks.lbi = s.lbi.restart ∧
    s.restartBlocks.pdir = s.pdir.restart ∧ s.restartBlocks.pcache = s.pcache ∧
    s.restartBlocks.smu = s.smu.restart ∧ s.restartBlocks.piu = s.piu ∧ s.restartBlocks.odu = s.odu ∧
    s.restartBlocks.shu = s.shu ∧ s.restartBlocks.cmdt.ranks = s.cmdt.ranks := by
  simp only [State.restartBlocks, and_self]

/-- What a restart takes from its blocks alone. -/
theorem State.warmRestart_frame (s : State) : s.warmRestart.lbi = s.lbi.restart ∧ s.warmRestart.pdir = s.pdir.restart ∧
    s.warmRestart.pcache = s.pcache ∧ s.warmRestart.smu = s.smu.restart ∧ s.warmRestart.piu = s.piu ∧
    s.warmRestart.cmdt.ranks = s.cmdt.ranks := by
  obtain ⟨hlbi, hpdir, hpcache, hsmu, hpiu, -, -, hranks⟩ := s.restartBlocks_frame
  rw [State.warmRestart_eq, State.restartSettled, State.settleAll, State.evaluateAll_eq]
  simp [hlbi, hpdir, hpcache, hsmu, hpiu, hranks, State.evaluate_ranks]

theorem State.restartBlocks_evaluated (s : State) :
    s.restartBlocks.Evaluated s.restartBlocks.evaluateAll [3, 2, 1, 0] := s.restartBlocks.evaluateAll_evaluated

theorem State.restartSettled_circuit (s : State) (n : CircuitNo) :
    s.restartSettled.circuit n = s.restartBlocks.evaluateAll.circuit n := by
  simp [State.restartSettled, State.settleAll, State.circuit]

theorem State.warmRestart_circuit (s : State) (n : CircuitNo) :
    s.warmRestart.circuit n = s.restartBlocks.evaluateAll.circuit n := by
  rw [← State.restartSettled_circuit, State.warmRestart_eq]
  simp [State.circuit]

theorem State.warmRestart_record (s : State) (c : OutCh) : s.warmRestart.record c = s.restartSettled.record c := by
  rw [State.warmRestart_eq]
  simp only [State.record, State.shutOffWhere_cmdt]

theorem State.restartSettled_oddMember (s : State) (c : OutCh) :
    s.restartSettled.odu.oddMember c = s.odu.oddMember c := by
  rw [State.restartSettled, State.settleAll_oddMember, s.restartBlocks_evaluated.oddMember, State.restartBlocks_oddMember]

theorem State.restartSettled_record {s : State} {c : OutCh} (h : s.odu.oddMember c = false) :
    s.restartSettled.record c = (s.restartBlocks.evaluateAll.record c).settle := by
  rw [State.restartSettled, State.settleAll_record, s.restartBlocks_evaluated.oddMember, State.restartBlocks_oddMember,
    if_neg (by simp [h])]

theorem State.restartSettled_shutoff (s : State) (c : OutCh) :
    s.restartSettled.shutoff c = s.restartBlocks.evaluateAll.shutoff c := by
  simp only [State.restartSettled, State.settleAll, State.shutoff, State.withRecords_shu]

theorem State.restartSettled_shutOff (s : State) (c : OutCh) :
    s.restartSettled.shutOff c = s.restartBlocks.evaluateAll.shutOff c := by
  rw [State.shutOff, State.restartSettled_shutoff, State.shutOff]

/-- R99, R115: each circuit after a restart, its running timers started again and, where it is enabled, evaluated. -/
theorem State.warmRestart_circuit_eq (s : State) (n : CircuitNo) : s.warmRestart.circuit n =
    if (s.circuit n).stage = .disabled then (s.circuit n).restartTimers
    else (s.circuit n).restartTimers.evaluate s.smu.results false := by
  have hmem : n ∈ ([3, 2, 1, 0] : List CircuitNo) := by revert n; decide
  have hres : s.restartBlocks.smu.results = s.smu.results := s.smu.restart_keeps.1
  have hstage : (s.circuit n).restartTimers.stage = (s.circuit n).stage := rfl
  rw [State.warmRestart_circuit, s.restartBlocks_evaluated.circuit, if_pos hmem, State.restartBlocks_circuit, hres,
    Circuit.reevaluated, Circuit.enabled, hstage]
  by_cases h : (s.circuit n).stage = .disabled <;> simp [h]

/-- R20: a record's settings, role and circuit, which a restart keeps. -/
theorem State.warmRestart_record_eq {s : State} {c : OutCh} (h : s.odu.oddMember c = false) : s.warmRestart.record c =
    Record.settle { (s.record c).clearDemands with bound := (s.warmRestart.record c).bound } := by
  have hb : s.restartBlocks.record c = (s.record c).clearDemands := by
    rw [State.restartBlocks_record, if_neg (by simp [h])]
  have he := s.restartBlocks_evaluated.record c
  rw [hb] at he
  rw [State.warmRestart_record, State.restartSettled_record h]
  generalize s.restartBlocks.evaluateAll.record c = x at he
  rw [Record.SameButBound] at he
  rw [he]
  rfl

theorem Record.settle_bound (r : Record) : r.settle.bound = r.bound := rfl

theorem Record.settle_circuit (r : Record) : r.settle.circuit = r.circuit := rfl

/-- R108: the bound that a restart's evaluations leave a record: its circuit's, where that changed for its role. -/
theorem State.warmRestart_bound {s : State} {c : OutCh} (h : s.odu.oddMember c = false) :
    ((s.record c).circuit = none → (s.warmRestart.record c).bound = (s.record c).bound) ∧
      ∀ n, (s.record c).circuit = some n → (s.warmRestart.record c).bound =
        if boundFor (s.circuit n).bounds (s.record c).role c = boundFor (s.warmRestart.circuit n).bounds (s.record c).role c
        then (s.record c).bound
        else boundFor (s.warmRestart.circuit n).bounds (s.record c).role c := by
  have hb : s.restartBlocks.record c = (s.record c).clearDemands := by
    rw [State.restartBlocks_record, if_neg (by simp [h])]
  have hcircuit : (s.restartBlocks.record c).circuit = (s.record c).circuit := by rw [hb]; rfl
  have hrole : (s.restartBlocks.record c).role = (s.record c).role := by rw [hb]; rfl
  have hbound : (s.restartBlocks.record c).bound = (s.record c).bound := by rw [hb]; rfl
  have hbounds : ∀ n, (s.restartBlocks.circuit n).bounds = (s.circuit n).bounds := fun n => by
    rw [State.restartBlocks_circuit]
    rfl
  have hnow : (s.warmRestart.record c).bound = (s.restartBlocks.evaluateAll.record c).bound := by
    rw [State.warmRestart_record, State.restartSettled_record h, Record.settle_bound]
  have he := s.restartBlocks_evaluated
  have ho : s.restartBlocks.odu.oddMember c = false := by rw [State.restartBlocks_oddMember, h]
  rw [hnow, ← hbound]
  refine ⟨fun hn => he.free c (hcircuit.trans hn), fun n hn => ?_⟩
  rw [he.bound c n ho (hcircuit.trans hn), hrole, hbounds, State.warmRestart_circuit, Bounds.forRole_eq,
    Bounds.forRole_eq]

theorem State.warmRestart_emergencyIn (s : State) : s.warmRestart.shu.emergencyIn = s.shu.emergencyIn := by
  obtain ⟨-, -, -, -, -, -, hshu, -⟩ := s.restartBlocks_frame
  have hsettled : s.restartSettled.shu = s.restartBlocks.evaluateAll.shu := by
    simp only [State.restartSettled, State.settleAll, State.withRecords_shu]
  rw [State.warmRestart_eq, State.shutOffWhere_emergencyIn, hsettled, s.restartBlocks_evaluated.emergencyIn, hshu]

/-- R135: the causes that hold after a restart are those its shutting off is judged by. -/
theorem State.warmRestart_causeHolds (s : State) (c : OutCh) (cause : Cause) :
    s.warmRestart.causeHolds c cause = s.restartSettled.causeHolds c cause := by
  have hin : s.warmRestart.shu.emergencyIn = s.restartSettled.shu.emergencyIn := by
    rw [State.warmRestart_eq, State.shutOffWhere_emergencyIn]
  have hlbi : s.warmRestart.lbi = s.restartSettled.lbi := by
    rw [State.warmRestart_eq, State.shutOffWhere_lbi]
  cases cause with
  | frostTrip => simp only [State.causeHolds, State.warmRestart_record, State.warmRestart_circuit,
      State.restartSettled_circuit]
  | orphan => simp only [State.causeHolds, hlbi]
  | emergency => simp only [State.causeHolds, hin]

/-- A restart leaves each shutoff record but for its latch. -/
theorem State.warmRestart_shutoff (s : State) (c : OutCh) :
    s.warmRestart.shutoff c = { s.shutoff c with latched := s.warmRestart.shutOff c } := by
  have hb : s.restartBlocks.shutoff c = s.shutoff c := by simp only [State.restartBlocks, State.shutoff]
  rw [State.warmRestart_eq, State.shutOffWhere_shutoff, State.restartSettled_shutoff,
    s.restartBlocks_evaluated.shutoff, hb]

theorem State.restartBlocks_shutOff (s : State) (c : OutCh) : s.restartBlocks.shutOff c = s.shutOff c := by
  simp only [State.restartBlocks, State.shutOff, State.shutoff]

/-- R143: the mask and the latch by which a restart judges a channel. -/
theorem State.restartSettled_mask (s : State) (c : OutCh) : (s.restartSettled.shutoff c).mask = (s.shutoff c).mask := by
  have hb : s.restartBlocks.shutoff c = s.shutoff c := by simp only [State.restartBlocks, State.shutoff]
  rw [State.restartSettled_shutoff, s.restartBlocks_evaluated.shutoff, hb]

/-- R109, R143: after a restart a channel is shut off where it was, or where its mask names a cause that holds. -/
theorem State.warmRestart_shutOff_iff (s : State) (c : OutCh) : s.warmRestart.shutOff c = true ↔ s.shutOff c = true ∨
    s.odu.oddMember c = false ∧ ∃ cause, (s.shutoff c).mask.names cause = true ∧
      s.warmRestart.causeHolds c cause = true := by
  have he := s.restartBlocks_evaluated
  simp only [State.warmRestart_causeHolds]
  rw [State.warmRestart_eq, State.shutOffWhere_shutOff, Bool.or_eq_true, Bool.and_eq_true,
    State.heldAfter, State.heldCauses_any, State.restartSettled_mask, State.restartSettled_shutOff,
    State.restartSettled_oddMember, Bool.not_eq_true']
  constructor
  · rintro (h | ⟨hcause, ho⟩)
    · refine (he.caught c h).imp (fun hb => ?_) fun ⟨ho, hmask, n, _, hcirc, htrip⟩ => ?_
      · rwa [State.restartBlocks_shutOff] at hb
      · rw [State.restartBlocks_oddMember] at ho
        refine ⟨ho, .frostTrip, ?_, ?_⟩
        · have hb : s.restartBlocks.shutoff c = s.shutoff c := by simp only [State.restartBlocks, State.shutoff]
          rw [hb] at hmask
          exact hmask
        · have hrec : (s.restartSettled.record c).circuit = some n := by
            rw [State.restartSettled_record ho, Record.settle_circuit, (he.record_fields c).1, hcirc]
          simp only [State.causeHolds, hrec, State.restartSettled_circuit, htrip]
    · exact .inr ⟨ho, hcause⟩
  · rintro (h | ⟨ho, hcause⟩)
    · exact .inl (he.kept c (by rwa [State.restartBlocks_shutOff]))
    · exact .inr ⟨hcause, ho⟩

/-- R108, R136, R165: the flags that go with what a restart changes, after the blocks' own. -/
theorem State.warmRestart_flags (s : State) : s.restartBlocks.flagsFollow s.warmRestart := by
  have he := s.restartBlocks_evaluated
  have hsettled : s.restartSettled.evu = s.restartBlocks.evaluateAll.evu := by
    simp only [State.restartSettled, State.settleAll, State.withRecords_evu]
  have hstep := s.restartSettled.shutOffWhere_flags s.heldAfter
  rw [← State.warmRestart_eq, hsettled] at hstep
  obtain ⟨hmasks, hflag⟩ := hstep
  have hlast : s.restartBlocks.evaluateAll.flagsFollow s.warmRestart := by
    refine ⟨hmasks, fun q f => ?_⟩
    have hraised : s.restartBlocks.evaluateAll.raisedBy s.warmRestart f ↔
        f = .shutoff ∧ ∃ c, s.warmRestart.shutOff c ≠ s.restartSettled.shutOff c := by
      simp only [State.raisedBy, State.warmRestart_circuit, State.restartSettled_shutOff, ne_eq, not_true_eq_false,
        and_false, exists_false, false_or]
    rw [hraised]
    have hsame : s.restartSettled.flag q f = s.restartBlocks.evaluateAll.flag q f := by
      rw [State.flag, hsettled, ← State.flag]
    rw [← hsame]
    exact hflag q f
  refine he.flags.trans hlast (fun n => .inr (by rw [State.warmRestart_circuit])) he.kept fun c hc => ?_
  rw [State.warmRestart_eq, State.shutOffWhere_shutOff, State.restartSettled_shutOff, hc,
    Bool.true_or]

/-- R108, R136, R165: every flag after a restart. -/
theorem State.warmRestart_flag (s : State) (q : Seat) (f : Flag) :
    let raised := f = .restart ∨ (∃ n, f = .stage n ∧ (s.warmRestart.circuit n).stage ≠ (s.circuit n).stage) ∨
      f = .shutoff ∧ ∃ c, s.warmRestart.shutOff c ≠ s.shutOff c
    (raised → s.warmRestart.flag q f = .fresh) ∧ (¬raised → s.warmRestart.flag q f = .clear) := by
  intro raised
  obtain ⟨-, hflag⟩ := s.warmRestart_flags
  obtain ⟨hfresh, hsame⟩ := hflag q f
  rw [State.restartBlocks_flag] at hsame
  have hstage : ∀ n, (s.restartBlocks.circuit n).stage = (s.circuit n).stage := fun n => by
    rw [State.restartBlocks_circuit]
    rfl
  have hraised : raised ↔ f = .restart ∨ s.restartBlocks.raisedBy s.warmRestart f := by
    simp only [raised, State.raisedBy, hstage, State.restartBlocks_shutOff]
  rw [hraised]
  refine ⟨fun h => ?_, fun h => ?_⟩
  · by_cases hr : s.restartBlocks.raisedBy s.warmRestart f
    · exact hfresh hr
    · rw [hsame hr, if_pos (h.resolve_right hr)]
  · rw [hsame fun hr => h (.inr hr), if_neg fun hr => h (.inl hr)]

/-- R143: the shutting off that ends a restart. -/
theorem State.warmRestart_shutDown (s : State) : shutDown s.restartSettled s.warmRestart fun c =>
    s.restartSettled.shutOff c = false ∧ s.restartSettled.odu.oddMember c = false ∧
      ∃ cause, (s.restartSettled.shutoff c).mask.names cause = true ∧ s.restartSettled.causeHolds c cause = true := by
  have h := s.restartSettled.shutOffWhere_shutDown s.heldAfter
  have hstruck : (fun c => s.heldAfter c = true ∧ s.restartSettled.shutOff c = false ∧
      s.restartSettled.odu.oddMember c = false) = fun c => s.restartSettled.shutOff c = false ∧
        s.restartSettled.odu.oddMember c = false ∧
        ∃ cause, (s.restartSettled.shutoff c).mask.names cause = true ∧ s.restartSettled.causeHolds c cause = true := by
    funext c
    rw [State.heldAfter, State.heldCauses_any, eq_iff_iff]
    exact ⟨fun ⟨h1, h2, h3⟩ => ⟨h2, h3, h1⟩, fun ⟨h1, h2, h3⟩ => ⟨h3, h1, h2⟩⟩
  rw [hstruck] at h
  exact h

/-- R20: a record cleared of its demands. -/
theorem Record.clearDemands_eq (r : Record) : r.clearDemands = { r with
    slots := Bank.fill fun _ => none
    winner := none
    arbitrated := match r.fallbackMode, r.lastWon with
      | .holdLast, some v => v
      | .holdLast, none => r.fallbackValue
      | .fixed, _ => r.fallbackValue } := by
  have h : r.clearDemands = { r with slots := Bank.fill fun _ => none, winner := none, arbitrated := r.fallback } := by
    simp only [Record.clearDemands, Record.remove, if_true]
  rw [Record.fallback_eq] at h
  exact h

/-- R20: what a record is made of that a restart has settled under a bound. -/
theorem Record.restarted_fields {r x : Record} (h : x = Record.settle { r.clearDemands with bound := x.bound }) :
    (∀ q, x.slot q = none) ∧ x.winner = none ∧ x.lastWon = r.lastWon ∧ x.staticMin = r.staticMin ∧
      x.staticMax = r.staticMax ∧ x.defaultHold = r.defaultHold ∧ x.fallbackMode = r.fallbackMode ∧
      x.fallbackValue = r.fallbackValue ∧ x.role = r.role ∧ x.circuit = r.circuit ∧ x.arbitrated = r.fallback ∧
      x.effective = x.bound.apply x.limited := by
  generalize x.bound = b at h
  subst h
  exact ⟨r.clearDemands_slot, rfl, rfl, rfl, rfl, rfl, rfl, rfl, rfl, rfl, rfl, rfl⟩

/-- R157: the links after a restart. -/
theorem Lbi.restart_links (l : Lbi) (q : Seat) : l.restart.lines.read q = [] ∧ l.restart.service.read q = none ∧
    l.restart.arbiter.waiting.read q = false := by
  simp only [Lbi.restart, Arbiter.powerOn, Bank.read_fill, and_self]

/-- Settles O13: the restart is its blocks, the evaluations, the settling and the shutting off, each by its own lemma. -/
theorem warmRestartDiscardsAndKeeps : Obligations.WarmRestartDiscardsAndKeeps := by
  intro s
  obtain ⟨hlbi, hpdir, hpcache, hsmu, hpiu, hranks⟩ := s.warmRestart_frame
  obtain ⟨hmemory, hmark⟩ := s.pdir.restart_memory
  obtain ⟨hresults, hsettings⟩ := s.smu.restart_keeps
  obtain ⟨⟨hmasks, hattention⟩, -⟩ := s.warmRestart_flags
  refine ⟨s.warmRestart, rfl, fun hdue => ?take, fun c hc => ?record, hranks, fun q => ?links, ?last, ?chosen, ?bus,
    ?port, ?due, ?roster, ?faults, ?orphan, ?station, ?rate, ?isOpen, ?walk, ?roots, ?side, ?lastSeat, hpcache, ?kept,
    ?mark, ?stopped, ?pass, ?results, ?settings, hpiu, fun n => ?circuits, ?shutDown, ?emergencyIn,
    fun c => ⟨s.warmRestart_shutoff c, s.warmRestart_shutOff_iff c⟩, fun q f => s.warmRestart_flag q f, hmasks,
    hattention, s.warmRestart_pending⟩
  case take =>
    show execRestartTake s = _
    rw [execRestartTake, hdue, Bool.true_or, if_pos rfl]
  case record =>
    obtain ⟨hslots, hwinner, hwon, hmin, hmax, hhold, hmode, hvalue, hrole, hcircuit, harbitrated, heffective⟩ :=
      Record.restarted_fields (State.warmRestart_record_eq hc)
    obtain ⟨hfree, hbound⟩ := State.warmRestart_bound hc
    exact ⟨hslots, hwinner, hwon, hmin, hmax, hhold, hmode, hvalue, hrole, hcircuit,
      harbitrated.trans (Record.fallback_eq _), heffective, hfree, hbound⟩
  case links => rw [hlbi]; exact s.lbi.restart_links q
  case last | chosen | bus | port | due | roster | faults | orphan | station | rate => rw [hlbi]; rfl
  case isOpen | walk | roots | side | lastSeat => rw [hpdir]; rfl
  case kept => rw [hpdir]; exact hmemory
  case mark => rw [hpdir]; exact hmark
  case stopped => rw [hsmu]; exact Smu.restart_stopped
  case pass =>
    intro mode hmode
    rw [hsmu, Smu.restart_running hmode]
    exact s.smu.startPass_begun mode
  case results => rw [hsmu, hresults]
  case settings => rw [hsmu, hsettings]
  case circuits =>
    rw [State.warmRestart_circuit_eq, Circuit.restartTimers_eq]
  case shutDown =>
    obtain ⟨-, -, -, -, -, hodu, hshu, -⟩ := s.restartBlocks_frame
    refine ⟨s.restartBlocks, hodu, hshu, hresults, fun c => ?_, fun n => ?_, s.warmRestart_shutDown⟩
    · exact (s.restartBlocks_record c).trans (if_congr Iff.rfl rfl (Record.clearDemands_eq _))
    · exact (s.restartBlocks_circuit n).trans (Circuit.restartTimers_eq _)
  case emergencyIn => exact s.warmRestart_emergencyIn

end Sys2Proof.Machine
end

section
/-! SUPPORT. The rotating order of seats, the plain requests, and a point that no window translates. -/

namespace Sys2Proof.Machine

/-! ### The rotating order (R25, R149) -/

theorem seatsAfter_eq (last : Seat) : seatsAfter last = (List.finRange 4).map fun i => last + 1 + i := by
  revert last
  decide

/-- R25, R149: the rotating order comes first to the seat least far behind the one served last. -/
theorem find?_seatsAfter_eq_some {last q : Seat} {p : Seat → Bool} : (seatsAfter last).find? p = some q ↔
    p q = true ∧ ∀ q', p q' = true → (q - last - 1).val ≤ (q' - last - 1).val := by
  have hplace : ∀ x : Seat, last + 1 + (x - last - 1) = x := fun x => by rw [sub_sub, add_sub_cancel]
  have hseat : ∀ i : Seat, last + 1 + i - last - 1 = i := fun i => by rw [sub_sub, add_sub_cancel_left]
  simp only [seatsAfter_eq, List.find?_map, Option.map_eq_some_iff, find?_finRange_eq_some, Function.comp_apply]
  constructor
  · rintro ⟨i, ⟨hp, hmin⟩, rfl⟩
    refine ⟨hp, fun q' hq' => ?_⟩
    rw [hseat]
    by_contra hlt
    have hfalse := hmin (q' - last - 1) (Fin.lt_def.2 (not_le.1 hlt))
    rw [hplace, hq'] at hfalse
    cases hfalse
  · rintro ⟨hp, hmin⟩
    refine ⟨q - last - 1, ⟨by rwa [hplace], fun j hj => ?_⟩, hplace q⟩
    rw [← Bool.not_eq_true]
    intro hj'
    have hle := hmin _ hj'
    rw [hseat] at hle
    exact absurd hj (not_lt.2 (Fin.le_def.2 hle))

/-- R149: the arbiter's next seat. -/
theorem Arbiter.next_eq_some {a : Arbiter} {q : Seat} : a.next = some q ↔ a.waiting.read q = true ∧
    ∀ q', a.waiting.read q' = true → (q - a.last - 1).val ≤ (q' - a.last - 1).val := find?_seatsAfter_eq_some

/-- R149: the free walker, handed to no seat yet, is handed to the arbiter's next one. -/
theorem State.settleArbiter_eq (s : State) : s.settleArbiter =
    if s.pdir.walk = none ∧ s.lbi.arbiter.chosen = none then
      { s with lbi := { s.lbi with arbiter := { s.lbi.arbiter with chosen := s.lbi.arbiter.next } } }
    else s := by
  simp only [State.settleArbiter, Bool.and_eq_true, Option.isNone_iff_eq_none]

/-- R149: the walker is handed on in one field of the arbiter. -/
theorem State.settleArbiter_lbi (s : State) :
    ∃ chosen, s.settleArbiter.lbi = { s.lbi with arbiter := { s.lbi.arbiter with chosen := chosen } } := by
  rw [State.settleArbiter_eq]
  split
  · exact ⟨_, rfl⟩
  · exact ⟨_, rfl⟩

theorem State.settleArbiter_service (s : State) : s.settleArbiter.lbi.service = s.lbi.service := by
  obtain ⟨chosen, hlbi⟩ := s.settleArbiter_lbi
  rw [hlbi]

theorem State.settleArbiter_transmitterOf (s : State) (seat : Seat) :
    s.settleArbiter.transmitterOf seat = s.transmitterOf seat := by
  obtain ⟨chosen, hlbi⟩ := s.settleArbiter_lbi
  simp only [State.transmitterOf, hlbi]

/-! ### HELLO, OPEN, CLOSE and RESTART -/

/-- R156: the word of HELLO, its fields added up. -/
theorem State.helloPayload_eq (s : State) (seat : Seat) : s.helloPayload seat =
    [BitVec.ofNat 16 (s.lbi.station.toNat + 16 * seat.val + 64 * (s.standing seat).number +
      256 * (if s.pdir.isOpen then 1 else 0))] := by
  have hstation := s.lbi.station.isLt
  have hseat := seat.isLt
  have hstanding : (s.standing seat).number ≤ 2 := by cases s.standing seat <;> decide
  rw [State.helloPayload, field_eq, field_eq, field_eq, natWord_or_above 4 ⟨_, Nat.mul_comm ..⟩ (by omega),
    natWord_or_above 6 ⟨_, Nat.mul_comm ..⟩ (by omega), natWord_or_above 8 ⟨_, Nat.mul_comm ..⟩ (by omega),
    Nat.mul_comm 16, Nat.mul_comm 64, Nat.mul_comm 256]
  rfl

/-- R44: the service seat's OPEN and CLOSE set the state of the directory. -/
theorem State.setDirectory_eq (s : State) (seat : Seat) (r : Request) (isOpen : Bool) :
    s.setDirectory seat r isOpen = if seat = serviceSeat then
      State.answer { s with pdir := { s.pdir with isOpen := isOpen } } seat r .done []
      else s.answer seat r .notEditor [] := by
  simp only [State.setDirectory, ne_eq, ite_not]

section
variable {s : State} {seat : Seat} {r : Request}

theorem exec_hello (h : s.serves seat .hello r) :
    exec (.hello seat) s = .next (s.answer seat r .done (s.helloPayload seat)) := by
  show execHello seat s = _
  rw [execHello, State.onRequest_of_serves h]

theorem exec_openDirectory (h : s.serves seat .openDirectory r) :
    exec (.openDirectory seat) s = .next (s.setDirectory seat r true) := by
  show execOpenDirectory seat s = _
  rw [execOpenDirectory, State.onRequest_of_serves h]

theorem exec_closeDirectory (h : s.serves seat .closeDirectory r) :
    exec (.closeDirectory seat) s = .next (s.setDirectory seat r false) := by
  show execCloseDirectory seat s = _
  rw [execCloseDirectory, State.onRequest_of_serves h]

theorem exec_restart (h : s.serves seat .restart r) : exec (.restart seat) s = .next
    (if seat ≠ serviceSeat then s.answer seat r .notEditor []
      else (s.handReply seat r.header .done [] true).setService seat none) := by
  show execRestart seat s = _
  rw [execRestart, State.onRequest_of_serves h]

end

/-- Settles O10: each kind's own meaning, HELLO's word put together from its fields. -/
theorem plainRequestsAreAnswered : Obligations.PlainRequestsAreAnswered := by
  intro s seat r
  refine ⟨fun h => ?hello, fun h => ?opens, fun h => ?close, fun h => ⟨fun hbus => ?bus, fun hservice => ?service⟩⟩
  case hello => rw [exec_hello h, State.helloPayload_eq]
  case opens => rw [exec_openDirectory h, State.setDirectory_eq]
  case close => rw [exec_closeDirectory h, State.setDirectory_eq]
  case bus => rw [exec_restart h, if_pos hbus]
  case service =>
    subst hservice
    rw [exec_restart h, if_neg (by simp)]
    rfl

/-! ### Resolution past the windows -/

/-- R50, R149: a request that waits for the walker: its seat joins the waiting set, and the walker, where it is free,
is handed to the next seat. -/
theorem State.awaitWalk_waits (s : State) (seat : Seat) (r : Request) (rewalk : Bool) : ∃ l : Lbi,
    s.awaitWalk seat r rewalk = { s with lbi := l } ∧
    l.service = s.lbi.service.write seat (some { request := r, progress := .awaitingWalk rewalk }) ∧
    l.arbiter.waiting = s.lbi.arbiter.waiting.write seat true ∧ l.arbiter.last = s.lbi.arbiter.last ∧
    l = { s.lbi with service := l.service, arbiter := l.arbiter } := by
  unfold State.awaitWalk
  dsimp only
  rw [State.settleArbiter_eq]
  split
  · exact ⟨_, rfl, rfl, rfl, rfl, rfl⟩
  · exact ⟨_, rfl, rfl, rfl, rfl, rfl⟩

section
variable {s : State} {seat : Seat} {r : Request} (a : Access)
  (hw : s.pcache.window? seat (wordPoint (r.word 0)) = none)
include hw

/-- R44: with the directory CLOSED, a point that no window translates. -/
theorem State.resolve_closed (ho : s.pdir.isOpen = false) : s.resolve a seat r = s.answer seat r .noWindow [] := by
  simp [State.resolve, hw, ho]

/-- R53: a point that neither a window nor the cache translates. -/
theorem State.resolve_miss (ho : s.pdir.isOpen = true) (h : s.pcache.lookup seat (wordPoint (r.word 0)) = none) :
    s.resolve a seat r = s.awaitWalk seat r false := by
  simp only [State.resolve, hw, ho, h, if_true]

end

/-- A unit of a bank changed in one unit. -/
theorem Bank.read_update {α : Type} {n : Nat} (b : Bank α n) (i j : Fin n) (f : α → α) :
    (b.update i f).read j = if j = i then f (b.read j) else b.read j := by
  by_cases h : j = i
  · rw [if_pos h, h, Bank.read_update_same]
  · rw [if_neg h, Bank.read_update_ne b f (Ne.symm h)]

/-- R52: a hit moves the victim pointer of the point's set alone. -/
theorem Pcache.hit_sets (c : Pcache) (p : Point) (i : Fin 8) : (c.hit p).sets.read i =
    if i = cacheSetOf p then (c.sets.read i).advance else c.sets.read i := by
  rw [Pcache.hit, Bank.read_update]

/-- The kinds of request that a translation serves, their commands and their accesses: each resolves its point. -/
theorem exec_access {s : State} {seat : Seat} {r : Request} {k : Kind} {c : Instr}
    (hc : (k = .set ∧ c = .set seat) ∨ (k = .release ∧ c = .release seat) ∨ (k = .read ∧ c = .read seat))
    (h : s.serves seat k r) :
    ∃ a : Access, exec c s = .next (s.resolve a seat r) ∧ (k = .set → a = .set) ∧ (k = .read → a = .read) := by
  rcases hc with ⟨rfl, rfl⟩ | ⟨rfl, rfl⟩ | ⟨rfl, rfl⟩
  · exact ⟨.set, exec_set h, fun _ => rfl, nofun⟩
  · exact ⟨.release, exec_release h, nofun, nofun⟩
  · exact ⟨.read, exec_read h, nofun, fun _ => rfl⟩

/-- Settles O23: the directory state, then the lookup and, on a hit, the entry's marks decide the request. -/
theorem resolutionTriesTheCache : Obligations.ResolutionTriesTheCache := by
  refine ⟨fun s seat r k c hc h hw => ?_, fun c p => ⟨rfl, fun i way => ?ways, fun i => ?victim⟩⟩
  · obtain ⟨a, hexec, hset, hread⟩ := exec_access hc h
    rw [hexec]
    refine ⟨fun ho => ?closed, fun ho hn => ?miss, fun e ho he => ⟨fun hk hg hd => ?rewalk, fun hk => ?hit⟩⟩
    case closed => rw [State.resolve_closed a hw ho]
    case miss =>
      obtain ⟨l, hl, hservice, hwaiting, hlast, hrest⟩ := s.awaitWalk_waits seat r false
      exact ⟨l, by rw [State.resolve_miss a hw ho hn, hl], hservice, hwaiting, hlast, hrest⟩
    case rewalk =>
      obtain ⟨l, hl, hservice, hwaiting, hlast, hrest⟩ :=
        State.awaitWalk_waits { s with pcache := s.pcache.hit (wordPoint (r.word 0)) } seat r true
      refine ⟨l, ?_, hservice, hwaiting, hlast, hrest⟩
      rw [State.resolve_entry a hw ho he]
      simp [hset hk, hg, hd, hl]
    case hit =>
      rw [State.resolve_entry a hw ho he, hread hk]
      simp only [reduceCtorEq, false_and, if_false, State.finishAccess, State.finishRead, entryTranslation_word]
      rfl
  case ways =>
    rw [Pcache.hit_sets]
    split
    · rfl
    · rfl
  case victim =>
    rw [Pcache.hit_sets]
    split
    · rfl
    · rfl

end Sys2Proof.Machine
end

section
/-! SUPPORT. The end of a walk: what the cache takes, how the request is served, and the walks that end before they
read a word. -/

namespace Sys2Proof.Machine

/-! ### What the cache takes (R54, R55, R61) -/

theorem CacheSet.drop_read (c : CacheSet) (f : CacheEntry → Bool) (way : Fin 4) :
    (c.drop f).ways.read way = (c.ways.read way).filter fun e => !f e := by
  rw [CacheSet.drop, Bank.read_fill]
  cases c.ways.read way with
  | none => rfl
  | some e => cases h : f e <;> simp [h, Option.filter]

theorem Pcache.invalidate_sets (c : Pcache) (seat : Seat) (p : Point) (i : Fin 8) :
    (c.invalidate seat p).sets.read i =
      if i = cacheSetOf p then (c.sets.read i).drop fun e => e.serves seat p else c.sets.read i := by
  rw [Pcache.invalidate, Bank.read_update]

/-- R54: an invalidation moves no victim pointer. -/
theorem Pcache.invalidate_victim (c : Pcache) (seat : Seat) (p : Point) (i : Fin 8) :
    ((c.invalidate seat p).sets.read i).victim = (c.sets.read i).victim := by
  rw [Pcache.invalidate_sets]
  split
  · rfl
  · rfl

/-- R54: an invalidation takes the entries of the point's set that match the seat and the point. -/
theorem Pcache.invalidate_ways (c : Pcache) (seat : Seat) (p : Point) (i : Fin 8) (way : Fin 4) :
    ((c.invalidate seat p).sets.read i).ways.read way = ((c.sets.read i).ways.read way).filter fun e =>
      !(i == cacheSetOf p && e.point == p && (e.seat == seat || e.global)) := by
  rw [Pcache.invalidate_sets]
  by_cases h : i = cacheSetOf p
  · simp [h, CacheSet.drop_read, CacheEntry.serves]
  · cases hway : (c.sets.read i).ways.read way <;> simp [h, hway, Option.filter]

/-- R54, R61: a walk that loads nothing takes its entries from the cache, where it is a re-walk. -/
theorem Pcache.takeWalk_of_noLoad (c : Pcache) {w : Walk} {o : WalkOutcome}
    (h : (∀ f, o ≠ .found f) ∨ w.noLoad = true) :
    c.takeWalk w o = if w.rewalk then c.invalidate w.seat w.point else c := by
  cases o with
  | found f =>
    have hn : w.noLoad = true := h.resolve_left fun hf => hf f rfl
    simp only [Pcache.takeWalk, hn, if_true]
  | guarded | maintOnly | absent | dirFault => rfl

/-- R54, R55, R61: what the cache takes from a walk's end is what the statements say of it. -/
theorem Pcache.takeWalk_takes (c : Pcache) (w : Walk) (o : WalkOutcome) : cacheTakes c (c.takeWalk w o) w o := by
  refine ⟨fun f ho hn => ?found, fun h => ?nothing⟩
  case found =>
    subst ho
    simp only [Pcache.takeWalk, hn, Bool.false_eq_true, if_false]
    rfl
  case nothing =>
    rw [c.takeWalk_of_noLoad h]
    refine ⟨fun hr => by rw [hr]; rfl, fun hr => ?_⟩
    rw [if_pos hr]
    exact ⟨rfl, fun i => ⟨c.invalidate_victim .., fun way => c.invalidate_ways ..⟩⟩

/-! ### How the request is served (R36, R45) -/

/-- The translation that a walk gives. -/
def walkTranslation (f : Found) : Translation := { source := .walk, channel := f.channel, link := f.link }

theorem walkTranslation_word (f : Found) : (walkTranslation f).word = translationWord 4 f.link f.channel :=
  Translation.word_eq _

/-- R36, R45: the request goes on with the walk's translation. -/
theorem State.finishAccess_serves (u : State) (w : Walk) (f : Found) (r : Request) :
    walkServes u (u.finishAccess w.access w.seat r (walkTranslation f)).settleArbiter w f r := by
  have hword := walkTranslation_word f
  refine ⟨fun ha => ?read, fun ha hn => ?noTarget, fun c hc ho =>
    ⟨fun ha hb => ?barred, fun ha hb => ?placed, fun ha => ?withdrawn⟩⟩
  case read =>
    rw [ha, State.finishAccess, State.finishRead, hword]
    rfl
  case noTarget =>
    cases h : w.access with
    | set => rw [State.finishAccess, State.finishSet_noTarget _ _ hn, hword]
    | release => rw [State.finishAccess, State.finishRelease_noTarget _ _ hn, hword]
    | read => exact absurd h ha
  case barred => rw [ha, State.finishAccess, State.finishSet_barred r hc ho hb]
  case placed =>
    obtain ⟨v, hv, hfinish⟩ := State.finishSet_placed (t := walkTranslation f) r hc ho hb
    exact ⟨v, hv, by rw [ha, State.finishAccess, hfinish, hword]⟩
  case withdrawn =>
    obtain ⟨v, hv, hfinish⟩ := State.finishRelease_withdrawn (t := walkTranslation f) w.seat r hc ho
    exact ⟨v, hv, by rw [ha, State.finishAccess, hfinish, hword]⟩

/-! ### The end of a walk (R36) -/

/-- R36: the state in which the handler takes the outcome of walk `w`, whose last access left the directory as `p`. -/
def State.walkFreed (s : State) (p : Pdir) (w : Walk) (o : WalkOutcome) : State :=
  { s with
    pdir := { p with walk := none }
    pcache := s.pcache.takeWalk w o
    evu := if o = .dirFault then s.evu.raiseAll .dirFault else s.evu }

theorem State.endWalk_eq (s : State) (p : Pdir) (w : Walk) (o : WalkOutcome) :
    State.endWalk { s with pdir := p } w o = ((s.walkFreed p w o).deliver w o).settleArbiter := by
  cases o <;> rfl

section
variable {s : State} {w : Walk} {i : InService} (hi : s.lbi.service.read w.seat = some i)
include hi

theorem State.deliver_found (f : Found) :
    s.deliver w (.found f) = s.finishAccess w.access w.seat i.request (walkTranslation f) := by
  simp only [State.deliver, hi]
  rfl

theorem State.deliver_failed {o : WalkOutcome} (h : ∀ f, o ≠ .found f) :
    s.deliver w o = s.answer w.seat i.request o.code [] := by
  cases o with
  | found f => exact absurd rfl (h f)
  | guarded | maintOnly | absent | dirFault => simp only [State.deliver, hi]

end

/-- R36: the end of a walk is what the statements say of it. -/
theorem State.endWalk_ended (s : State) (p : Pdir) (w : Walk) (o : WalkOutcome) :
    walkEnded s (State.endWalk { s with pdir := p } w o) p w o := by
  intro i hi
  refine ⟨s.walkFreed p w o, rfl, s.pcache.takeWalk_takes w o, ?_⟩
  have hserves : (s.walkFreed p w o).lbi.service.read w.seat = some i := hi
  rw [State.endWalk_eq]
  cases o with
  | found f =>
    rw [State.deliver_found hserves]
    exact State.finishAccess_serves ..
  | guarded | maintOnly | absent | dirFault =>
    rw [State.deliver_failed hserves]
    · rfl
    · nofun

/-! ### An answer that moves no count -/

/-- R151: an outcome that counts for nothing changes nothing. -/
theorem State.applyOutcome_uncounted (s : State) (seat : Seat) {c : Code}
    (h : c ∉ [Code.badForm, .busy, .guarded, .maintOnly, .done, .clamped]) : s.applyOutcome seat c = s := by
  unfold State.applyOutcome
  split
  · next b _ =>
    split
    · rfl
    · have hsame : s.lbi.faults.write b (s.lbi.faults.read b) = s.lbi.faults :=
        Bank.ext_read fun b' => by rw [Bank.read_write]; split <;> simp [*]
      rw [countAfter_other h, s.setCount_same b _ rfl, hsame]
  · rfl

/-- R150: a reply is handed to the transmitter of its seat, behind those that wait there. -/
theorem State.handReply_replies (s : State) (seat : Seat) (h : Word) (c : Code) (p : List Word) (b : Bool) :
    ((s.handReply seat h c p b).transmitterOf seat).replies = (s.transmitterOf seat).replies ++
      [{ words := replyHeaderA s.lbi.station h p.length ::
          replyHeaderB c (s.evu.marker seat) (s.standing seat) :: p, restart := b }] := by
  unfold State.handReply State.transmitterOf
  dsimp only
  split
  · rfl
  · rfl

/-- The result and its sub-code stand in the upper bits of header word B (11.1). -/
theorem replyHeaderB_code (c : Code) (attention : Bool) (st : Standing) :
    (replyHeaderB c attention st).extractLsb' 10 6 = BitVec.ofNat 6 (4 * c.number + c.subCode) := by
  cases attention <;> cases st <;> cases c <;> rfl

/-! ### Misaligned tables (R33, R34) -/

theorem exec_walkGroupRead_misaligned {s : State} {w : Walk} {base : DirAddr} (hw : s.pdir.walk = some w)
    (hs : w.step = .group base) (hb : base.toNat % 32 ≠ 0) :
    exec .walkGroupRead s = .next (s.endWalk w .dirFault) := by
  show execWalkGroupRead s = _
  simp only [execWalkGroupRead, hw, hs, if_pos hb]

theorem exec_walkPointRead_misaligned {s : State} {w : Walk} {base : DirAddr} (hw : s.pdir.walk = some w)
    (hs : w.step = .point base) (hb : base.toNat % 16 ≠ 0) :
    exec .walkPointRead s = .next (s.endWalk w .dirFault) := by
  show execWalkPointRead s = _
  simp only [execWalkPointRead, hw, hs, if_pos hb]

/-- Settles O28: either row ends the walk at once, and the outcome of a directory fault moves no count. -/
theorem misalignedTableEndsTheWalk : Obligations.MisalignedTableEndsTheWalk := by
  intro s w base i hw hi hstep
  have hexec : exec (if w.step = .group base then .walkGroupRead else .walkPointRead) s =
      .next (s.endWalk w .dirFault) := by
    rcases hstep with ⟨hs, hb⟩ | ⟨hs, hb⟩
    · rw [if_pos hs, exec_walkGroupRead_misaligned hw hs hb]
    · rw [if_neg (by rw [hs]; nofun), exec_walkPointRead_misaligned hw hs hb]
  have hend : s.endWalk w .dirFault = State.settleArbiter (State.setService
      ((s.walkFreed s.pdir w .dirFault).handReply w.seat i.request.header .dirFault [] false) w.seat none) := by
    have hserves : (s.walkFreed s.pdir w .dirFault).lbi.service.read w.seat = some i := hi
    have heq : s.endWalk w .dirFault = _ := s.endWalk_eq s.pdir w .dirFault
    have hanswer : (s.walkFreed s.pdir w .dirFault).deliver w .dirFault =
        (s.walkFreed s.pdir w .dirFault).answer w.seat i.request .dirFault [] := State.deliver_failed hserves nofun
    rw [heq, hanswer, State.answer, State.applyOutcome_uncounted _ _ (by decide)]
  refine ⟨_, hexec, s.endWalk_ended s.pdir w .dirFault, ?pdir, ?service, fun q => ?flag, fun hr => ?cache,
    ?cmdt, ?reply⟩
  case pdir => simp [hend, State.walkFreed]
  case service =>
    rw [hend, State.settleArbiter_service, State.setService, Bank.read_write_same]
  case flag =>
    rw [State.flag_raiseAll (s := s) (f := .dirFault) (by simp [hend, State.walkFreed]), if_pos rfl]
  case cache => simp [hend, State.walkFreed, Pcache.takeWalk, hr]
  case cmdt => simp [hend, State.walkFreed]
  case reply =>
    rw [hend, State.settleArbiter_transmitterOf]
    exact ⟨_, State.handReply_replies .., replyHeaderB_code .dirFault _ _⟩

end Sys2Proof.Machine
end

section
/-! SUPPORT. The grant of the walker, and the memory port: who is waiting, whom it goes to, and what it reads or
writes. -/

namespace Sys2Proof.Machine

/-! ### The grant of the walker (R31, R149) -/

/-- R149: the state in which a seat has left the waiting set and counts as served last. -/
def State.granted (s : State) (seat : Seat) : State :=
  { s with lbi := { s.lbi with
    arbiter := { waiting := s.lbi.arbiter.waiting.write seat false, last := seat, chosen := none } } }

/-- R31: the walk of a seat's request, at its zone table. -/
def State.firstWalk (s : State) (seat : Seat) (r : Request) (a : Access) (rewalk : Bool) : Walk :=
  { seat := seat, point := wordPoint (r.word 0), access := a, rewalk := rewalk,
    rootBase := (s.pdir.roots.read seat).base, guarded := false, throughLink := false, noLoad := false,
    readWords := [], step := .zone }

/-- R149: the seat whose turn it is: the one handed the walker, or the arbiter's next one. -/
theorem Arbiter.turn_eq {a : Arbiter} {seat : Seat}
    (h : a.chosen = some seat ∨ (a.chosen = none ∧ a.next = some seat)) : a.chosen.or a.next = some seat := by
  rcases h with h | ⟨hc, hn⟩
  · rw [h, Option.some_or]
  · rw [hc, hn, Option.none_or]

/-- R31, R44, R149: the grant, where the seat whose turn it is waits for the walker. -/
theorem exec_walkGrant {s : State} {seat : Seat} {r : Request} {rewalk : Bool} {k : Kind} {a : Access}
    (hk : (k = .set ∧ a = .set) ∨ (k = .release ∧ a = .release) ∨ (k = .read ∧ a = .read)) (hr : r.kind = some k)
    (hw : s.pdir.walk = none) (hturn : s.lbi.arbiter.chosen.or s.lbi.arbiter.next = some seat)
    (hi : s.lbi.service.read seat = some { request := r, progress := .awaitingWalk rewalk }) :
    exec .walkGrant s = .next
      (if s.pdir.isOpen then
        if (s.pdir.roots.read seat).valid then
          { (s.granted seat).setService seat (some { request := r, progress := .walking }) with
            pdir := { s.pdir with walk := some (s.firstWalk seat r a rewalk) } }
        else (s.granted seat).endWalk (s.firstWalk seat r a rewalk) .absent
      else ((s.granted seat).answer seat r .noWindow []).settleArbiter) := by
  show execWalkGrant s = _
  simp only [execWalkGrant, hw, hturn, hi, hr]
  rcases hk with ⟨rfl, rfl⟩ | ⟨rfl, rfl⟩ | ⟨rfl, rfl⟩
  · rfl
  · rfl
  · rfl

/-- Settles O26: the rotating order, and the three outcomes of a grant. -/
theorem grantBeginsTheWalk : Obligations.GrantBeginsTheWalk := by
  refine ⟨fun a q => Arbiter.next_eq_some, State.settleArbiter_eq, fun s seat r b k a hk hr hw hturn hi => ?_⟩
  have hexec := exec_walkGrant hk hr hw (Arbiter.turn_eq hturn) hi
  refine ⟨fun ho hv => ?_, fun ho hv => ⟨_, ?_, (s.granted seat).endWalk_ended s.pdir _ .absent⟩, fun ho => ?_⟩
  · rw [hexec, if_pos ho, if_pos hv]
    rfl
  · rw [hexec, if_pos ho, if_neg (by simp [hv])]
    rfl
  · rw [hexec, if_neg (by simp [ho])]
    rfl

/-! ### Who waits at the port (R25, R26) -/

/-- R26: the walk has locked the word at an address. -/
theorem Walk.lockedWord_eq_some {w : Walk} {addr : DirAddr} :
    w.lockedWord = some addr ↔ ∃ word next, w.step = .mark addr word next := by
  unfold Walk.lockedWord
  cases w.step with
  | mark a word next => simp
  | zone | group _ | point _ | link _ => simp

/-- R26: no walk in flight has locked the word at an address. -/
theorem Pdir.unlocked_iff (p : Pdir) (addr : DirAddr) : p.walk.bind Walk.lockedWord ≠ some addr ↔
    ∀ w word next, p.walk = some w → w.step ≠ .mark addr word next := by
  rw [ne_eq, Option.bind_eq_some_iff]
  simp only [Walk.lockedWord_eq_some]
  exact ⟨fun h w word next hw hs => h ⟨w, hw, word, next, hs⟩,
    fun h ⟨w, hw, word, next, hs⟩ => h w word next hw hs⟩

/-- R26: the access of a seat that the port could take. -/
theorem State.portAccess_eq_some {s : State} {q : Seat} {i : InService} {addr : DirAddr} {data : Option DirWord} :
    s.portAccess q = some (i, addr, data) ↔ s.lbi.service.read q = some i ∧ i.progress = .awaitingPort addr data ∧
      ∀ w word next, s.pdir.walk = some w → w.step ≠ .mark addr word next := by
  rw [← Pdir.unlocked_iff, State.portAccess]
  cases s.lbi.service.read q with
  | none => simp
  | some j =>
    obtain ⟨r, progress⟩ := j
    cases progress with
    | awaitingPort a d =>
      by_cases hl : s.pdir.walk.bind Walk.lockedWord = some a
      · simp only [hl, if_true, reduceCtorEq, Option.some.injEq, false_iff]
        rintro ⟨rfl, ⟨⟩, hne⟩
        exact hne rfl
      · simp only [hl, if_false, Option.some.injEq, Prod.mk.injEq]
        constructor
        · rintro ⟨rfl, rfl, rfl⟩
          exact ⟨rfl, rfl, hl⟩
        · rintro ⟨rfl, ⟨⟩, -⟩
          exact ⟨rfl, rfl, rfl⟩
    | taken | awaitingWalk _ | walking =>
      simp only [reduceCtorEq, Option.some.injEq, false_iff]
      rintro ⟨rfl, ⟨⟩, -⟩

/-- R25, R26: the port could take an access of a seat, as the statements say it. -/
theorem State.portAccess_isSome {s : State} {q : Seat} : (s.portAccess q).isSome = true ↔
    ∃ r addr data, s.lbi.service.read q = some { request := r, progress := .awaitingPort addr data } ∧
      ∀ w word next, s.pdir.walk = some w → w.step ≠ .mark addr word next := by
  rw [Option.isSome_iff_exists]
  constructor
  · rintro ⟨⟨⟨r, progress⟩, addr, data⟩, h⟩
    obtain ⟨hi, rfl, hfree⟩ := State.portAccess_eq_some.1 h
    exact ⟨r, addr, data, hi, hfree⟩
  · rintro ⟨r, addr, data, hi, hfree⟩
    exact ⟨_, State.portAccess_eq_some.2 ⟨hi, rfl, hfree⟩⟩

/-- R30: the walk waits for an access unless it has come to a misaligned table. -/
theorem Walk.wantsPort_iff (w : Walk) : w.wantsPort = true ↔
    (∀ b, w.step = .group b → b.toNat % 32 = 0) ∧ ∀ b, w.step = .point b → b.toNat % 16 = 0 := by
  unfold Walk.wantsPort
  cases w.step with
  | group b | point b => simp
  | zone | link _ | mark _ _ _ => simp

theorem State.walkerWaits_iff (s : State) : s.walkerWaits = true ↔ ∃ w, s.pdir.walk = some w ∧
    ((∀ b, w.step = .group b → b.toNat % 32 = 0) ∧ ∀ b, w.step = .point b → b.toNat % 16 = 0) := by
  simp only [State.walkerWaits, Option.any_eq_true, Walk.wantsPort_iff]

/-! ### Whom the port goes to (R25) -/

theorem State.portToWalker_iff (s : State) :
    s.portToWalker = true ↔ (∀ q, ¬(s.portAccess q).isSome = true) ∨ s.pdir.lastSide = .seats := by
  simp [State.portToWalker, State.seatsWait, -Option.not_isSome]

theorem State.portToSeats_iff (s : State) :
    s.portToSeats = true ↔ ¬s.walkerWaits = true ∨ s.pdir.lastSide = .walker := by
  simp [State.portToSeats]

/-- R25: the seat that the port goes to among the seats. -/
theorem State.portSeat_eq_some {s : State} {q : Seat} : s.portSeat = some q ↔ (s.portAccess q).isSome = true ∧
    ∀ q', (s.portAccess q').isSome = true → (q - s.pdir.lastSeat - 1).val ≤ (q' - s.pdir.lastSeat - 1).val :=
  find?_seatsAfter_eq_some

theorem State.portSeat_eq_none {s : State} (h : ∀ q, ¬(s.portAccess q).isSome = true) : s.portSeat = none :=
  List.find?_eq_none.2 fun q _ => h q

/-! ### DIR_READ and DIR_WRITE at the port (R42, R43) -/

/-- R42: the state in which an editor's access waits at the port. -/
def State.awaitPort (s : State) (seat : Seat) (r : Request) (data : Option DirWord) : State :=
  s.setService seat (some { request := r, progress := .awaitingPort (BitVec.ofNat 12 (r.word 0).toNat) data })

section
variable {s : State} {seat : Seat} {r : Request}

theorem exec_dirRead (h : s.serves seat .dirRead r) :
    exec (.dirRead seat) s = .next (s.directoryAccess seat r none) := by
  show execDirRead seat s = _
  rw [execDirRead, State.onRequest_of_serves h]

theorem exec_dirWrite (h : s.serves seat .dirWrite r) :
    exec (.dirWrite seat) s = .next (s.directoryAccess seat r (some (r.word 1 ++ r.word 2))) := by
  show execDirWrite seat s = _
  rw [execDirWrite, State.onRequest_of_serves h]

variable (he : s.editor seat = true)
include he

/-- R42: an address above directory memory is refused. -/
theorem State.directoryAccess_outside (data : Option DirWord) (ha : 4096 ≤ (r.word 0).toNat) :
    s.directoryAccess seat r data = s.answer seat r .badValue [] := by
  rw [State.directoryAccess, if_neg (by simp [he]), if_pos (by omega)]

/-- R42, R43: an address of directory memory is put to the port, and a write of the locked word marks the walk. -/
theorem State.directoryAccess_inside (data : Option DirWord) (ha : (r.word 0).toNat < 4096) :
    s.directoryAccess seat r data = if data.isSome then
      (s.awaitPort seat r data).markNoLoad fun w => w.lockedWord == some (BitVec.ofNat 12 (r.word 0).toNat)
      else s.awaitPort seat r data := by
  have haddr : (r.word 0).setWidth 12 = BitVec.ofNat 12 (r.word 0).toNat := rfl
  rw [State.directoryAccess, if_neg (by simp [he]), if_neg (by omega), haddr]
  rfl

end

/-- R25: the state in which the port has granted a seat. -/
def State.grantSeat (s : State) (seat : Seat) : State :=
  { s with pdir := { s.pdir with lastSide := .seats, lastSeat := seat } }

/-- R25: no grant to a seat takes place where the port does not go to the seats, or could take no access of theirs. -/
theorem exec_dirPortGrant_none {s : State} (h : s.portToSeats = false ∨ s.portSeat = none) :
    exec .dirPortGrant s = .next s := by
  show execDirPortGrant s = _
  rcases h with h | h
  · simp [execDirPortGrant, h]
  · simp [execDirPortGrant, h]

section
variable {s : State} {seat : Seat} {i : InService} {addr : DirAddr} (hseats : s.portToSeats = true)
  (hseat : s.portSeat = some seat)
include hseats hseat

/-- R42: the grant of a read answers it with the word. -/
theorem exec_dirPortGrant_read (h : s.portAccess seat = some (i, addr, none)) : exec .dirPortGrant s = .next
    ((s.grantSeat seat).answer seat i.request .done [(memRead s.pdir.memory addr.toNat).extractLsb' 16 16,
      (memRead s.pdir.memory addr.toNat).extractLsb' 0 16]) := by
  show execDirPortGrant s = _
  simp only [execDirPortGrant, hseats, hseat, h, if_true]
  rfl

/-- R42, R43: the grant of a write writes its word, and marks a walk that has read it. -/
theorem exec_dirPortGrant_write {word : DirWord} (h : s.portAccess seat = some (i, addr, some word)) :
    exec .dirPortGrant s = .next (State.answer
      (State.markNoLoad ((s.grantSeat seat).writeMark addr word) fun w => w.readWords.contains addr)
      seat i.request .done []) := by
  show execDirPortGrant s = _
  simp only [execDirPortGrant, hseats, hseat, h, if_true]
  rfl

end

/-- R42: a write leaves its word at its address, and every other as it was. -/
theorem State.writeMark_words {s : State} (h : memWf s.pdir.memory = true) (addr : DirAddr) (word : DirWord) (a : Nat) :
    memRead (s.writeMark addr word).pdir.memory a = if a = addr.toNat then word else memRead s.pdir.memory a :=
  (memRead_writeMark s addr word h a).trans (if_congr eq_comm rfl rfl)

/-- Settles O25: the requests as they come to wait, the two sides and the seats in their order, and the grants. -/
theorem directoryAccessGoesThroughThePort : Obligations.DirectoryAccessGoesThroughThePort := by
  refine ⟨fun s seat r => ⟨fun h he => ⟨fun ha => ?_, fun ha => ?_⟩, fun h he => ⟨fun ha => ?_, fun ha => ?_⟩⟩,
    fun s => ?_⟩
  · rw [exec_dirRead h, State.directoryAccess_inside he none ha]
    rfl
  · rw [exec_dirRead h, State.directoryAccess_outside he none ha]
  · rw [exec_dirWrite h, State.directoryAccess_inside he _ ha]
    rfl
  · rw [exec_dirWrite h, State.directoryAccess_outside he _ ha]
  · intro openAt waits walkerWaits
    have hwaits : ∀ q, waits q ↔ (s.portAccess q).isSome = true := fun q => State.portAccess_isSome.symm
    have hopen : ∀ q r addr data, openAt q r addr data →
        s.portAccess q = some ({ request := r, progress := .awaitingPort addr data }, addr, data) :=
      fun q r addr data h => State.portAccess_eq_some.2 ⟨h.1, rfl, h.2⟩
    have hwalker : walkerWaits ↔ s.walkerWaits = true := s.walkerWaits_iff.symm
    simp only [hwaits, hwalker]
    refine ⟨s.portToWalker_iff, s.portToSeats_iff, fun q => State.portSeat_eq_some,
      fun h => exec_dirPortGrant_none (h.imp_right State.portSeat_eq_none),
      fun seat r addr hseats hseat => ⟨fun h => ?read, fun word h hm => ?write⟩⟩
    case read =>
      have hgrant := exec_dirPortGrant_read hseats hseat (hopen seat r addr none h)
      exact hgrant
    case write =>
      have hgrant := exec_dirPortGrant_write hseats hseat (hopen seat r addr (some word) h)
      refine ⟨_, hgrant, rfl, fun a => ?_⟩
      exact State.writeMark_words (s := s) hm addr word a

end Sys2Proof.Machine
end

section
/-! SUPPORT. The locked reads of a walk, level by level, and its mark writes. -/

namespace Sys2Proof.Machine

/-! ### What a word does to the walk (R29 to R41) -/

/-- R37: the write-guard, accumulated or met in this word, that ends the walk of a SET. -/
def Walk.stopped (w : Walk) (word : DirWord) : Prop := w.access = .set ∧ (w.guarded || descGuarded word) = true

/-- R29, R36: an ABSENT word is left as it is, and ends the walk. -/
theorem judgeWord_absent {word : DirWord} (level : DirLevel) (w : Walk) (hk : descKind word = .absent) :
    judgeWord level w word = { walk := w, word := word, next := .finish .absent } := by
  rw [judgeWord, if_pos hk]

/-- R37: a guarded word is left as it is, and ends the walk of a SET. -/
theorem judgeWord_stopped {w : Walk} {word : DirWord} (level : DirLevel) (hk : descKind word ≠ .absent)
    (h : w.stopped word) : judgeWord level w word =
      { walk := { w with guarded := w.guarded || descGuarded word }, word := word, next := .finish .guarded } := by
  rw [judgeWord, if_neg hk]
  exact if_pos h

section
variable {w : Walk} {word : DirWord} (h : ¬w.stopped word)
include h

/-- R32: a TABLE of the zone table leads to a group table. -/
theorem judgeWord_zone_table (hk : descKind word = .table) : judgeWord .zone w word =
    { walk := { w with guarded := w.guarded || descGuarded word }, word := withTouched word,
      next := .toGroup (descBase word) } := by
  rw [judgeWord, hk, if_neg nofun]
  exact if_neg h

/-- R33: a TABLE of a group table leads to a point table. -/
theorem judgeWord_group_table (hk : descKind word = .table) : judgeWord .group w word =
    { walk := { w with guarded := w.guarded || descGuarded word }, word := withTouched word,
      next := .toPoint (descBase word) } := by
  rw [judgeWord, hk, if_neg nofun]
  exact if_neg h

/-- R35: a LINK of a point table leads to its target. -/
theorem judgeWord_point_link (hk : descKind word = .link) : judgeWord .point w word =
    { walk := { w with guarded := w.guarded || descGuarded word, throughLink := true }, word := withTouched word,
      next := .toLink (descBase word) } := by
  rw [judgeWord, hk, if_neg nofun]
  exact if_neg h

/-- R34, R35: a LEAF of a point table, or of a LINK's target, is met as a leaf. -/
theorem judgeWord_leaf {level : DirLevel} (hl : level = .point ∨ level = .target) (hk : descKind word = .leaf) :
    judgeWord level w word = judgeLeaf { w with guarded := w.guarded || descGuarded word } word := by
  rw [judgeWord, hk, if_neg nofun]
  refine (if_neg h).trans ?_
  rcases hl with rfl | rfl
  · rfl
  · rfl

/-- R32 to R36: a kind that its level does not know ends the walk as a directory fault. -/
theorem judgeWord_dirFault {level : DirLevel} (hk : descKind word ≠ .absent)
    (hl : (level = .zone ∨ level = .group) ∧ descKind word ≠ .table ∨ level = .point ∧ descKind word = .table ∨
      level = .target ∧ descKind word ≠ .leaf) : judgeWord level w word =
    { walk := { w with guarded := w.guarded || descGuarded word }, word := withTouched word,
      next := .finish .dirFault } := by
  rw [judgeWord, if_neg hk]
  refine (if_neg h).trans ?_
  cases hkind : descKind word with
  | absent => exact absurd hkind hk
  | table =>
    rcases hl with ⟨-, hne⟩ | ⟨rfl, -⟩ | ⟨rfl, -⟩
    · exact absurd hkind hne
    · rfl
    · rfl
  | leaf =>
    rcases hl with ⟨rfl | rfl, -⟩ | ⟨-, he⟩ | ⟨-, hne⟩
    · rfl
    · rfl
    · rw [hkind] at he
      cases he
    · exact absurd hkind hne
  | link =>
    rcases hl with ⟨rfl | rfl, -⟩ | ⟨-, he⟩ | ⟨rfl, -⟩
    · rfl
    · rfl
    · rw [hkind] at he
      cases he
    · rfl

end

/-- R38: a bus seat's walk that meets S ends MAINT_ONLY. -/
theorem judgeLeaf_maintOnly {w : Walk} {word : DirWord} (hs : word.getLsbD 27 = true) (hseat : w.seat ≠ serviceSeat) :
    judgeLeaf w word = { walk := w, word := withTouched word, next := .finish .maintOnly } := by
  rw [judgeLeaf, if_pos ⟨hs, hseat⟩]

/-- R34, R41: any other walk ends with its leaf's translation; a SET walk sets D too. -/
theorem judgeLeaf_found {w : Walk} {word : DirWord} (h : word.getLsbD 27 = false ∨ w.seat = serviceSeat) :
    judgeLeaf w word =
      { walk := w
        word := if w.access = .set then word ||| 0x12000000#32 else withTouched word
        next := .finish (.found
          { channel := descChannel word, guarded := w.guarded, serviceOnly := word.getLsbD 27,
            global := word.getLsbD 26, driven := w.access == .set || word.getLsbD 25, link := w.throughLink }) } := by
  have hn : ¬(descServiceOnly word = true ∧ w.seat ≠ serviceSeat) := by
    rintro ⟨hs, hseat⟩
    rcases h with h | h
    · rw [descServiceOnly, h] at hs
      cases hs
    · exact hseat h
  have hleft : withDriven (withTouched word) = word ||| 0x12000000#32 := BitVec.or_assoc ..
  rw [judgeLeaf, if_neg hn]
  by_cases ha : w.access = .set
  · simp [ha, hleft, descDriven, descServiceOnly, descGlobal]
  · simp [ha, withTouched, descDriven, descServiceOnly, descGlobal]

/-! ### The locked read (R26, R40, R43) -/

/-- The walk that has read a word, its write-guard accumulated. -/
def Walk.met (w : Walk) (addr : DirAddr) (word : DirWord) : Walk :=
  { w with guarded := w.guarded || descGuarded word, readWords := addr :: w.readWords }

/-- R43: a DIR_WRITE of a word waits at the port. -/
theorem State.writeWaits_iff (s : State) (addr : DirAddr) : s.writeWaits addr = true ↔ ∃ q r d,
    s.lbi.service.read q = some { request := r, progress := .awaitingPort addr (some d) } := by
  simp only [State.writeWaits, List.any_eq_true, List.mem_finRange, true_and]
  refine exists_congr fun q => ?_
  cases s.lbi.service.read q with
  | none => simp
  | some i =>
    obtain ⟨r, progress⟩ := i
    cases progress with
    | awaitingPort a data => cases data <;> simp
    | taken | awaitingWalk _ | walking => simp

section
variable (s : State) (w : Walk) {level : DirLevel} (addr : DirAddr)

/-- R26: a word left as it was read that ends the walk. -/
theorem State.walkRead_ended {w' : Walk} {o : WalkOutcome}
    (hj : judgeWord level { w with readWords := addr :: w.readWords } (memRead s.pdir.memory addr.toNat) =
      { walk := w', word := memRead s.pdir.memory addr.toNat, next := .finish o }) :
    walkEnded s (s.walkRead w level addr) { s.pdir with lastSide := .walker } w' o := by
  rw [State.walkRead, hj, if_pos rfl]
  exact s.endWalk_ended { s.pdir with lastSide := .walker } w' o

/-- R26, R40, R43: a word that the walk marks, locked where it lacks a mark. -/
theorem State.walkRead_walkedOn {w' : Walk} {left : DirWord} {next : WalkNext}
    (hj : judgeWord level { w with readWords := addr :: w.readWords } (memRead s.pdir.memory addr.toNat) =
      { walk := w'.met addr (memRead s.pdir.memory addr.toNat), word := left, next := next }) :
    walkedOn s (s.walkRead w level addr) w' addr (memRead s.pdir.memory addr.toNat) left next := by
  rw [State.walkRead, hj]
  refine ⟨fun hleft => ?on, fun hleft => ?locked⟩
  case on =>
    rw [if_pos hleft]
    cases next with
    | toGroup b | toPoint b | toLink b => rfl
    | finish o => exact s.endWalk_ended { s.pdir with lastSide := .walker } _ o
  case locked =>
    rw [if_neg hleft]
    refine ⟨w'.noLoad || s.writeWaits addr, rfl, ?_⟩
    rw [Bool.or_eq_true, State.writeWaits_iff]

end

/-! ### The addresses of the levels (R32 to R34) -/

theorem zoneAddr_eq {base : BitVec 8} {p : Point} {addr : DirAddr}
    (h : addr.toNat = (base.toNat * 16 + (zoneIndex p).toNat) % 4096) : zoneAddr base p = addr := by
  apply BitVec.eq_of_toNat_eq
  have hb := base.isLt
  have hz := (zoneIndex p).isLt
  rw [h, zoneAddr, BitVec.toNat_add, BitVec.toNat_shiftLeft, BitVec.toNat_setWidth, BitVec.toNat_setWidth,
    Nat.shiftLeft_eq]
  omega

theorem groupAddr_eq {base : DirAddr} {p : Point} {addr : DirAddr}
    (h : addr.toNat = (base.toNat + (groupIndex p).toNat) % 4096) : groupAddr base p = addr := by
  apply BitVec.eq_of_toNat_eq
  have hg := (groupIndex p).isLt
  rw [h, groupAddr, BitVec.toNat_add, BitVec.toNat_setWidth]
  omega

theorem pointAddr_eq {base : DirAddr} {p : Point} {addr : DirAddr}
    (h : addr.toNat = (base.toNat + (pointIndex p).toNat) % 4096) : pointAddr base p = addr := by
  apply BitVec.eq_of_toNat_eq
  have hp := (pointIndex p).isLt
  rw [h, pointAddr, BitVec.toNat_add, BitVec.toNat_setWidth]
  omega

section
variable {s : State} {w : Walk} {addr : DirAddr} (hw : s.pdir.walk = some w) (hport : s.portToWalker = true)
include hw hport

theorem exec_walkZoneRead (hs : w.step = .zone)
    (ha : addr.toNat = (w.rootBase.toNat * 16 + (zoneIndex w.point).toNat) % 4096) :
    exec .walkZoneRead s = .next (s.walkRead w .zone addr) := by
  show execWalkZoneRead s = _
  simp only [execWalkZoneRead, hw, hs, hport, if_true, zoneAddr_eq ha]

theorem exec_walkGroupRead {base : DirAddr} (hs : w.step = .group base) (hb : base.toNat % 32 = 0)
    (ha : addr.toNat = (base.toNat + (groupIndex w.point).toNat) % 4096) :
    exec .walkGroupRead s = .next (s.walkRead w .group addr) := by
  show execWalkGroupRead s = _
  simp only [execWalkGroupRead, hw, hs, if_neg (not_not.2 hb), hport, if_true, groupAddr_eq ha]

theorem exec_walkPointRead {base : DirAddr} (hs : w.step = .point base) (hb : base.toNat % 16 = 0)
    (ha : addr.toNat = (base.toNat + (pointIndex w.point).toNat) % 4096) :
    exec .walkPointRead s = .next (s.walkRead w .point addr) := by
  show execWalkPointRead s = _
  simp only [execWalkPointRead, hw, hs, if_neg (not_not.2 hb), hport, if_true, pointAddr_eq ha]

theorem exec_walkLinkTargetRead (hs : w.step = .link addr) :
    exec .walkLinkTargetRead s = .next (s.walkRead w .target addr) := by
  show execWalkLinkTargetRead s = _
  simp only [execWalkLinkTargetRead, hw, hs, hport, if_true]

/-- R40: the mark write writes the locked word back, and the walk goes on. -/
theorem exec_walkMarkWrite {word : DirWord} {next : WalkNext} (hs : w.step = .mark addr word next) :
    exec .walkMarkWrite s = .next ((s.writeMark addr word).grantWalker.walkOn w next) := by
  show execWalkMarkWrite s = _
  simp only [execWalkMarkWrite, hw, hs, hport, if_true]

end

/-! ### The directory after a walk's end -/

theorem State.finishAccess_pdir (s : State) (a : Access) (seat : Seat) (r : Request) (t : Translation) :
    (s.finishAccess a seat r t).pdir = s.pdir := by
  cases a with
  | set => simp only [State.finishAccess, State.finishSet]; (repeat' split) <;> simp
  | release => simp only [State.finishAccess, State.finishRelease]; split <;> simp
  | read => simp [State.finishAccess, State.finishRead]

theorem State.deliver_pdir (s : State) (w : Walk) (o : WalkOutcome) : (s.deliver w o).pdir = s.pdir := by
  unfold State.deliver
  split
  · rfl
  · split
    · exact State.finishAccess_pdir ..
    all_goals exact State.answer_pdir ..

/-- R36: the end of a walk frees the walker, and changes nothing else of the directory. -/
theorem State.endWalk_pdir (s : State) (w : Walk) (o : WalkOutcome) :
    (s.endWalk w o).pdir = { s.pdir with walk := none } := by
  have heq : s.endWalk w o = _ := s.endWalk_eq s.pdir w o
  rw [heq, State.settleArbiter_pdir, State.deliver_pdir]
  rfl

/-- Settles O27: the word's kind and marks decide each level's read, and a mark write goes on where the word led. -/
theorem walksReadEachLevelAndMark : Obligations.WalksReadEachLevelAndMark := by
  refine ⟨fun s w addr c level hw hport hstep => ?read, fun s w addr word next hw hs hport hm => ?mark⟩
  case read =>
    intro word kind touched granted
    have hexec : exec c s = .next (s.walkRead w level addr) := by
      rcases hstep with ⟨rfl, rfl, hs, ha⟩ | ⟨rfl, rfl, base, hs, hb, ha⟩ | ⟨rfl, rfl, base, hs, hb, ha⟩ |
        ⟨rfl, rfl, hs⟩
      · exact exec_walkZoneRead hw hport hs ha
      · exact exec_walkGroupRead hw hport hs hb ha
      · exact exec_walkPointRead hw hport hs hb ha
      · exact exec_walkLinkTargetRead hw hport hs
    refine ⟨_, hexec, fun hk => ?absent, fun hk hset hg => ?guarded, fun hk hfree => ?_⟩
    case absent =>
      have hended := s.walkRead_ended w addr (judgeWord_absent level _ hk)
      exact hended
    case guarded =>
      have hstop : Walk.stopped { w with readWords := addr :: w.readWords } word := ⟨hset, by simpa using hg⟩
      have hended := s.walkRead_ended w addr (judgeWord_stopped level hk hstop)
      exact hended
    have hpass : ¬Walk.stopped { w with readWords := addr :: w.readWords } word := by
      rintro ⟨hset, hg⟩
      rcases hfree with hne | ⟨hw', hword⟩
      · exact hne hset
      · simp [hw', hword] at hg
    refine ⟨fun hl ht => ?group, fun hl ht => ?point, fun hl ht => ?link, fun hl ht => ⟨fun hS hseat => ?maintOnly,
      fun hS => ?found⟩, fun hl => ?dirFault⟩
    case group =>
      subst hl
      exact s.walkRead_walkedOn w addr (judgeWord_zone_table hpass ht)
    case point =>
      subst hl
      exact s.walkRead_walkedOn w addr (judgeWord_group_table hpass ht)
    case link =>
      subst hl
      exact s.walkRead_walkedOn w addr (w' := { w with throughLink := true }) (judgeWord_point_link hpass ht)
    case maintOnly =>
      exact s.walkRead_walkedOn w addr ((judgeWord_leaf hpass hl ht).trans (judgeLeaf_maintOnly hS hseat))
    case found =>
      exact s.walkRead_walkedOn w addr ((judgeWord_leaf hpass hl ht).trans (judgeLeaf_found hS))
    case dirFault => exact s.walkRead_walkedOn w addr (judgeWord_dirFault hpass hk hl)
  case mark =>
    refine ⟨_, (s.writeMark addr word).pdir.memory, exec_walkMarkWrite hw hport hs,
      State.writeMark_words hm addr word, ?_⟩
    cases next with
    | toGroup b | toPoint b | toLink b => rfl
    | finish o =>
      have hpdir := State.endWalk_pdir (s.writeMark addr word).grantWalker w o
      have hmemory := congrArg Pdir.memory hpdir
      have hwalk := congrArg Pdir.walk hpdir
      refine ⟨hmemory, hwalk, ?_⟩
      exact s.endWalk_ended { (s.writeMark addr word).pdir with lastSide := .walker } w o

end Sys2Proof.Machine
end

section
/-! SUPPORT. The point cache: what a matching, a load and a flush leave in each way of each set. -/

namespace Sys2Proof.Machine

/-! ### Matching (R52, R56) -/

theorem CacheEntry.serves_iff {e : CacheEntry} {seat : Seat} {p : Point} :
    e.serves seat p = true ↔ e.point = p ∧ (e.seat = seat ∨ e.global = true) := by
  simp [CacheEntry.serves]

/-- R56: what a load replaces, in one formula for global and non-global entries. -/
theorem CacheEntry.replaces_iff {new old : CacheEntry} : new.replaces old = true ↔
    old.point = new.point ∧ (new.global = true ∨ old.global = true ∨ old.seat = new.seat) := by
  unfold CacheEntry.replaces
  split
  · next hg => simp [hg]
  · next hg => simp [CacheEntry.serves_iff, hg, or_comm]

/-- R56: a load replaces every entry that could match a request the new one matches. -/
theorem CacheEntry.replaces_of_serves {new old : CacheEntry} {seat : Seat} {p : Point}
    (hnew : new.serves seat p = true) (hold : old.serves seat p = true) : new.replaces old = true := by
  obtain ⟨hpoint, hseat⟩ := CacheEntry.serves_iff.1 hnew
  obtain ⟨hpoint', hseat'⟩ := CacheEntry.serves_iff.1 hold
  refine CacheEntry.replaces_iff.2 ⟨hpoint'.trans hpoint.symm, ?_⟩
  rcases hseat with hs | hg
  · rcases hseat' with hs' | hg'
    · exact .inr (.inr (hs'.trans hs.symm))
    · exact .inr (.inl hg')
  · exact .inl hg

theorem CacheEntry.serves_self (e : CacheEntry) : e.serves e.seat e.point = true :=
  CacheEntry.serves_iff.2 ⟨rfl, .inl rfl⟩

/-! ### The ways of a set -/

theorem CacheSet.mem_waysWhere {c : CacheSet} {f : CacheEntry → Bool} {i : Fin 4} :
    i ∈ c.waysWhere f ↔ ∃ e, c.ways.read i = some e ∧ f e = true := by
  rw [CacheSet.waysWhere, List.mem_filter]
  cases c.ways.read i <;> simp

/-- The ways come in rising order, so the first of them is the lowest. -/
theorem CacheSet.waysWhere_head {c : CacheSet} {f : CacheEntry → Bool} {i : Fin 4} {l : List (Fin 4)}
    (h : c.waysWhere f = i :: l) : i ∈ c.waysWhere f ∧ ∀ j, j < i → j ∉ c.waysWhere f := by
  refine ⟨h ▸ List.mem_cons_self, fun j hj hmem => ?_⟩
  have hsorted : (c.waysWhere f).Pairwise (· < ·) := (List.pairwise_lt_finRange 4).filter _
  rw [h] at hsorted hmem
  rcases List.mem_cons.1 hmem with rfl | hmem
  · exact lt_irrefl _ hj
  · exact lt_asymm hj ((List.pairwise_cons.1 hsorted).1 j hmem)

/-- R52: a lookup finds the one matching entry of a set. -/
theorem CacheSet.lookup_of_unique {c : CacheSet} {seat : Seat} {p : Point} {way : Fin 4} {e : CacheEntry}
    (he : c.ways.read way = some e) (hs : e.serves seat p = true)
    (hone : ∀ way' e', c.ways.read way' = some e' → e'.serves seat p = true → way' = way) :
    c.lookup seat p = some e := by
  have hmem : way ∈ c.waysWhere fun e => e.serves seat p := CacheSet.mem_waysWhere.2 ⟨e, he, hs⟩
  unfold CacheSet.lookup
  split
  · next hnil => simp [hnil] at hmem
  · next i l hcons =>
    obtain ⟨e', he', hs'⟩ := CacheSet.mem_waysWhere.1 (CacheSet.waysWhere_head hcons).1
    rw [hone i e' he' hs', he]

/-! ### Loads (R56) -/

/-- R56: what a load leaves in each way. -/
theorem CacheSet.load_read (c : CacheSet) (new : CacheEntry) (way : Fin 4) : (c.load new).ways.read way =
    if way = c.loadWay new then some new else (c.ways.read way).filter fun e => !new.replaces e := by
  rw [CacheSet.load, Bank.read_write, CacheSet.drop_read]
  exact if_congr eq_comm rfl rfl

/-- R56: a load leaves the new entry and, in other ways, entries that it does not replace. -/
theorem CacheSet.load_cases {c : CacheSet} {new e : CacheEntry} {way : Fin 4}
    (h : (c.load new).ways.read way = some e) : way = c.loadWay new ∧ e = new ∨
      way ≠ c.loadWay new ∧ c.ways.read way = some e ∧ new.replaces e = false := by
  rw [CacheSet.load_read] at h
  split at h
  · next hway => exact .inl ⟨hway, (Option.some.inj h).symm⟩
  · next hway =>
    obtain ⟨he, hkept⟩ := Option.filter_eq_some_iff.1 h
    exact .inr ⟨hway, he, by simpa using hkept⟩

/-- R56: where a load replaces entries, it is written in the lowest way of one. -/
theorem CacheSet.loadWay_of_replaced {c : CacheSet} {new : CacheEntry} (h : ∃ i, i ∈ c.waysWhere new.replaces) :
    c.loadWay new ∈ c.waysWhere new.replaces ∧ ∀ i, i < c.loadWay new → i ∉ c.waysWhere new.replaces := by
  unfold CacheSet.loadWay
  split
  · next hcons => exact CacheSet.waysWhere_head hcons
  · next hnil =>
    obtain ⟨i, hi⟩ := h
    simp [hnil] at hi

/-- R56: where a load replaces no entry, it is written in the lowest invalid way, or in the victim's. -/
theorem CacheSet.loadWay_of_none {c : CacheSet} {new : CacheEntry} (h : ∀ i, i ∉ c.waysWhere new.replaces) :
    c.loadWay new = ((List.finRange 4).find? fun i => (c.ways.read i).isNone).getD c.victim := by
  rw [CacheSet.loadWay, List.eq_nil_iff_forall_not_mem.2 h]
  dsimp only
  split
  · next hfind => rw [hfind, Option.getD_some]
  · next hfind => rw [hfind, Option.getD_none]

/-- R56: a load of a set that has an invalid way, and no entry to replace. -/
theorem CacheSet.loadWay_of_free {c : CacheSet} {new : CacheEntry} (h : ∀ i, i ∉ c.waysWhere new.replaces)
    (hfree : ∃ i, c.ways.read i = none) :
    c.ways.read (c.loadWay new) = none ∧ ∀ i, i < c.loadWay new → c.ways.read i ≠ none := by
  rw [CacheSet.loadWay_of_none h]
  cases hfind : (List.finRange 4).find? fun i => (c.ways.read i).isNone with
  | some way =>
    obtain ⟨hway, hlow⟩ := find?_finRange_eq_some.1 hfind
    exact ⟨by simpa using hway, fun i hi => by simpa [Option.isSome_iff_ne_none] using hlow i hi⟩
  | none =>
    obtain ⟨i, hi⟩ := hfree
    exact absurd hi (by simpa using List.find?_eq_none.1 hfind i (List.mem_finRange i))

/-- R56: a load of a full set with no entry to replace. -/
theorem CacheSet.loadWay_of_full {c : CacheSet} {new : CacheEntry} (h : ∀ i, i ∉ c.waysWhere new.replaces)
    (hfull : ∀ i, c.ways.read i ≠ none) : c.loadWay new = c.victim := by
  rw [CacheSet.loadWay_of_none h, List.find?_eq_none.2 fun i _ => by simpa using hfull i, Option.getD_none]

theorem Pcache.load_sets (c : Pcache) (new : CacheEntry) (i : Fin 8) : (c.load new).sets.read i =
    if i = cacheSetOf new.point then (c.sets.read i).load new else c.sets.read i := by
  rw [Pcache.load, Bank.read_update]

/-- R52, R56: a lookup of its seat and point finds the entry loaded last. -/
theorem Pcache.lookup_load (c : Pcache) (e : CacheEntry) : (c.load e).lookup e.seat e.point = some e := by
  have hset := c.load_sets e (cacheSetOf e.point)
  rw [if_pos rfl] at hset
  rw [Pcache.lookup, hset]
  refine CacheSet.lookup_of_unique (way := (c.sets.read (cacheSetOf e.point)).loadWay e) ?_ e.serves_self
    fun way' e' he' hs' => ?_
  · rw [CacheSet.load_read, if_pos rfl]
  · rcases CacheSet.load_cases he' with ⟨hway, -⟩ | ⟨-, -, hkept⟩
    · exact hway
    · rw [CacheEntry.replaces_of_serves e.serves_self hs'] at hkept
      cases hkept

/-! ### Flushes (R58) -/

theorem Pcache.flushSeat_ways (c : Pcache) (seat : Seat) (i : Fin 8) (way : Fin 4) :
    ((c.flushSeat seat).sets.read i).ways.read way =
      ((c.sets.read i).ways.read way).filter fun e => !(e.seat == seat && !e.global) := by
  rw [Pcache.flushSeat, Bank.read_fill, CacheSet.drop_read]

theorem Pcache.flushSeat_victim (c : Pcache) (seat : Seat) (i : Fin 8) :
    ((c.flushSeat seat).sets.read i).victim = (c.sets.read i).victim := by
  rw [Pcache.flushSeat, Bank.read_fill]
  rfl

theorem Pcache.flushAll_ways (c : Pcache) (i : Fin 8) (way : Fin 4) :
    (c.flushAll.sets.read i).ways.read way = none := by
  rw [Pcache.flushAll, Bank.read_fill, CacheSet.drop_read]
  simp

theorem Pcache.flushAll_victim (c : Pcache) (i : Fin 8) :
    (c.flushAll.sets.read i).victim = (c.sets.read i).victim := by
  rw [Pcache.flushAll, Bank.read_fill]
  rfl

/-- A way from which the entries that satisfy `f` go is invalid where each of its entries does, and keeps its entry
where that does not. -/
theorem filter_gone {o o' : Option CacheEntry} {f : CacheEntry → Bool} {gone : CacheEntry → Prop}
    (hf : ∀ e, o = some e → (f e = true ↔ gone e)) (h : o' = o.filter fun e => !f e) :
    (o' = none ↔ ∀ e, o = some e → gone e) ∧ ∀ e, o = some e → ¬gone e → o' = some e := by
  subst h
  refine ⟨?_, fun e he hkept => Option.filter_eq_some_iff.2 ⟨he, ?_⟩⟩
  · rw [Option.filter_eq_none_iff]
    exact forall₂_congr fun e he => by simpa using hf e he
  · rw [← hf e he] at hkept
    simpa using hkept

section
variable {s : State} {seat named : Seat} {r : Request} (h : s.serves seat .flush r)
include h

/-- R57, R58, R60: a FLUSH ALL of the service seat. -/
theorem exec_flushAll (hf : flushForm r = 2) (hs : seat = serviceSeat) : exec (.flushAll seat) s = .next
    (State.answer (State.markNoLoad { s with pcache := s.pcache.flushAll } fun _ => true) seat r .done []) := by
  show execFlushAll seat s = _
  rw [execFlushAll, State.onFlush_of_serves h hf, if_neg (by simp [hs])]

variable (hn : flushSeatNamed r = named.val) (hs : seat = serviceSeat ∨ named = seat)
include hn hs

omit h in
/-- R57: a FLUSH that names a seat it may name. -/
theorem State.flushNamed_allowed (f : Seat → State) : s.flushNamed seat r f = (f named).answer seat r .done [] := by
  have hmay : ¬(seat ≠ serviceSeat ∧ flushSeatNamed r ≠ seat.val) := by
    rintro ⟨hbus, hother⟩
    rcases hs with hs | rfl
    · exact hbus hs
    · exact hother hn
  rw [State.flushNamed, if_neg hmay, hn]
  simp only [index?_val]

theorem exec_flushPoint (hf : flushForm r = 0) : exec (.flushPoint seat) s = .next
    (State.answer (State.markNoLoad { s with pcache := s.pcache.flushPoint named (wordPoint (r.word 1)) }
      fun w => w.point == wordPoint (r.word 1)) seat r .done []) := by
  show execFlushPoint seat s = _
  rw [execFlushPoint, State.onFlush_of_serves h hf, State.flushNamed_allowed hn hs]

theorem exec_flushSeat (hf : flushForm r = 1) : exec (.flushSeat seat) s = .next
    (State.answer (State.markNoLoad { s with pcache := s.pcache.flushSeat named } fun w => w.seat == named)
      seat r .done []) := by
  show execFlushSeat seat s = _
  rw [execFlushSeat, State.onFlush_of_serves h hf, State.flushNamed_allowed hn hs]

end

/-- Settles O24: a flush drops entries way by way, and a load writes the way that R56 gives. -/
theorem cacheLoadsAndFlushesExactly : Obligations.CacheLoadsAndFlushesExactly := by
  refine ⟨fun s seat named r h hn hs => ⟨fun hf => ?seat, fun hf hservice => ?all, fun hf hsets => ?point⟩,
    fun c e => ⟨c.lookup_load e, rfl, fun i hi => ?other, fun i => ?victim, ?load⟩⟩
  case seat =>
    refine ⟨_, exec_flushSeat h hn hs hf, fun i way => filter_gone (fun e _ => ?_)
      (s.pcache.flushSeat_ways named i way), s.pcache.flushSeat_victim named, rfl, rfl⟩
    simp
  case all =>
    have hnone := s.pcache.flushAll_ways
    exact ⟨_, exec_flushAll h hf hservice, fun i way => ⟨⟨fun _ _ _ => trivial, fun _ => hnone i way⟩,
      fun _ _ hkept => absurd trivial hkept⟩, s.pcache.flushAll_victim, rfl, rfl⟩
  case point =>
    refine ⟨_, exec_flushPoint h hn hs hf, fun i way => filter_gone (fun e he => ?_)
      (s.pcache.invalidate_ways named (wordPoint (r.word 1)) i way), s.pcache.invalidate_victim _ _, rfl, rfl⟩
    have hset := hsets i way e he
    simp only [Bool.and_eq_true, Bool.or_eq_true, beq_iff_eq, and_assoc]
    exact ⟨fun ⟨_, hgone⟩ => hgone, fun hgone => ⟨hset hgone.1, hgone⟩⟩
  case other => rw [Pcache.load_sets, if_neg hi]
  case victim =>
    rw [Pcache.load_sets]
    split
    · rfl
    · rfl
  case load =>
    intro was now replaced free
    have hnow : now = was.load e := (c.load_sets e _).trans (if_pos rfl)
    have hreplaced : ∀ i, replaced i ↔ i ∈ was.waysWhere e.replaces := fun i => by
      simp only [CacheSet.mem_waysWhere, CacheEntry.replaces_iff, replaced]
    simp only [hreplaced, free, hnow]
    refine ⟨was.loadWay e, CacheSet.loadWay_of_replaced, CacheSet.loadWay_of_free, CacheSet.loadWay_of_full, ?_,
      fun i hi => ?_⟩
    · rw [CacheSet.load_read, if_pos rfl]
    · rw [CacheSet.load_read, if_neg hi, CacheSet.mem_waysWhere]
      cases was.ways.read i <;> simp [Option.filter]

end Sys2Proof.Machine
end

section
/-! SUPPORT. What a step can do to directory memory and to the cache: it writes at most one word, and loads at most one
walk's translation. -/

namespace Sys2Proof.Machine

/-! ### The changes -/

/-- What a step can do to directory memory: nothing, one write, or the erasing of the power-on reset (R24). -/
inductive DirMemoryStep (m : DirMemory) : DirMemory → Prop
  | same : DirMemoryStep m m
  | write (addr : DirAddr) (word : DirWord) : DirMemoryStep m (memWrite m addr.toNat word)
  | erase : DirMemoryStep m []

/-- What a step can do to the cache: it loads a walk's translation (R55), or leaves in each way the entry that stood
there, or none. -/
inductive PcacheStep (c : Pcache) : Pcache → Prop
  | keep {c' : Pcache} (h : ∀ i way e, (c'.sets.read i).ways.read way = some e →
      (c.sets.read i).ways.read way = some e) : PcacheStep c c'
  | load (seat : Seat) (p : Point) (f : Found) : PcacheStep c (c.load (entryOf seat p f))

/-- What a step can do to the directory's memory and to the cache. -/
structure State.DirStep (s t : State) : Prop where
  memory : DirMemoryStep s.pdir.memory t.pdir.memory
  cache : PcacheStep s.pcache t.pcache

theorem DirMemoryStep.of_eq {m m' : DirMemory} (h : m' = m) : DirMemoryStep m m' := h ▸ .same

theorem PcacheStep.of_eq {c c' : Pcache} (h : c' = c) : PcacheStep c c' := .keep fun _ _ _ he => h ▸ he

/-- An operation beside the directory. -/
theorem State.DirStep.same {s t : State} (memory : t.pdir.memory = s.pdir.memory := by simp)
    (cache : t.pcache = s.pcache := by simp) : s.DirStep t := ⟨.of_eq memory, .of_eq cache⟩

theorem State.DirStep.refl (s : State) : s.DirStep s := .same

/-- A change of the directory, followed by an operation beside it. -/
theorem State.DirStep.andThen {s t u : State} (h : s.DirStep t)
    (memory : u.pdir.memory = t.pdir.memory := by simp) (cache : u.pcache = t.pcache := by simp) : s.DirStep u :=
  ⟨memory ▸ h.memory, cache ▸ h.cache⟩

/-! ### What the cache takes -/

theorem PcacheStep.hit (c : Pcache) (p : Point) : PcacheStep c (c.hit p) := .keep fun i way e he => by
  rw [Pcache.hit_sets] at he
  split at he
  · exact he
  · exact he

theorem PcacheStep.invalidate (c : Pcache) (seat : Seat) (p : Point) : PcacheStep c (c.invalidate seat p) :=
  .keep fun i way e he => by
    rw [Pcache.invalidate_ways] at he
    exact (Option.filter_eq_some_iff.1 he).1

theorem PcacheStep.flushSeat (c : Pcache) (seat : Seat) : PcacheStep c (c.flushSeat seat) :=
  .keep fun i way e he => by
    rw [Pcache.flushSeat_ways] at he
    exact (Option.filter_eq_some_iff.1 he).1

theorem PcacheStep.flushAll (c : Pcache) : PcacheStep c c.flushAll :=
  .keep fun i way e he => by simp [Pcache.flushAll_ways] at he

theorem PcacheStep.powerOn (c : Pcache) : PcacheStep c Pcache.powerOn :=
  .keep fun i way e he => by simp [Pcache.powerOn] at he

/-- R54, R55, R61: a walk's end loads its translation, invalidates the entries of its re-walk, or does neither. -/
theorem PcacheStep.takeWalk (c : Pcache) (w : Walk) (o : WalkOutcome) : PcacheStep c (c.takeWalk w o) := by
  by_cases h : (∀ f, o ≠ .found f) ∨ w.noLoad = true
  · rw [c.takeWalk_of_noLoad h]
    split
    · exact .invalidate c ..
    · exact .of_eq rfl
  · obtain ⟨hfound, hload⟩ := not_or.1 h
    obtain ⟨f, hf⟩ := not_forall.1 hfound
    obtain rfl := not_not.1 hf
    rw [(c.takeWalk_takes w _).1 f rfl (by simpa using hload)]
    exact .load w.seat w.point f

/-! ### Requests and writes, whatever they are asked to keep -/

/-- A step of a kind acts on a request in service, or leaves the state. -/
theorem State.onRequest_of {P : State → Prop} {s : State} {seat : Seat} {k : Kind} {f : Request → State} (h0 : P s)
    (h : ∀ r, P (f r)) : P (s.onRequest seat k f) := by
  unfold State.onRequest
  split
  · split
    · exact h _
    · exact h0
  · exact h0

/-- Where a write is accepted, the state it leaves has a property. -/
def Verdict.Leaves (P : State → Prop) (v : Verdict) : Prop := ∀ t, v = .accepted t → P t

section
variable {P : State → Prop}

theorem Verdict.Leaves.refused {c : Code} : (Verdict.refused c).Leaves P := by rintro t ⟨⟩

theorem Verdict.Leaves.accepted {t : State} (h : P t) : (Verdict.accepted t).Leaves P := by
  rintro t' ⟨⟩
  exact h

theorem Verdict.Leaves.ite {c : Prop} [Decidable c] {v v' : Verdict} (h : v.Leaves P) (h' : v'.Leaves P) :
    (if c then v else v').Leaves P := by
  split
  · exact h
  · exact h'

theorem Verdict.Leaves.fields {α : Type} {p : Option α} {f : α → Verdict} (h : ∀ a, (f a).Leaves P) :
    (Verdict.fields p f).Leaves P := by
  unfold Verdict.fields
  split
  · exact h _
  · exact .refused

theorem Verdict.Leaves.asService {seat : Seat} {v : Verdict} (h : v.Leaves P) : (Machine.asService seat v).Leaves P :=
  .ite h .refused

theorem Verdict.Leaves.asEditor {s : State} {seat : Seat} {v : Verdict} (h : v.Leaves P) :
    (s.asEditor seat v).Leaves P := .ite h .refused

theorem Verdict.Leaves.settingsWrite {s t : State} {c : OutCh} (h : P t) : (s.settingsWrite c t).Leaves P :=
  .ite .refused (.ite .refused (.accepted h))

theorem Verdict.Leaves.circuitWrite {s : State} {seat : Seat} {n : CircuitNo} {v : Verdict} (h : v.Leaves P) :
    (s.circuitWrite seat n v).Leaves P := .asEditor (.ite .refused h)

/-- A CONFIG_WRITE step answers a refusal, or the state that an accepted write leaves. -/
theorem State.onWrite_of {s : State} {seat : Seat} {pick : Item → Request → Option Verdict} (h0 : P s)
    (hrefused : ∀ r c, P (s.answer seat r c []))
    (h : ∀ i r v, pick i r = some v → v.Leaves fun t => P (t.answer seat r .done [])) : P (s.onWrite seat pick) := by
  refine State.onRequest_of h0 fun r => ?_
  split
  · next v hv =>
    obtain ⟨i, -, hi⟩ := Option.bind_eq_some_iff.1 hv
    cases v with
    | refused c => exact hrefused r c
    | accepted t => exact h i r _ hi t rfl
  · exact h0

end

/-! ### Walks -/

section
variable (s : State)

theorem State.finishAccess_pcache (a : Access) (seat : Seat) (r : Request) (t : Translation) :
    (s.finishAccess a seat r t).pcache = s.pcache := by
  cases a with
  | set => simp only [State.finishAccess, State.finishSet]; (repeat' split) <;> simp
  | release => simp only [State.finishAccess, State.finishRelease]; split <;> simp
  | read => simp [State.finishAccess, State.finishRead]

theorem State.deliver_pcache (w : Walk) (o : WalkOutcome) : (s.deliver w o).pcache = s.pcache := by
  unfold State.deliver
  split
  · rfl
  · split
    · exact State.finishAccess_pcache ..
    all_goals exact State.answer_pcache ..

/-- R54, R55: the end of a walk leaves the cache with what it takes of the walk. -/
theorem State.endWalk_pcache (w : Walk) (o : WalkOutcome) : (s.endWalk w o).pcache = s.pcache.takeWalk w o := by
  have heq : s.endWalk w o = _ := s.endWalk_eq s.pdir w o
  rw [heq, State.settleArbiter_pcache, State.deliver_pcache]
  rfl

@[simp] theorem State.markNoLoad_memory (p : Walk → Bool) : (s.markNoLoad p).pdir.memory = s.pdir.memory := rfl

@[simp] theorem State.grantWalker_memory : s.grantWalker.pdir.memory = s.pdir.memory := rfl

theorem State.DirStep.writeMark (addr : DirAddr) (word : DirWord) : s.DirStep (s.writeMark addr word) :=
  ⟨.write addr word, .of_eq rfl⟩

end

section
variable {s t : State}

/-- A step that has left the cache as it was ends its walk. -/
theorem State.DirStep.endWalk (h : s.DirStep t) (cache : t.pcache = s.pcache) (w : Walk) (o : WalkOutcome) :
    s.DirStep (t.endWalk w o) := by
  refine ⟨?_, ?_⟩
  · rw [State.endWalk_pdir]
    exact h.memory
  · rw [State.endWalk_pcache, cache]
    exact .takeWalk ..

theorem State.DirStep.walkOn (h : s.DirStep t) (cache : t.pcache = s.pcache) (w : Walk) (next : WalkNext) :
    s.DirStep (t.walkOn w next) := by
  cases next with
  | toGroup base | toPoint base | toLink base => exact h.andThen rfl rfl
  | finish o => exact h.endWalk cache w o

variable (s)

theorem State.DirStep.walkRead (w : Walk) (level : DirLevel) (addr : DirAddr) :
    s.DirStep (s.walkRead w level addr) := by
  unfold State.walkRead
  dsimp only
  split
  · exact State.DirStep.walkOn (s := s) (t := s.grantWalker) .same rfl _ _
  · exact .same

theorem State.DirStep.resolve (a : Access) (seat : Seat) (r : Request) : s.DirStep (s.resolve a seat r) := by
  have hhit : s.DirStep { s with pcache := s.pcache.hit (wordPoint (r.word 0)) } := ⟨.same, .hit ..⟩
  have hfinish : ∀ (t : State) tr, t.DirStep (t.finishAccess a seat r tr) := fun t tr =>
    .same (by rw [State.finishAccess_pdir]) (State.finishAccess_pcache ..)
  unfold State.resolve
  dsimp only
  split
  · split
    · exact .same
    · exact hfinish ..
  · split
    · split
      · split
        · exact hhit.andThen
        · split
          · exact hhit.andThen
          · exact hhit.andThen (by rw [State.finishAccess_pdir]) (State.finishAccess_pcache ..)
      · exact .same
    · exact .same

variable {s}

/-- R31, R44: a grant ends a walk or begins one, and writes no word. -/
theorem State.DirStep.walkGrant (h : execWalkGrant s = .next t) : s.DirStep t := by
  cases h
  split
  · exact .same
  · split
    · exact .same
    · next seat _ =>
      dsimp only
      split
      · exact .same
      · split
        · split
          · split
            · exact .same
            · exact State.DirStep.endWalk (s := s) (t := s.granted seat) (.same rfl rfl) rfl _ _
          · exact .same
        all_goals exact .same

/-- R40: a mark write writes its word, and may end the walk. -/
theorem State.DirStep.walkMarkWrite (h : execWalkMarkWrite s = .next t) : s.DirStep t := by
  cases h
  split
  · split
    · next addr word next _ =>
      split
      · exact ((State.DirStep.writeMark s addr word).andThen (u := (s.writeMark addr word).grantWalker)).walkOn rfl _ _
      · exact .same
    all_goals exact .same
  · exact .same

/-! ### The memory port and the warm restart -/

theorem State.DirStep.directoryAccess (seat : Seat) (r : Request) (data : Option DirWord) :
    s.DirStep (s.directoryAccess seat r data) := by
  unfold State.directoryAccess
  split
  · exact .same
  · split
    · exact .same
    · dsimp only
      split
      · exact .same
      · exact .same

/-- R42: the grant of a write writes its word, and that of a read nothing. -/
theorem State.DirStep.dirPortGrant (h : execDirPortGrant s = .next t) : s.DirStep t := by
  cases h
  split
  · split
    · exact .same
    · split
      · exact .same
      · next addr data _ =>
        dsimp only
        split
        · exact .same
        · next word _ =>
          exact (State.DirStep.writeMark s addr word).andThen (by simp [State.writeMark]) (by simp [State.writeMark])
  · exact .same

/-- R46, R157: a restart completes the mark write of a walk that stands before one, and keeps the cache. -/
theorem State.DirStep.warmRestart (s : State) : s.DirStep s.warmRestart := by
  obtain ⟨-, hpdir, hpcache, -⟩ := s.warmRestart_frame
  refine ⟨?_, .of_eq hpcache⟩
  rw [hpdir, Pdir.restart]
  dsimp only
  split
  · split
    · exact .write ..
    all_goals exact .same
  · exact .same

end
end Sys2Proof.Machine
end

section
/-! SUPPORT. Every command changes the directory's memory and the cache by one such step at most. -/

namespace Sys2Proof.Machine

section
variable {s t : State} {seat : Seat}

/-! ### Requests -/

theorem State.DirStep.answer {r : Request} {c : Code} {p : List Word} (h : s.DirStep t) :
    s.DirStep (t.answer seat r c p) := h.andThen

theorem State.DirStep.onRequest {k : Kind} {f : Request → State} (h : ∀ r, s.DirStep (f r)) :
    s.DirStep (s.onRequest seat k f) := State.onRequest_of (.refl s) h

theorem State.DirStep.onFlush {form : Nat} {f : Request → State} (h : ∀ r, s.DirStep (f r)) :
    s.DirStep (s.onFlush seat form f) := by
  refine .onRequest fun r => ?_
  split
  · exact h r
  · split
    · exact .same
    · exact .same

theorem State.DirStep.flushNamed {r : Request} {f : Seat → State} (h : ∀ q, s.DirStep (f q)) :
    s.DirStep (s.flushNamed seat r f) := by
  unfold State.flushNamed
  split
  · exact .same
  · split
    · exact .same
    · exact (h _).answer

theorem State.DirStep.onScan {form : Nat} {f : Request → State} (h : ∀ r, s.DirStep (f r)) :
    s.DirStep (s.onScan seat form f) := by
  refine .onRequest fun r => ?_
  dsimp only
  split
  · split
    · exact .same
    · split
      · exact h r
      · exact .same
  · exact .same

theorem State.DirStep.startScan (mode : ScanMode) (r : Request) : s.DirStep (s.startScan seat mode r) := by
  unfold State.startScan
  split
  · exact .same
  · exact .same

theorem State.DirStep.onCircuit {form : Nat} {f : Request → CircuitNo → State} (h : ∀ r n, s.DirStep (f r n)) :
    s.DirStep (s.onCircuit seat form f) := by
  refine .onRequest fun r => ?_
  dsimp only
  split
  · split
    · exact .same
    · split
      · exact .same
      · split
        · exact h r _
        · exact .same
  · exact .same

theorem State.DirStep.setDirectory (r : Request) (isOpen : Bool) : s.DirStep (s.setDirectory seat r isOpen) := by
  unfold State.setDirectory
  split
  · exact .same
  · exact .same

theorem State.DirStep.releaseLockout (h : execReleaseLockout seat s = .next t) : s.DirStep t := by
  cases h
  refine .onRequest fun r => ?_
  split
  · exact .same
  · split
    · exact .same
    · dsimp only
      split
      · split
        · exact .same
        · exact .same
      · exact .same

theorem State.DirStep.onWrite {pick : Item → Request → Option Verdict}
    (h : ∀ i r v, pick i r = some v → v.Leaves fun t => s.DirStep (t.answer seat r .done [])) :
    s.DirStep (s.onWrite seat pick) := State.onWrite_of (.refl s) (fun _ _ => .same) h

theorem State.DirStep.onPairWrite {sort : PairChange} {f : PairNo → PairFields → Verdict}
    (h : ∀ r k x, (f k x).Leaves fun t => s.DirStep (t.answer seat r .done [])) :
    s.DirStep (s.onPairWrite seat sort f) := by
  refine .onWrite fun i r v hv => ?_
  split at hv
  · split at hv <;> cases hv
    exact .asEditor (.fields fun x => h r _ x)
  · cases hv

/-! ### What a write leaves -/

@[simp] theorem State.setRanks_directory (s : State) (ranks : Bank Seat 4) :
    (s.setRanks ranks).pdir = s.pdir ∧ (s.setRanks ranks).pcache = s.pcache := by simp [State.setRanks]

@[simp] theorem State.setOrphanLimit_directory (s : State) (limit : Nat) :
    (s.setOrphanLimit limit).pdir = s.pdir ∧ (s.setOrphanLimit limit).pcache = s.pcache := by
  unfold State.setOrphanLimit
  dsimp only
  split <;> simp

@[simp] theorem State.setLimits_directory (s : State) (c : OutCh) (lo hi : Nat) :
    (s.setLimits c lo hi).pdir = s.pdir ∧ (s.setLimits c lo hi).pcache = s.pcache := by simp [State.setLimits]

@[simp] theorem State.setFallback_directory (s : State) (c : OutCh) (mode : FallbackMode) (v : Nat) :
    (s.setFallback c mode v).pdir = s.pdir ∧ (s.setFallback c mode v).pcache = s.pcache := by simp [State.setFallback]

@[simp] theorem State.setDefaultHold_directory (s : State) (c : OutCh) (hold : Nat) :
    (s.setDefaultHold c hold).pdir = s.pdir ∧ (s.setDefaultHold c hold).pcache = s.pcache := by simp [State.setDefaultHold]

@[simp] theorem State.setPulse_directory (s : State) (n : PulseCh) (f : PulseFields) :
    (s.setPulse n f).pdir = s.pdir ∧ (s.setPulse n f).pcache = s.pcache := by
  unfold State.setPulse
  dsimp only
  split <;> simp

@[simp] theorem State.setOutputs_directory (s : State) (n : CircuitNo) (f : OutputFields) :
    (s.setOutputs n f).pdir = s.pdir ∧ (s.setOutputs n f).pcache = s.pcache := by simp [State.setOutputs]

@[simp] theorem State.setFlow_directory (s : State) (n : CircuitNo) (f : Option (PulseCh × Nat)) :
    (s.setFlow n f).pdir = s.pdir ∧ (s.setFlow n f).pcache = s.pcache := by simp [State.setFlow]

/-- R28, R59: an accepted root write flushes the seat's entries. -/
theorem State.DirStep.setRoot (named : Seat) (root : Root) : s.DirStep (s.setRoot named root) :=
  ⟨.same, .flushSeat ..⟩

/-- R47: a window write leaves every entry. -/
theorem State.DirStep.setWindow (windows : Bank Window 2) :
    s.DirStep { s with pcache := { s.pcache with windows := windows } } := ⟨.same, .keep fun _ _ _ he => he⟩

theorem Verdict.Leaves.shutoffWrite {r : Request} (ch : Fin 64) (f : ShutoffFields) :
    (s.shutoffWrite ch f).Leaves fun t => s.DirStep (t.answer seat r .done []) := by
  unfold State.shutoffWrite
  split
  · exact .refused
  · exact .ite .refused (.ite .refused (.ite .refused (.accepted .same)))

theorem State.DirStep.configWriteRosterEntry (h : execConfigWriteRosterEntry seat s = .next t) : s.DirStep t := by
  cases h
  refine .onWrite fun i r v hv => ?_
  split at hv <;> cases hv
  exact .asService (.fields fun e => .ite .refused (.ite .refused (.accepted .same)))

/-- R24, R46: the power-on reset erases directory memory and empties the cache. -/
theorem State.DirStep.powerOn (st : Straps) (emergencyIn : Bool) (pending : List Instr) (moment : Nat) :
    s.DirStep (State.powerOn st emergencyIn pending moment) := by
  refine ⟨?_, ?_⟩
  · simp only [State.powerOn]
    exact .erase
  · simp only [State.powerOn]
    exact .powerOn _

/-! ### Measurement -/

@[simp] theorem State.evaluateGuarding_pdir (s : State) (c : SensorCh) : (s.evaluateGuarding c).pdir = s.pdir :=
  foldl_frame (·.pdir) _ (fun s n => by split <;> simp) _ s

@[simp] theorem State.evaluateGuarding_pcache (s : State) (c : SensorCh) :
    (s.evaluateGuarding c).pcache = s.pcache :=
  foldl_frame (·.pcache) _ (fun s n => by split <;> simp) _ s

@[simp] theorem State.completeConversion_pdir (s : State) (v : Conversion) (o : ConversionOutcome) :
    (s.completeConversion v o).pdir = s.pdir := by simp [State.completeConversion]

@[simp] theorem State.completeConversion_pcache (s : State) (v : Conversion) (o : ConversionOutcome) :
    (s.completeConversion v o).pcache = s.pcache := by simp [State.completeConversion]

end

/-! ### Every command -/

/-- Every command takes at most one step at the directory's memory and at most one at the cache. -/
theorem exec_dirStep {i : Instr} {s t : State} (h : exec i s = .next t) : s.DirStep t := by
  cases i with
  | set | release | read => cases h; exact .onRequest fun r => .resolve s ..
  | flushPoint =>
    cases h
    exact .onFlush fun r => .flushNamed fun q => ⟨.same, .invalidate ..⟩
  | flushSeat =>
    cases h
    exact .onFlush fun r => .flushNamed fun q => ⟨.same, .flushSeat ..⟩
  | flushAll =>
    cases h
    refine .onFlush fun r => ?_
    split
    · exact .same
    · exact State.DirStep.answer ⟨.same, .flushAll _⟩
  | dirRead | dirWrite => cases h; exact .onRequest fun r => .directoryAccess ..
  | dirPortGrant => exact .dirPortGrant h
  | configWriteRoot =>
    cases h
    refine .onWrite fun i r v hv => ?_
    split at hv <;> cases hv
    exact .asService (.fields fun root => .accepted (State.DirStep.setRoot ..).answer)
  | configWriteWindow =>
    cases h
    refine .onWrite fun i r v hv => ?_
    split at hv <;> cases hv
    exact .asService (.fields fun w => .accepted (State.DirStep.setWindow ..).answer)
  | walkGrant => exact .walkGrant h
  | walkMarkWrite => exact .walkMarkWrite h
  | walkZoneRead | walkLinkTargetRead =>
    cases h
    split
    · split
      · split
        · exact .walkRead ..
        · exact .same
      all_goals exact .same
    · exact .same
  | walkGroupRead | walkPointRead =>
    cases h
    split
    · split
      · split
        · exact (State.DirStep.refl s).endWalk rfl _ _
        · split
          · exact .walkRead ..
          · exact .same
      all_goals exact .same
    · exact .same
  | powerOnReset => rw [← Host.Outcome.next.inj h]; exact .powerOn ..
  | restartIn => rw [← Host.Outcome.next.inj h]; exact .warmRestart s
  | restartTake =>
    rw [← Host.Outcome.next.inj h]
    split
    · exact .warmRestart s
    · exact .same
  | configWriteRankTable | configWriteOrphanLimit =>
    cases h
    refine .onWrite fun i r v hv => ?_
    split at hv <;> cases hv
    exact .asService (.fields fun _ => .accepted .same)
  | configWriteRosterEntry => exact .configWriteRosterEntry h
  | configWriteEventMask =>
    cases h
    refine .onWrite fun i r v hv => ?_
    split at hv <;> cases hv
    exact .ite .refused (.fields fun _ => .accepted .same)
  | configWriteStaticLimits | configWriteFallback | configWriteDefaultHold =>
    cases h
    refine .onWrite fun i r v hv => ?_
    split at hv <;> cases hv
    exact .asEditor (.fields fun _ => .settingsWrite .same)
  | configWriteOutputPolarity | configWriteMinimumTimes =>
    cases h
    refine .onWrite fun i r v hv => ?_
    split at hv
    · obtain ⟨_, -, rfl⟩ := Option.map_eq_some_iff.1 hv
      exact .asEditor (.fields fun _ => .settingsWrite .same)
    · cases hv
  | configWritePeriod | configWriteSensorSettings | configWriteReference | configWriteScanRange | configWriteScanMode |
    configWritePulseSettings =>
    cases h
    refine .onWrite fun i r v hv => ?_
    split at hv <;> cases hv
    exact .asEditor (.fields fun _ => .accepted .same)
  | configWriteBreakpoint =>
    cases h
    refine .onWrite fun i r v hv => ?_
    split at hv <;> cases hv
    exact .asEditor (.fields fun _ => .ite .refused (.accepted .same))
  | configWriteShutoff =>
    cases h
    refine .onWrite fun i r v hv => ?_
    split at hv <;> cases hv
    exact .asEditor (.fields fun f => Verdict.Leaves.shutoffWrite _ f)
  | configWritePair | pairDissolve => cases h; exact .onPairWrite fun r k x => .ite .refused (.accepted .same)
  | pairForm => cases h; exact .onPairWrite fun r k x => .ite .refused (.ite .refused (.accepted .same))
  | configWriteCircuitSensors | configWriteCircuitOutputs | configWriteCircuitFlow | configWriteCircuitThresholds |
    configWriteCircuitTimes =>
    cases h
    refine .onWrite fun i r v hv => ?_
    split at hv <;> cases hv
    exact .circuitWrite (.fields fun _ => .accepted .same)
  | scanStart | scanSingle => cases h; exact .onScan fun r => .startScan ..
  | scanStop => cases h; exact .onScan fun r => .same
  | circuitEnable | circuitDisable =>
    cases h
    refine .onCircuit fun r n => ?_
    dsimp only
    repeat' split
    all_goals exact .same
  | hello | events | clear => cases h; exact .onRequest fun r => .same
  | openDirectory | closeDirectory => cases h; exact .onRequest fun r => .setDirectory ..
  | releaseLockout => exact .releaseLockout h
  | configRead | configWriteOther | rearm | reinstate | restart =>
    cases h
    refine .onRequest fun r => ?_
    repeat' split
    all_goals exact .same
  | pulseRisingEdge | pulseTimeoutExpiry | flowGraceExpiry | tripDwellExpiry =>
    cases h
    dsimp only
    repeat' split
    all_goals exact .same
  | busFrameReceive | serviceFrameReceive | handlerTakeHead | demandHoldExpiry | discreteMinimumReached |
    referencePhaseEnd | sensorPhaseEnd | emergencyInAssert | orphanTimerExpiry | replySentWhole =>
    cases h
    repeat' split
    all_goals exact .same
  | periodEnd | pairPermilleStep | overdriveEnd | syncEnd | deadTimeExpiry | safeEndExpiry | unsyncedSafeDriveEnd |
    emergencyInDeassert | replyTransmit | replyReadbackAbandon | serviceReplyTransmit | frameReceptionCutShort =>
    cases h
    exact .same

/-- A tick leaves the directory's memory and the cache. -/
theorem State.DirStep.tick (s : State) : s.DirStep s.tick := by
  rw [State.tick_eq]
  exact .same (by simp [State.timeBases]) (by simp [State.timeBases])

/-- Every step, of a command or of time, takes at most one step at the directory's memory and one at the cache. -/
theorem step_dirStep {s t : State} (h : step s = .next t) : s.DirStep t := by
  unfold step at h
  split at h
  · have hexec := exec_dirStep h
    exact ⟨hexec.memory, hexec.cache⟩
  · unfold State.idle at h
    split at h
    · exact exec_dirStep h
    · cases h
      exact .tick s

end Sys2Proof.Machine
end

section
/-! SUPPORT. The canonical form of directory memory and the unambiguous cache, kept by every step. -/

namespace Sys2Proof.Machine

/-- R24: what a step does to directory memory keeps its canonical form. -/
theorem DirMemoryStep.memWf {m m' : DirMemory} (h : DirMemoryStep m m') (hm : Machine.memWf m = true) :
    Machine.memWf m' = true := by
  cases h with
  | same => exact hm
  | write addr word => exact memWf_memWrite m addr word hm
  | erase => rfl

/-- R52, R55, R56: each valid entry stands in the set of its point, no global entry carries the write-guard, and no two
entries of a set match one seat and point. -/
structure CacheSet.Sound (i : Fin 8) (c : CacheSet) : Prop where
  inSet : ∀ way e, c.ways.read way = some e → cacheSetOf e.point = i
  unguarded : ∀ way e, c.ways.read way = some e → e.global = true → e.guarded = false
  one : ∀ way e way' e' seat p, c.ways.read way = some e → c.ways.read way' = some e' → e.serves seat p = true →
    e'.serves seat p = true → way = way'

theorem State.cacheUnambiguous_iff (s : State) :
    s.cacheUnambiguous ↔ ∀ i, (s.pcache.sets.read i).Sound i := by
  constructor
  · intro h i
    exact ⟨fun way e he => (h i way e he).1, fun way e he => (h i way e he).2.1,
      fun way e way' e' seat p he he' hs hs' => (h i way e he).2.2 way' e' seat p he' hs hs'⟩
  · intro h i way e he
    exact ⟨(h i).inSet way e he, (h i).unguarded way e he,
      fun way' e' seat p he' hs hs' => (h i).one way e way' e' seat p he he' hs hs'⟩

/-- A set whose ways keep their entries, or lose them, stays sound. -/
theorem CacheSet.Sound.keep {i : Fin 8} {c c' : CacheSet} (hc : c.Sound i)
    (h : ∀ way e, c'.ways.read way = some e → c.ways.read way = some e) : c'.Sound i where
  inSet way e he := hc.inSet way e (h way e he)
  unguarded way e he := hc.unguarded way e (h way e he)
  one way e way' e' seat p he he' := hc.one way e way' e' seat p (h way e he) (h way' e' he')

/-- R56: a load of an entry of the set's points keeps a set sound: what stays beside it matches no request that it
matches. -/
theorem CacheSet.Sound.load {i : Fin 8} {c : CacheSet} {new : CacheEntry} (hc : c.Sound i)
    (hpoint : cacheSetOf new.point = i) (hguard : new.global = true → new.guarded = false) : (c.load new).Sound i := by
  have hclash : ∀ {e seat p}, new.serves seat p = true → e.serves seat p = true → new.replaces e ≠ false :=
    fun hs hs' => by simp [CacheEntry.replaces_of_serves hs hs']
  refine ⟨fun way e he => ?_, fun way e he => ?_, fun way e way' e' seat p he he' hs hs' => ?_⟩
  · rcases CacheSet.load_cases he with ⟨-, rfl⟩ | ⟨-, he, -⟩
    · exact hpoint
    · exact hc.inSet way e he
  · rcases CacheSet.load_cases he with ⟨-, rfl⟩ | ⟨-, he, -⟩
    · exact hguard
    · exact hc.unguarded way e he
  · rcases CacheSet.load_cases he with ⟨hway, rfl⟩ | ⟨-, he, hkept⟩ <;>
      rcases CacheSet.load_cases he' with ⟨hway', rfl⟩ | ⟨-, he', hkept'⟩
    · exact hway.trans hway'.symm
    · exact absurd hkept' (hclash hs hs')
    · exact absurd hkept (hclash hs' hs)
    · exact hc.one way e way' e' seat p he he' hs hs'

/-- R55: a walk makes no global entry of a write-guarded point. -/
theorem entryOf_unguarded (seat : Seat) (p : Point) (f : Found) (h : (entryOf seat p f).global = true) :
    (entryOf seat p f).guarded = false := by
  simp only [entryOf, Bool.and_eq_true, Bool.not_eq_true'] at h
  exact h.1.2

/-- R52, R55, R56: what a step does to the cache keeps every set sound. -/
theorem PcacheStep.sound {c c' : Pcache} (h : PcacheStep c c') (hc : ∀ i, (c.sets.read i).Sound i) (i : Fin 8) :
    (c'.sets.read i).Sound i := by
  cases h with
  | keep h => exact (hc i).keep (h i)
  | load seat p f =>
    rw [Pcache.load_sets]
    split
    · next hi => exact (hc i).load hi.symm (entryOf_unguarded seat p f)
    · exact hc i

/-- Settles O59: a step writes at most one word and loads at most one entry, and either keeps its form. -/
theorem memoryStaysCanonical : Obligations.MemoryStaysCanonical := by
  refine ⟨fun s t hs h => (step_dirStep h).memory.memWf hs, fun s t hs h => ?_⟩
  rw [State.cacheUnambiguous_iff] at hs ⊢
  exact (step_dirStep h).cache.sound hs

end Sys2Proof.Machine
end

section
/-! SUPPORT. The arithmetic of a measurement: the temperature of a ratio, and what each outcome of a conversion makes of
a result entry. -/

namespace Sys2Proof.Machine

/-! ### Interpolation (R71) -/

/-- A floor of a proportional step lies between no step and the whole one. -/
theorem floor_step_between {d f n : Int} (hf : 0 ≤ f) (hn : f ≤ n) (hpos : 0 < n) :
    min 0 d ≤ d * f / n ∧ d * f / n ≤ max 0 d := by
  rcases le_total 0 d with hd | hd
  · rw [min_eq_left hd, max_eq_right hd]
    exact ⟨Int.ediv_nonneg (mul_nonneg hd hf) hpos.le, Int.ediv_le_of_le_mul hpos (mul_le_mul_of_nonneg_left hn hd)⟩
  · rw [min_eq_right hd, max_eq_left hd]
    exact ⟨Int.le_ediv_of_mul_le hpos (mul_le_mul_of_nonpos_left hn hd),
      Int.ediv_nonpos_of_nonpos_of_neg (mul_nonpos_of_nonpos_of_nonneg hd hf) hpos⟩

/-- A value moved by such a step stays between where it was and where the whole step leads. -/
theorem add_floor_step_between {lo hi f n : Int} (hf : 0 ≤ f) (hn : f ≤ n) (hpos : 0 < n) :
    min lo hi ≤ lo + (hi - lo) * f / n ∧ lo + (hi - lo) * f / n ≤ max lo hi := by
  have h := floor_step_between (d := hi - lo) hf hn hpos
  omega

theorem segmentOf_eq {q : Nat} {k : Fin 16} (h : q / 4096 = k.val) : segmentOf q = k := by
  refine Fin.ext ?_
  show min (q / 4096) 15 = k.val
  omega

theorem saturate_of_range {i : Int} (h1 : -32768 ≤ i) (h2 : i ≤ 32767) : saturate i = i := by
  unfold saturate
  omega

/-- Settles O41: the floor of the step lies between no step and the whole one, so the saturation changes nothing. -/
theorem temperatureInterpolates : Obligations.TemperatureInterpolates := by
  intro table q k _ hk htable lo hi
  have hf0 : 0 ≤ (q : Int) - 4096 * k.val := by omega
  have hf1 : (q : Int) - 4096 * k.val ≤ 4096 := by omega
  have hbetween := add_floor_step_between (lo := lo) (hi := hi) hf0 hf1 (by decide)
  have hlo : -32768 ≤ lo ∧ lo ≤ 32767 := htable k.castSucc
  have hhi : -32768 ≤ hi ∧ hi ≤ 32767 := htable k.succ
  have heq : linearize table q = lo + (hi - lo) * ((q : Int) - 4096 * k.val) / 4096 := by
    rw [← saturate_of_range (i := lo + (hi - lo) * ((q : Int) - 4096 * k.val) / 4096) (by omega) (by omega), linearize,
      segmentOf_eq hk]
  rw [Int.fdiv_eq_ediv_of_nonneg _ (by decide), heq]
  exact ⟨rfl, hbetween⟩

/-! ### Filter, run and validity (R72 to R75) -/

/-- R72: the filter moves toward the temperature and not past it. -/
theorem filterStep_between (f t : Int) (shift : Fin 5) :
    min f t ≤ filterStep .valid f t shift ∧ filterStep .valid f t shift ≤ max f t := by
  have hn : (1 : Int) ≤ 2 ^ shift.val := one_le_pow₀ (by decide)
  have h := add_floor_step_between (lo := f) (hi := t) (by decide) hn (by positivity)
  rwa [mul_one] at h

theorem filterStep_of_not_valid {was : Validity} (h : was ≠ .valid) (f t : Int) (shift : Fin 5) :
    filterStep was f t shift = t := by
  cases was with
  | valid => exact absurd rfl h
  | notYet | opened | short => rfl

section
variable (table : Bank Int 17) (shift : Fin 5) (r : SensorResult)

theorem SensorResult.complete_samples (o : ConversionOutcome) :
    (r.complete table shift o).samples = (r.samples + 1) % 256 := by cases o <;> rfl

/-- What R74 sets the validity to at the third bad conversion in a row. -/
def ConversionOutcome.badKind : ConversionOutcome → Validity
  | .short _ _ _ => .short
  | _ => .opened

/-- R74: a bad conversion of any kind, on all but the counts it records. -/
theorem SensorResult.complete_bad {o : ConversionOutcome} (h : ∀ a b q, o ≠ .good a b q) :
    let t := r.complete table shift o
    t.badRun = min 3 (r.badRun + 1) ∧ t.filtered = r.filtered ∧ t.temp = r.temp ∧
      t.validity = if min 3 (r.badRun + 1) = 3 then o.badKind else r.validity := by
  cases o with
  | good a b q => exact absurd rfl (h a b q)
  | refFault | openOverflow | openRatio | short => exact ⟨rfl, rfl, rfl, rfl⟩

end

/-- Settles O42: the good conversion by the filter's step, the bad ones by what any of them does. -/
theorem validityFollowsTheRun : Obligations.ValidityFollowsTheRun := by
  intro table shift r
  refine ⟨fun a b q => ⟨⟨rfl, rfl, rfl, rfl⟩, ⟨rfl, rfl, rfl, rfl⟩, ⟨rfl, rfl, rfl, rfl⟩, ⟨rfl, rfl, rfl, rfl⟩,
    ⟨rfl, rfl, rfl, rfl⟩⟩, fun a b q => ⟨rfl, rfl, rfl, fun h => ?other, fun h => ?valid⟩, fun o ho hrun => ?bad⟩
  case other => exact filterStep_of_not_valid h _ _ _
  case valid =>
    have hfiltered : (r.complete table shift (.good a b q)).filtered =
        filterStep .valid r.filtered (linearize table q) shift := by
      rw [← h]
      rfl
    rw [Int.fdiv_eq_ediv_of_nonneg _ (by positivity), hfiltered]
    exact ⟨rfl, filterStep_between _ _ _⟩
  case bad =>
    intro t
    obtain ⟨hbad, hfiltered, htemp, hvalidity⟩ := r.complete_bad table shift ho
    refine ⟨hbad, hfiltered, htemp, fun h2 => ?_, fun h2 => ?_⟩
    · exact hvalidity.trans (if_neg (by omega))
    · have hkind : t.validity = o.badKind := hvalidity.trans (if_pos (by omega))
      rw [hkind]
      refine ⟨?_, fun hs => ?_⟩
      · rintro ⟨a, b, q, rfl⟩
        rfl
      · cases o with
        | short a b q => exact absurd rfl (hs a b q)
        | good | refFault | openOverflow | openRatio => rfl

end Sys2Proof.Machine
end

section
/-! SUPPORT. The scan's choice of a channel, the requests that start and stop it, and the writes of the measurement
items. -/

namespace Sys2Proof.Machine

/-! ### SCAN requests (R66, R76, R78, R80) -/

/-- R76: a SCAN of a form from an editor seat. -/
theorem State.onScan_of_editor {s : State} {seat : Seat} {r : Request} {form : Nat} (h : s.serves seat .scan r)
    (hf : (r.word 0).toNat = form) (he : s.editor seat = true) (f : Request → State) : s.onScan seat form f = f r := by
  rw [State.onScan, State.onRequest_of_serves h]
  simp [hf, he]

theorem State.startScan_running {s : State} (h : s.smu.running ≠ none) (seat : Seat) (mode : ScanMode) (r : Request) :
    s.startScan seat mode r = s.answer seat r .inUse [] := if_pos (Option.isSome_iff_ne_none.2 h)

theorem State.startScan_stopped {s : State} (h : s.smu.running = none) (seat : Seat) (mode : ScanMode) (r : Request) :
    s.startScan seat mode r = State.answer { s with smu := s.smu.startPass mode } seat r .done [] :=
  if_neg (by simp [h])

section
variable {s : State} {seat : Seat} {r : Request} (he : s.editor seat = true) (h : s.serves seat .scan r)
include he h

theorem exec_scanStart (hw : r.word 0 = 0#16) :
    exec (.scanStart seat) s = .next (s.startScan seat s.smu.modeItem r) :=
  congrArg Host.Outcome.next (State.onScan_of_editor h (by rw [hw]; rfl) he _)

theorem exec_scanSingle (hw : r.word 0 = 1#16) :
    exec (.scanSingle seat) s = .next (s.startScan seat .single r) :=
  congrArg Host.Outcome.next (State.onScan_of_editor h (by rw [hw]; rfl) he _)

theorem exec_scanStop (hw : r.word 0 = 2#16) :
    exec (.scanStop seat) s = .next (State.answer { s with smu := s.smu.stop } seat r .done []) :=
  congrArg Host.Outcome.next (State.onScan_of_editor h (by rw [hw]; rfl) he _)

end

/-- Settles O39: a stopped scan starts the pass that the range and the enables give. -/
theorem scanRequestsAct : Obligations.ScanRequestsAct := by
  intro s seat r he h started
  refine ⟨fun c hlo hhi hon hmin => ?enabled, fun hnone => ?none, fun hw hrun => ?startInUse,
    fun hw hrun => ?singleInUse, fun hw => exec_scanStop he h hw⟩
  case enabled =>
    have hlowest : s.smu.lowestEnabled 0 c :=
      ⟨⟨Nat.zero_le _, hlo, hhi⟩, hon, fun d hd hlt => hmin d hd.2.1 hlt⟩
    have hpass (mode : ScanMode) : s.smu.startPass mode = s.smu.converting mode c :=
      (s.smu.startPass_begun mode).1 c hlowest
    refine ⟨fun hw hrun => ?_, fun hw hrun => ?_⟩
    · rw [exec_scanStart he h hw, State.startScan_stopped hrun, hpass]
      rfl
    · rw [exec_scanSingle he h hw, State.startScan_stopped hrun, hpass]
      rfl
  case none =>
    have hpass (mode : ScanMode) := (s.smu.startPass_begun mode).2 fun d _ => hnone d
    refine ⟨fun hw hrun hmode => ?_, fun hw hrun => ?_⟩
    · rw [exec_scanStart he h hw, State.startScan_stopped hrun, hpass, if_pos hmode]
    · rw [exec_scanSingle he h hw, State.startScan_stopped hrun, hpass]
      rfl
  case startInUse => rw [exec_scanStart he h hw, State.startScan_running hrun]
  case singleInUse => rw [exec_scanSingle he h hw, State.startScan_running hrun]

/-! ### Fields of the measurement items (R64, R65, R70, R77) -/

/-- An index is read back from the word that carries it. -/
theorem index?_ofNat {n : Nat} (hn : n ≤ 65536) (i : Fin n) : index? n (BitVec.ofNat 16 i.val).toNat = some i := by
  rw [BitVec.toNat_ofNat, Nat.mod_eq_of_lt (by omega), index?_val]

theorem sensorFields_of_words {r : Request} {e : Bool} {ref table : Fin 2} {shift : Fin 5} (hl : 5 ≤ r.payload.length)
    (h1 : r.word 1 = BitVec.ofNat 16 (if e = true then 1 else 0)) (h2 : r.word 2 = BitVec.ofNat 16 ref.val)
    (h3 : r.word 3 = BitVec.ofNat 16 table.val) (h4 : r.word 4 = BitVec.ofNat 16 shift.val) :
    sensorFields r = some { enabled := e, reference := ref, table := table, shift := shift } := by
  simp only [sensorFields, Request.has_of_le hl, if_true, Request.field, h1, h2, h3, h4, mark?_ofNat,
    index?_ofNat (n := 2) (by decide), index?_ofNat (n := 5) (by decide), Option.bind_eq_bind, Option.bind_some]

theorem cyclesField_of_word {r : Request} (hl : 2 ≤ r.payload.length)
    (h : (r.word 1).toNat = 256 ∨ (r.word 1).toNat = 1024 ∨ (r.word 1).toNat = 4096) :
    cyclesField r = some (r.word 1).toNat := if_pos ⟨Request.has_of_le hl, h⟩

theorem cyclesField_none {r : Request}
    (h : (r.word 1).toNat ≠ 256 ∧ (r.word 1).toNat ≠ 1024 ∧ (r.word 1).toNat ≠ 4096) : cyclesField r = none := by
  refine if_neg fun e => ?_
  have hw : (r.word 1).toNat = 256 ∨ (r.word 1).toNat = 1024 ∨ (r.word 1).toNat = 4096 := e.2
  omega

theorem breakpointField_of_word {r : Request} (hl : 2 ≤ r.payload.length) :
    breakpointField r = some (r.word 1).toInt := if_pos (Request.has_of_le hl)

theorem rangeFields_of_words {r : Request} {lo hi : SensorCh} (hl : 3 ≤ r.payload.length)
    (h1 : r.word 1 = BitVec.ofNat 16 lo.val) (h2 : r.word 2 = BitVec.ofNat 16 hi.val) :
    rangeFields r = if lo.val ≤ hi.val then some (lo, hi) else none := by
  simp only [rangeFields, Request.has_of_le hl, if_true, Request.field, h1, h2, index?_ofNat (n := 24) (by decide),
    Option.bind_eq_bind, Option.bind_some]

theorem scanModeField_of_word {r : Request} {single : Bool} (hl : 2 ≤ r.payload.length)
    (h : r.word 1 = BitVec.ofNat 16 (if single = true then 1 else 0)) :
    scanModeField r = some (if single = true then .single else .continuous) := by
  rw [scanModeField, if_pos (Request.has_of_le hl), Request.field, h]
  cases single <;> rfl

/-! ### A scan that waits for an enabled channel (R78) -/

theorem Smu.wake_of_not_waiting {m : Smu} (h : m.running = none ∨ m.conversion ≠ none) : m.wake = m := by
  unfold Smu.wake
  split
  · next mode hrun hconv => simp [hrun, hconv] at h
  · rfl

theorem Smu.wake_waiting {m : Smu} {mode : ScanMode} (hrun : m.running = some mode) (hconv : m.conversion = none) :
    m.wake = m.startPass mode := by
  simp only [Smu.wake, hrun, hconv]

/-- R78: what a settings or range write leaves, that changes neither the mode nor the conversion. -/
theorem Smu.wake_chooses {m : Smu} {c : Instr} {s : State} {done : Smu → Outcome}
    (hexec : exec c s = done m.wake) (hrun : m.running = s.smu.running) (hconv : m.conversion = s.smu.conversion) :
    (s.smu.running = none ∨ s.smu.conversion ≠ none → exec c s = done m) ∧
      ∀ mode, s.smu.running = some mode → s.smu.conversion = none →
        ∃ m', m.passBegun m' mode ∧ exec c s = done m' := by
  refine ⟨fun hnot => ?_, fun mode hmode hnone => ⟨m.startPass mode, m.startPass_begun mode, ?_⟩⟩
  · rw [hexec, Smu.wake_of_not_waiting (by rwa [hrun, hconv])]
  · rw [hexec, Smu.wake_waiting (hrun.trans hmode) (hconv.trans hnone)]

/-- Settles O36: each item's fields are read from its words and replace it; a waiting scan then starts its pass. -/
theorem measurementItemsAreTaken : Obligations.MeasurementItemsAreTaken := by
  intro s seat r he done chooses
  refine ⟨fun n e ref table shift h hl h1 h2 h3 h4 => ?settings, fun n h hl => ⟨fun hc => ?cycles, fun hc => ?noCycles⟩,
    fun t k h hl => ⟨fun hrun => ?breakpoint, fun hrun => ?inUse⟩,
    fun lo hi h hl h1 h2 => ⟨fun hle => ?range, fun hlt => ?noRange⟩, fun single h hl h1 => ?mode⟩
  case settings =>
    refine Smu.wake_chooses (done := done) (State.next_onWrite_accepted h ?_) rfl rfl
    simp only [State.asEditor_of_editor he, sensorFields_of_words hl h1 h2 h3 h4, Verdict.fields]
    rfl
  case cycles =>
    refine State.next_onWrite_accepted h ?_
    simp only [State.asEditor_of_editor he, cyclesField_of_word hl hc, Verdict.fields]
  case noCycles =>
    refine State.next_onWrite_refused h ?_
    simp only [State.asEditor_of_editor he, cyclesField_none hc, Verdict.fields]
  case breakpoint =>
    refine State.next_onWrite_accepted h ?_
    simp only [State.asEditor_of_editor he, breakpointField_of_word hl, Verdict.fields, hrun]
    rfl
  case inUse =>
    refine State.next_onWrite_refused h ?_
    simp only [State.asEditor_of_editor he, breakpointField_of_word hl, Verdict.fields,
      Option.isSome_iff_ne_none.2 hrun, if_true]
  case range =>
    refine Smu.wake_chooses (done := done) (State.next_onWrite_accepted h ?_) rfl rfl
    simp only [State.asEditor_of_editor he, rangeFields_of_words hl h1 h2, if_pos (Fin.le_def.1 hle), Verdict.fields]
    rfl
  case noRange =>
    refine State.next_onWrite_refused h ?_
    simp only [State.asEditor_of_editor he, rangeFields_of_words hl h1 h2, if_neg (Nat.not_le.2 (Fin.lt_def.1 hlt)),
      Verdict.fields]
  case mode =>
    refine State.next_onWrite_accepted h ?_
    simp only [State.asEditor_of_editor he, scanModeField_of_word hl h1, Verdict.fields]

end Sys2Proof.Machine
end

section
/-! SUPPORT. The end of a conversion: what it records, the circuit it then evaluates, and the channel the scan goes on
with. -/

namespace Sys2Proof.Machine

/-! ### The scan's choice (R78) -/

/-- R78: the search from channel `lo` on finds the lowest enabled channel of the range there. -/
theorem Smu.firstEnabled_from {m : Smu} {lo : Nat} {d : SensorCh} (h : m.lowestEnabled lo d) :
    m.firstEnabled (max lo m.rangeStart.val) m.rangeEnd.val = some d := by
  obtain ⟨⟨hlo, hstart, hend⟩, hon, hmin⟩ := h
  refine find?_finRange_eq_some.2 ⟨?_, fun j hj => ?_⟩
  · simp only [Bool.and_eq_true, decide_eq_true_eq]
    exact ⟨⟨max_le hlo hstart, hend⟩, hon⟩
  · by_contra hfound
    simp only [Bool.not_eq_false, Bool.and_eq_true, decide_eq_true_eq, max_le_iff] at hfound
    obtain ⟨⟨⟨hjlo, hjstart⟩, hjend⟩, hjon⟩ := hfound
    simp [hmin j ⟨hjlo, hjstart, hjend⟩ hj] at hjon

theorem Smu.firstEnabled_from_none {m : Smu} {lo : Nat} (h : m.noneEnabled lo) :
    m.firstEnabled (max lo m.rangeStart.val) m.rangeEnd.val = none := by
  refine List.find?_eq_none.2 fun d _ => ?_
  simp only [Bool.and_eq_true, decide_eq_true_eq, max_le_iff, not_and, Bool.not_eq_true]
  exact fun hr => h d hr.1.1 hr.1.2 hr.2

/-- R66: a conversion begun by a running scan leaves it in its mode. -/
theorem Smu.begin_of_running {m : Smu} {mode : ScanMode} (h : m.running = some mode) (c : SensorCh) :
    m.begin c = m.converting mode c := by
  rw [Smu.converting, ← h]
  rfl

/-- R78: a running scan chooses as the range and the enables give. -/
theorem Smu.next_chosen {m : Smu} {mode : ScanMode} (h : m.running = some mode) (c : SensorCh) :
    m.chosenAfter (m.next c) mode c := by
  have hnext : m.next c = m.chooseAfter mode c := by simp only [Smu.next, h]
  rw [hnext]
  refine ⟨fun d hd => ?_, fun hn => ⟨?_, ?_⟩⟩
  · simp only [Smu.chooseAfter, Smu.firstEnabled_from hd, Smu.begin_of_running h]
  · rintro rfl
    simp only [Smu.chooseAfter, Smu.firstEnabled_from_none hn]
    exact m.startPass_begun .continuous
  · rintro rfl
    simp only [Smu.chooseAfter, Smu.firstEnabled_from_none hn]

theorem Smu.startPass_frame (m : Smu) (mode : ScanMode) : m.startPass mode =
    { m with running := (m.startPass mode).running, conversion := (m.startPass mode).conversion } := by
  unfold Smu.startPass
  split
  · rfl
  · cases mode <;> rfl

/-- R78: a choice changes nothing of the measurement but whether the scan runs and what it converts. -/
theorem Smu.next_frame (m : Smu) (c : SensorCh) : m.next c =
    { m with running := (m.next c).running, conversion := (m.next c).conversion } := by
  unfold Smu.next
  split
  · unfold Smu.chooseAfter
    split
    · rfl
    · split
      · exact m.startPass_frame .continuous
      · rfl
  · rfl

/-! ### Circuits that a channel guards (R99) -/

theorem State.evaluate_guardSet (s : State) (n m : CircuitNo) :
    ((s.evaluate n).circuit m).guardSet = (s.circuit m).guardSet := by
  unfold State.evaluate
  split
  · rw [State.changeCircuit_circuit]
    split
    · next e => subst e; rfl
    · rfl
  · rfl

/-- R99: one circuit, of a list, evaluated where the channel is in its guard set. -/
def State.evaluateIfGuarded (c : SensorCh) (s : State) (n : CircuitNo) : State :=
  if (s.circuit n).guardSet.contains c then s.evaluate n else s

theorem State.evaluateGuarding_eq (s : State) (c : SensorCh) :
    s.evaluateGuarding c = (List.finRange 4).foldl (State.evaluateIfGuarded c) s := rfl

theorem State.evaluateIfGuarded_of_not_mem {s : State} {c : SensorCh} {n : CircuitNo} (h : c ∉ (s.circuit n).guardSet) :
    s.evaluateIfGuarded c n = s := if_neg (by simpa using h)

theorem State.evaluateIfGuarded_of_mem {s : State} {c : SensorCh} {n : CircuitNo} (h : c ∈ (s.circuit n).guardSet) :
    s.evaluateIfGuarded c n = s.evaluate n := if_pos (by simpa using h)

theorem State.foldl_evaluateIfGuarded_none {s : State} {c : SensorCh} {l : List CircuitNo}
    (h : ∀ n ∈ l, c ∉ (s.circuit n).guardSet) : l.foldl (State.evaluateIfGuarded c) s = s := by
  induction l with
  | nil => rfl
  | cons n l ih =>
    rw [List.foldl_cons, State.evaluateIfGuarded_of_not_mem (h n List.mem_cons_self),
      ih fun k hk => h k (List.mem_cons_of_mem n hk)]

/-- R99: the channel of one circuit's guard set, over a list of circuits that names each once: that circuit is evaluated
at its place, and its evaluation brings no later one the channel. -/
theorem State.foldl_evaluateIfGuarded_one {s : State} {c : SensorCh} {n : CircuitNo} {l : List CircuitNo}
    (hl : l.Nodup) (hn : n ∈ l) (h : ∀ m, c ∈ (s.circuit m).guardSet ↔ m = n) :
    l.foldl (State.evaluateIfGuarded c) s = s.evaluate n := by
  induction l with
  | nil => cases hn
  | cons m l ih =>
    obtain ⟨hm, hl⟩ := List.nodup_cons.1 hl
    rw [List.foldl_cons]
    by_cases e : m = n
    · subst e
      rw [State.evaluateIfGuarded_of_mem ((h m).2 rfl), State.foldl_evaluateIfGuarded_none]
      intro k hk
      rw [State.evaluate_guardSet, h]
      exact fun e => hm (e ▸ hk)
    · rw [State.evaluateIfGuarded_of_not_mem (mt (h m).1 e), ih hl (List.mem_of_ne_of_mem (Ne.symm e) hn)]

theorem State.evaluateGuarding_none {s : State} {c : SensorCh} (h : ∀ n, c ∉ (s.circuit n).guardSet) :
    s.evaluateGuarding c = s := State.foldl_evaluateIfGuarded_none fun n _ => h n

theorem State.evaluateGuarding_one {s : State} {c : SensorCh} {n : CircuitNo}
    (h : ∀ m, c ∈ (s.circuit m).guardSet ↔ m = n) : s.evaluateGuarding c = s.evaluate n := by
  rw [State.evaluateGuarding_eq]
  exact State.foldl_evaluateIfGuarded_one (List.nodup_finRange 4) (List.mem_finRange n) h

/-! ### What a completed conversion records (R75) -/

/-- The result entry that a completed conversion leaves, by the table and the shift it latched. -/
def State.resultOf (s : State) (v : Conversion) (o : ConversionOutcome) : SensorResult :=
  (s.smu.results.read v.channel).complete (s.smu.tables.read v.table) v.shift o

/-- The measurement with that result recorded, before the scan chooses. -/
def State.measured (s : State) (v : Conversion) (o : ConversionOutcome) : Smu :=
  { s.smu with results := s.smu.results.write v.channel (s.resultOf v o) }

/-- A completed conversion before the circuits that its channel guards are evaluated. -/
def State.conversionRecorded (s : State) (v : Conversion) (o : ConversionOutcome) : State :=
  let raised := State.raiseIf { s with smu := s.measured v o }
    ((s.smu.results.read v.channel).validity != (s.resultOf v o).validity) .sensor
  { raised with smu := raised.smu.next v.channel }

theorem State.completeConversion_eq (s : State) (v : Conversion) (o : ConversionOutcome) :
    s.completeConversion v o = (s.conversionRecorded v o).evaluateGuarding v.channel := rfl

section
variable (s : State) (v : Conversion) (o : ConversionOutcome)

theorem State.conversionRecorded_frame : s.conversionRecorded v o =
    { s with smu := (s.conversionRecorded v o).smu, evu := (s.conversionRecorded v o).evu } := by
  simp [State.conversionRecorded]

@[simp] theorem State.conversionRecorded_smu : (s.conversionRecorded v o).smu = (s.measured v o).next v.channel := by
  simp only [State.conversionRecorded, State.raiseIf_smu]

theorem State.conversionRecorded_results :
    (s.conversionRecorded v o).smu.results = s.smu.results.write v.channel (s.resultOf v o) := by
  rw [State.conversionRecorded_smu, Smu.next_frame]
  rfl

theorem State.conversionRecorded_result :
    (s.conversionRecorded v o).smu.results.read v.channel = s.resultOf v o := by
  rw [State.conversionRecorded_results, Bank.read_write_same]

theorem State.conversionRecorded_settings_tables : (s.conversionRecorded v o).smu.settings = s.smu.settings ∧
    (s.conversionRecorded v o).smu.tables = s.smu.tables := by
  rw [State.conversionRecorded_smu, Smu.next_frame]
  exact ⟨rfl, rfl⟩

variable {s v o}

theorem State.conversionRecorded_evu_same (h : (s.resultOf v o).validity = (s.smu.results.read v.channel).validity) :
    (s.conversionRecorded v o).evu = s.evu := by
  simp [State.conversionRecorded, State.raiseIf, h]

theorem State.conversionRecorded_flag (h : (s.resultOf v o).validity ≠ (s.smu.results.read v.channel).validity)
    (q : Seat) (f : Flag) : (s.conversionRecorded v o).flag q f = if f = .sensor then .fresh else s.flag q f := by
  refine State.flag_raiseAll ?_ q f
  simp [State.conversionRecorded, State.raiseIf, State.raiseAll, h.symm]

theorem State.conversionRecorded_chosen {mode : ScanMode} (h : s.smu.running = some mode) :
    Smu.chosenAfter { s.smu with results := (s.conversionRecorded v o).smu.results } (s.conversionRecorded v o).smu mode
      v.channel := by
  rw [State.conversionRecorded_results, State.conversionRecorded_smu]
  exact Smu.next_chosen (m := s.measured v o) h v.channel

end

/-! ### The ends of the two phases (R67 to R69) -/

theorem referenceFault_iff (n : Nat) : referenceFault n = true ↔ n < 1000 ∨ n = 16777215 := by
  simp [referenceFault, counterTop]

section
variable {s : State} {v : Conversion} {count : BitVec 24} (hv : s.smu.conversion = some v)
include hv

theorem exec_referencePhaseEnd (hp : v.phase = .reference) : exec (.referencePhaseEnd count) s = .next
    (if referenceFault count.toNat = true then s.completeConversion v (.refFault count.toNat)
      else { s with smu := { s.smu with conversion := some { v with phase := .sensor count.toNat } } }) := by
  show execReferencePhaseEnd count s = _
  simp only [execReferencePhaseEnd, hv, hp]

theorem exec_sensorPhaseEnd {tRef : Nat} (hp : v.phase = .sensor tRef) : exec (.sensorPhaseEnd count) s =
    .next (s.completeConversion v (judgeConversion tRef count.toNat)) := by
  show execSensorPhaseEnd count s = _
  simp only [execSensorPhaseEnd, hv, hp]

end

/-- R68, R69, R75: what a sensor phase records of its counts, its ratio and, where that is good, its temperature. -/
theorem SensorResult.complete_judged (table : Bank Int 17) (shift : Fin 5) (r : SensorResult) (tRef count : Nat) :
    let t := r.complete table shift (judgeConversion tRef count)
    t.tRef = tRef ∧ t.tSens = count ∧
      (count < 16777215 → t.ratio = min 65535 (count * 32768 / tRef)) ∧
      (count < 16777215 → 2048 ≤ count * 32768 / tRef → count * 32768 / tRef ≤ 65535 →
        t.validity = .valid ∧ t.badRun = 0 ∧ t.temp = linearize table (count * 32768 / tRef)) := by
  unfold judgeConversion ratioOf counterTop
  dsimp only
  split
  · next htop => exact ⟨rfl, htop.symm, fun h => absurd htop h.ne, fun h => absurd htop h.ne⟩
  split
  · next hhigh => exact ⟨rfl, rfl, fun _ => (min_eq_left hhigh.le).symm, fun _ _ h => absurd hhigh (Nat.not_lt.2 h)⟩
  have hratio : min 65535 (count * 32768 / tRef) = count * 32768 / tRef := by omega
  split
  · next hlow => exact ⟨rfl, rfl, fun _ => hratio.symm, fun _ h => absurd hlow (Nat.not_lt.2 h)⟩
  · exact ⟨rfl, rfl, fun _ => hratio.symm, fun _ _ _ => ⟨rfl, rfl, rfl⟩⟩

/-- Settles O40: either phase's end is the recording of its outcome, and then the evaluation of the circuit guarded. -/
theorem phasesEndConversions : Obligations.PhasesEndConversions := by
  intro s v count hv was completes
  have hcompletes : ∀ c o, exec c s = .next (s.completeConversion v o) → completes c o (s.conversionRecorded v o) := by
    intro c o hexec
    have hresult := s.conversionRecorded_result v o
    obtain ⟨hsettings, htables⟩ := s.conversionRecorded_settings_tables v o
    have hguards (n : CircuitNo) : ((s.conversionRecorded v o).circuit n).guardSet = (s.circuit n).guardSet := by
      rw [s.conversionRecorded_frame v o]
      rfl
    rw [State.completeConversion_eq] at hexec
    refine ⟨hresult, ?samples, fun d hd => ?others, fun h => ?same, fun h => ?raised, s.conversionRecorded_frame v o,
      hsettings, htables, fun mode hmode => State.conversionRecorded_chosen hmode, fun hnone => ?unguarded,
      fun n hn => ?guarded⟩
    case samples => rw [hresult]; exact was.complete_samples _ _ o
    case others => rw [State.conversionRecorded_results, Bank.read_write_ne _ _ hd.symm]
    case same => rw [hresult] at h; exact State.conversionRecorded_evu_same h
    case raised => rw [hresult] at h; exact State.conversionRecorded_flag h
    case unguarded => rw [hexec, State.evaluateGuarding_none fun n => by rw [hguards]; exact hnone n]
    case guarded => rw [hexec, State.evaluateGuarding_one fun m => by rw [hguards]; exact hn m]
  refine ⟨fun hp hlo hhi => ?begins, fun hp hcount => ?fault, fun tRef hp _ => ?sensor⟩
  case begins =>
    rw [exec_referencePhaseEnd hv hp, if_neg]
    rw [referenceFault_iff]
    omega
  case fault =>
    have hexec := exec_referencePhaseEnd (count := count) hv hp
    rw [if_pos ((referenceFault_iff _).2 hcount)] at hexec
    refine ⟨s.conversionRecorded v (.refFault count.toNat), hcompletes _ _ hexec, ?_⟩
    rw [State.conversionRecorded_result]
    exact ⟨rfl, rfl, rfl, rfl⟩
  case sensor =>
    refine ⟨_, hcompletes _ _ (exec_sensorPhaseEnd hv hp), ?_⟩
    rw [State.conversionRecorded_result]
    exact was.complete_judged _ _ tRef count.toNat

end Sys2Proof.Machine
end

section
/-! SUPPORT. The flow proof: what it is judged from, what a changed proof records, and which circuit a pulse channel
decides; then the edges, the timeout and the settings of a pulse channel. -/

namespace Sys2Proof.Machine

/-! ### A flow proof judged (R91, R92, R103) -/

theorem Circuit.enabled_iff (c : Circuit) : c.enabled = true ↔ c.stage ≠ .disabled := bne_iff_ne

theorem Circuit.enabled_eq_false {c : Circuit} : c.enabled = false ↔ c.stage = .disabled := bne_eq_false_iff_eq

/-- R91: a circuit without a flow channel is proven; one with a channel, by a period of at most its P_max. -/
theorem proofOf_iff (channels : Bank PulseChannel 8) (c : Circuit) : proofOf channels c = true ↔
    c.flow = none ∨ ∃ ch pMax us, c.flow = some (ch, pMax) ∧ (channels.read ch).period = some us ∧ us ≤ pMax := by
  unfold proofOf
  split
  · next h => simp [h]
  · next ch pMax h =>
    cases hp : (channels.read ch).period with
    | none => simp [h, hp]
    | some us => simp [h, hp]

/-- R92: a flow proof recorded in pulse unit and circuit, with FLOW raised in all four sets. -/
def State.proofRecorded (s : State) (n : CircuitNo) (proof : Bool) (c : Circuit) : State :=
  { s with
    piu := { s.piu with proven := s.piu.proven.write n proof }
    circuits := s.circuits.write n c
    evu := s.evu.raiseAll .flow }

@[simp] theorem State.proofRecorded_circuit (s : State) (n : CircuitNo) (proof : Bool) (c : Circuit) (m : CircuitNo) :
    (s.proofRecorded n proof c).circuit m = if n = m then c else s.circuit m := Bank.read_write ..

section
variable {s : State} {n : CircuitNo}

theorem State.judgeProof_stays (h : proofOf s.piu.channels (s.circuit n) = s.piu.proven.read n) :
    s.judgeProof n = s := if_pos h

/-- R92: a changed proof is recorded, and the circuit evaluated. -/
theorem State.judgeProof_changes {proof : Bool} (h : proofOf s.piu.channels (s.circuit n) = proof)
    (hne : proof ≠ s.piu.proven.read n) :
    s.judgeProof n = (s.proofRecorded n proof ((s.circuit n).takeProof proof)).evaluate n := by
  subst h
  exact if_neg hne

/-- R99: a DISABLED circuit is not evaluated. -/
theorem State.evaluate_disabled (h : (s.circuit n).stage = .disabled) : s.evaluate n = s :=
  if_neg (by rw [Circuit.enabled_eq_false.2 h]; exact Bool.false_ne_true)

end

/-- R92: a DISABLED circuit records its proof and starts no timer. -/
theorem Circuit.takeProof_disabled {c : Circuit} (h : c.stage = .disabled) (proof : Bool) :
    c.takeProof proof = { c with proven := proof } := by
  simp [Circuit.takeProof, Circuit.enabled_eq_false.2 h]

/-- R103: the proof of an enabled circuit lost starts the flow grace. -/
theorem Circuit.takeProof_lost {c : Circuit} (h : c.stage ≠ .disabled) :
    c.takeProof false = { c with proven := false, graceLeft := some (100 * c.flowGrace) } := by
  simp [Circuit.takeProof, c.enabled_iff.2 h, Nat.mul_comm]

/-- R103: the proof of an enabled circuit regained cancels the flow grace. -/
theorem Circuit.takeProof_regained {c : Circuit} (h : c.stage ≠ .disabled) :
    c.takeProof true = { c with proven := true, graceLeft := none, graceExpired := false } := by
  simp [Circuit.takeProof, c.enabled_iff.2 h]

/-- R92: a changed proof of a DISABLED circuit is recorded, and nothing else. -/
theorem State.judgeProof_disabled {s : State} {n : CircuitNo} {proof : Bool} (hd : (s.circuit n).stage = .disabled)
    (h : proofOf s.piu.channels (s.circuit n) = proof) (hne : proof ≠ s.piu.proven.read n) :
    s.judgeProof n = s.proofRecorded n proof { s.circuit n with proven := proof } := by
  rw [State.judgeProof_changes h hne, Circuit.takeProof_disabled hd, State.evaluate_disabled]
  rw [State.proofRecorded_circuit, if_pos rfl]
  exact hd

/-! ### The circuit that a pulse channel decides (R91) -/

theorem Circuit.takeProof_flow (c : Circuit) (proof : Bool) : (c.takeProof proof).flow = c.flow := by
  unfold Circuit.takeProof
  split
  · split <;> rfl
  · rfl

theorem Circuit.reevaluated_flow (results : Bank SensorResult 24) (c : Circuit) :
    (c.reevaluated results).flow = c.flow := by
  unfold Circuit.reevaluated
  split <;> rfl

theorem State.evaluate_circuit (s : State) (n m : CircuitNo) : (s.evaluate n).circuit m =
    if n = m then (s.circuit n).reevaluated s.smu.results else s.circuit m := by
  unfold State.evaluate Circuit.reevaluated
  split
  · rw [State.changeCircuit_circuit]
  · split
    · next e => rw [e]
    · rfl

/-- Judging a proof leaves the flow channels of all circuits. -/
theorem State.judgeProof_flow (s : State) (n m : CircuitNo) :
    ((s.judgeProof n).circuit m).flow = (s.circuit m).flow := by
  by_cases h : proofOf s.piu.channels (s.circuit n) = s.piu.proven.read n
  · rw [State.judgeProof_stays h]
  · rw [State.judgeProof_changes rfl h, State.evaluate_circuit, State.proofRecorded_circuit,
      State.proofRecorded_circuit, if_pos rfl]
    split
    · next e => rw [Circuit.reevaluated_flow, Circuit.takeProof_flow, e]
    · rfl

theorem foldl_fixed_of_mem {σ ι : Type} {f : σ → ι → σ} {s : σ} {l : List ι} (h : ∀ m ∈ l, f s m = s) :
    l.foldl f s = s := by
  induction l with
  | nil => rfl
  | cons m l ih => rw [List.foldl_cons, h m List.mem_cons_self, ih fun k hk => h k (List.mem_cons_of_mem m hk)]

/-- A step taken for each entry of a list that acts for one entry alone, before it and after it. -/
theorem foldl_eq_of_acts_once {σ ι : Type} {f : σ → ι → σ} {s : σ} {l : List ι} {n : ι} (hl : l.Nodup) (hn : n ∈ l)
    (hbefore : ∀ m, m ≠ n → f s m = s) (hafter : ∀ m, m ≠ n → f (f s n) m = f s n) : l.foldl f s = f s n := by
  obtain ⟨before, after, rfl⟩ := List.append_of_mem hn
  have hnot : n ∉ before ++ after := (List.nodup_middle.1 hl).notMem
  have hne : ∀ m ∈ before ++ after, m ≠ n := fun m hm e => hnot (e ▸ hm)
  rw [List.foldl_append, List.foldl_cons,
    foldl_fixed_of_mem fun m hm => hbefore m (hne m (List.mem_append_left _ hm)),
    foldl_fixed_of_mem fun m hm => hafter m (hne m (List.mem_append_right _ hm))]

/-- R91: one circuit judged where its flow channel is `ch`. -/
def State.judgeIfNamed (ch : PulseCh) (s : State) (n : CircuitNo) : State :=
  if ((s.circuit n).flow.map (·.1)) = some ch then s.judgeProof n else s

theorem State.judgeProofOf_eq (s : State) (ch : PulseCh) :
    s.judgeProofOf ch = (List.finRange 4).foldl (State.judgeIfNamed ch) s := rfl

theorem State.judgeIfNamed_of_named {s : State} {ch : PulseCh} {n : CircuitNo}
    (h : ∃ p, (s.circuit n).flow = some (ch, p)) : s.judgeIfNamed ch n = s.judgeProof n :=
  if_pos (beq_iff_eq.1 ((s.names_iff ch n).2 h))

theorem State.judgeIfNamed_of_not {s : State} {ch : PulseCh} {n : CircuitNo}
    (h : ¬∃ p, (s.circuit n).flow = some (ch, p)) : s.judgeIfNamed ch n = s :=
  if_neg fun e => h ((s.names_iff ch n).1 (beq_iff_eq.2 e))

/-- R91: a channel of one circuit's flow decides that circuit's proof. -/
theorem State.judgeProofOf_named {s : State} {ch : PulseCh} {n : CircuitNo}
    (h : ∀ m, (∃ p, (s.circuit m).flow = some (ch, p)) ↔ m = n) : s.judgeProofOf ch = s.judgeProof n := by
  have hact : s.judgeIfNamed ch n = s.judgeProof n := State.judgeIfNamed_of_named ((h n).2 rfl)
  rw [State.judgeProofOf_eq, ← hact]
  refine foldl_eq_of_acts_once (List.nodup_finRange 4) (List.mem_finRange n) (fun m hm => ?_) fun m hm => ?_
  · exact State.judgeIfNamed_of_not (mt (h m).1 hm)
  · rw [hact]
    refine State.judgeIfNamed_of_not ?_
    rw [State.judgeProof_flow]
    exact mt (h m).1 hm

/-- R91: a change that leaves the circuits, and then the judging of the circuit that the channel decides. -/
theorem State.judgeProofOf_judged {s t : State} {ch : PulseCh} {x : Outcome} {after : State → Outcome}
    (hx : x = after (t.judgeProofOf ch)) (hc : t.circuits = s.circuits) :
    ((∀ n p, (s.circuit n).flow ≠ some (ch, p)) → x = after t) ∧
      ∀ n, (∀ m, (∃ p, (s.circuit m).flow = some (ch, p)) ↔ m = n) → x = after (t.judgeProof n) := by
  have hcircuit (m : CircuitNo) : t.circuit m = s.circuit m := by rw [State.circuit, hc, State.circuit]
  refine ⟨fun hnone => ?_, fun n hn => ?_⟩
  · rw [hx, State.judgeProofOf_unnamed fun m => by rw [hcircuit]; exact hnone m]
  · rw [hx, State.judgeProofOf_named fun m => by rw [hcircuit]; exact hn m]

/-! ### Edges of a pulse channel (R86, R87) -/

section
variable {p : PulseChannel} {us : Nat}

theorem PulseChannel.advance_stopped (h : p.timing = false) :
    p.advance us = { p with sinceTick := p.sinceTick + us } := by
  simp [PulseChannel.advance, PulseChannel.counterAfter, h]

theorem PulseChannel.advance_timing (h : p.timing = true) :
    p.advance us = { p with counter := min 1048575 (p.counter + us), sinceTick := p.sinceTick + us } := by
  simp [PulseChannel.advance, PulseChannel.counterAfter, h, periodTop]

/-- R86: an edge on a channel that does not time is accepted. -/
theorem PulseChannel.accepts_stopped (h : p.timing = false) : (p.advance us).accepts = true := by
  simp [PulseChannel.accepts, PulseChannel.advance_stopped h, h]

theorem PulseChannel.accepts_timing (h : p.timing = true) : (p.advance us).accepts = true ↔
    0 < min 1048575 (p.counter + us) ∧ 1000 * p.spacing ≤ min 1048575 (p.counter + us) := by
  rw [PulseChannel.advance_timing h, Nat.mul_comm]
  simp only [PulseChannel.accepts, h, Bool.not_true, Bool.false_or, Bool.and_eq_true, decide_eq_true_eq]

/-- R87: the first edge starts timing and gives no period. -/
theorem PulseChannel.edge_stopped (h : p.timing = false) : (p.advance us).edge =
    { p with timing := true, counter := 0, age := some 0, sinceTick := p.sinceTick + us } := by
  simp [PulseChannel.edge, PulseChannel.advance_stopped h, h]

/-- R87: an edge on a channel that times gives the counter as the period, below its top. -/
theorem PulseChannel.edge_timing (h : p.timing = true) : (p.advance us).edge = { p with
    period := if min 1048575 (p.counter + us) = 1048575 then none else some (min 1048575 (p.counter + us))
    counter := 0, age := some 0, sinceTick := p.sinceTick + us } := by
  rw [PulseChannel.advance_timing h]
  simp only [PulseChannel.edge, h, if_true]
  rfl

end

section
variable {s : State} {ch : PulseCh} {us : Nat}

theorem exec_pulseRisingEdge_disabled (h : (s.piu.channels.read ch).enabled = false) :
    exec (.pulseRisingEdge ch us) s = .next s :=
  congrArg Host.Outcome.next (if_neg (by rw [h]; exact Bool.false_ne_true))

theorem exec_pulseRisingEdge_accepted (h : (s.piu.channels.read ch).enabled = true)
    (ha : ((s.piu.channels.read ch).advance us).accepts = true) : exec (.pulseRisingEdge ch us) s =
      .next ((s.setChannel ch ((s.piu.channels.read ch).advance us).edge).judgeProofOf ch) :=
  congrArg Host.Outcome.next ((if_pos h).trans (if_pos ha))

theorem exec_pulseRisingEdge_ignored (h : (s.piu.channels.read ch).enabled = true)
    (ha : ¬((s.piu.channels.read ch).advance us).accepts = true) : exec (.pulseRisingEdge ch us) s =
      .next (s.setChannel ch ((s.piu.channels.read ch).advance us)) :=
  congrArg Host.Outcome.next ((if_pos h).trans (if_neg ha))

/-! ### The no-edge timeout (R88) -/

theorem exec_pulseTimeoutExpiry_due (h : (s.piu.channels.read ch).timedOut = true) :
    exec (.pulseTimeoutExpiry ch) s =
      .next ((s.setChannel ch (s.piu.channels.read ch).expire).judgeProofOf ch) :=
  congrArg Host.Outcome.next (if_pos h)

theorem exec_pulseTimeoutExpiry_early (h : ¬(s.piu.channels.read ch).timedOut = true) :
    exec (.pulseTimeoutExpiry ch) s = .next s :=
  congrArg Host.Outcome.next (if_neg h)

end

theorem PulseChannel.timedOut_of_le {p : PulseChannel} {a : Nat} (ha : p.age = some a) (ht : p.timing = true)
    (h : p.timeout ≤ 10 * a) : p.timedOut = true :=
  p.timedOut_iff.2 ⟨a, ht, ha, by omega⟩

theorem PulseChannel.not_timedOut {p : PulseChannel}
    (h : p.age = none ∨ p.timing = false ∨ ∃ a, p.age = some a ∧ 10 * a + 10 ≤ p.timeout) : ¬p.timedOut = true := by
  rw [PulseChannel.timedOut_iff]
  rintro ⟨a, ht, ha, hle⟩
  rcases h with h | h | ⟨b, hb, hlt⟩
  · rw [ha] at h
    cases h
  · rw [ht] at h
    cases h
  · rw [ha, Option.some.injEq] at hb
    omega

/-! ### The settings of a pulse channel (R85, R88) -/

theorem pulseFields_of_words {r : Request} {e : Bool} (hl : 4 ≤ r.payload.length)
    (he : r.word 1 = BitVec.ofNat 16 (if e = true then 1 else 0)) (hs : (r.word 2).toNat ≤ 50)
    (hlo : 100 ≤ (r.word 3).toNat) (hhi : (r.word 3).toNat ≤ 10000) (h10 : (r.word 3).toNat % 10 = 0) :
    pulseFields r = some { enabled := e, spacing := (r.word 2).toNat, timeout := (r.word 3).toNat } := by
  simp only [pulseFields, Request.has_of_le hl, if_true, Request.field, Option.bind_eq_bind, he, mark?_ofNat,
    inRange?_of_le (Nat.zero_le _) hs, inRange?_of_le hlo hhi, Option.bind_some, if_pos h10]

/-- The channel with new settings and its measurement as it was. -/
def PulseChannel.withSettings (p : PulseChannel) (f : PulseFields) : PulseChannel :=
  { p with enabled := f.enabled, spacing := f.spacing, timeout := f.timeout }

section
variable {p : PulseChannel} {f : PulseFields}

theorem PulseChannel.take_cleared (h : f.enabled ≠ p.enabled) :
    p.take f = (p.withSettings f).clearMeasurement := if_pos h.symm

theorem PulseChannel.take_expired (h : f.enabled = p.enabled) (hd : (p.withSettings f).timedOut = true) :
    p.take f = (p.withSettings f).expire := (if_neg (not_not.2 h.symm)).trans (if_pos hd)

theorem PulseChannel.take_kept (h : f.enabled = p.enabled) (hd : ¬(p.withSettings f).timedOut = true) :
    p.take f = p.withSettings f := (if_neg (not_not.2 h.symm)).trans (if_neg hd)

end

section
variable {s : State} {n : PulseCh} {f : PulseFields}

/-- R91: the proof is judged where the write disabled the channel or stopped its timing. -/
theorem State.setPulse_judges (h : (s.piu.channels.read n).enabled = true ∧ f.enabled = false ∨
      (s.piu.channels.read n).timing = true ∧ ((s.piu.channels.read n).take f).timing = false) :
    s.setPulse n f = (s.setChannel n ((s.piu.channels.read n).take f)).judgeProofOf n := by
  refine if_pos ?_
  rcases h with ⟨h1, h2⟩ | ⟨h1, h2⟩ <;> simp [h1, h2]

theorem State.setPulse_leaves (he : (s.piu.channels.read n).enabled = true → f.enabled = true)
    (ht : (s.piu.channels.read n).timing = true → ((s.piu.channels.read n).take f).timing = true) :
    s.setPulse n f = s.setChannel n ((s.piu.channels.read n).take f) := by
  refine if_neg ?_
  simp only [Bool.or_eq_true, Bool.and_eq_true, Bool.not_eq_true', not_or, not_and, Bool.not_eq_false]
  exact ⟨he, ht⟩

/-- R85: a changed enabled mark clears the measurement; the proof is judged where there was one to lose. -/
theorem State.setPulse_clears (hne : f.enabled ≠ (s.piu.channels.read n).enabled)
    (hwas : (s.piu.channels.read n).enabled = true ∨ (s.piu.channels.read n).timing = true) : s.setPulse n f =
      (s.setChannel n ((s.piu.channels.read n).withSettings f).clearMeasurement).judgeProofOf n := by
  rw [← PulseChannel.take_cleared hne]
  refine State.setPulse_judges (hwas.imp (fun hon => ⟨hon, ?_⟩) fun ht => ⟨ht, ?_⟩)
  · exact Bool.eq_false_of_not_eq_true fun h => hne (h.trans hon.symm)
  · rw [PulseChannel.take_cleared hne]
    rfl

theorem State.setPulse_clears_idle (hne : f.enabled ≠ (s.piu.channels.read n).enabled)
    (hoff : (s.piu.channels.read n).enabled = false) (hstopped : (s.piu.channels.read n).timing = false) :
    s.setPulse n f = s.setChannel n ((s.piu.channels.read n).withSettings f).clearMeasurement := by
  rw [← PulseChannel.take_cleared hne]
  exact State.setPulse_leaves (fun hon => absurd hon (by simp [hoff])) fun ht => absurd ht (by simp [hstopped])

/-- R88: a timeout that the age has reached expires at the write. -/
theorem State.setPulse_expires (heq : f.enabled = (s.piu.channels.read n).enabled)
    (hd : ((s.piu.channels.read n).withSettings f).timedOut = true) : s.setPulse n f =
      (s.setChannel n ((s.piu.channels.read n).withSettings f).expire).judgeProofOf n := by
  obtain ⟨a, ht, -⟩ := (PulseChannel.timedOut_iff _).1 hd
  rw [← PulseChannel.take_expired heq hd]
  refine State.setPulse_judges (.inr ⟨ht, ?_⟩)
  rw [PulseChannel.take_expired heq hd]
  rfl

theorem State.setPulse_keeps (heq : f.enabled = (s.piu.channels.read n).enabled)
    (hd : ¬((s.piu.channels.read n).withSettings f).timedOut = true) :
    s.setPulse n f = s.setChannel n ((s.piu.channels.read n).withSettings f) := by
  rw [← PulseChannel.take_kept heq hd]
  refine State.setPulse_leaves (fun hon => heq.trans hon) fun ht => ?_
  rw [PulseChannel.take_kept heq hd]
  exact ht

/-- R85: an editor seat's settings write, its fields in range. -/
theorem exec_configWritePulseSettings {seat : Seat} {r : Request} (h : s.servesWrite seat (.pulseSettings n) r)
    (he : s.editor seat = true) (hf : pulseFields r = some f) :
    exec (.configWritePulseSettings seat) s = .next ((s.setPulse n f).answer seat r .done []) := by
  refine State.next_onWrite_accepted h ?_
  simp only [State.asEditor_of_editor he, hf, Verdict.fields]

end

/-- Settles O43: each event changes the channel alone, and then the proof of the circuit it decides is judged. -/
theorem edgesTimeoutsAndPulseSettings : Obligations.EdgesTimeoutsAndPulseSettings := by
  unfold Obligations.EdgesTimeoutsAndPulseSettings
  intro unnamed namedBy
  refine ⟨fun s ch us => ?channel, fun s n proof hproof => ?proof⟩
  case channel =>
    intro p with_ judged counter
    have hjudged {c : Instr} {t : State} (hexec : exec c s = .next (t.judgeProofOf ch))
        (hcircuits : t.circuits = s.circuits) : judged c t :=
      State.judgeProofOf_judged (after := .next) hexec hcircuits
    refine ⟨exec_pulseRisingEdge_disabled, fun hon ht => ?starts, fun hon ht hpos hle => ?closes,
      fun hon ht hsoon => ?ignored, fun a ha ht hle => ?expires, fun h => ?early,
      fun seat r e h he hl hmark hs hlo hhi h10 => ?settings⟩
    case starts =>
      rw [← PulseChannel.edge_stopped ht]
      exact hjudged (exec_pulseRisingEdge_accepted hon (PulseChannel.accepts_stopped ht)) rfl
    case closes =>
      rw [← PulseChannel.edge_timing ht]
      exact hjudged (exec_pulseRisingEdge_accepted hon ((PulseChannel.accepts_timing ht).2 ⟨hpos, hle⟩)) rfl
    case ignored =>
      have hnot : ¬(p.advance us).accepts = true := by
        rw [PulseChannel.accepts_timing ht]
        rintro ⟨hpos, hle⟩
        exact hsoon.elim (Nat.not_lt.2 hle) hpos.ne'
      rw [exec_pulseRisingEdge_ignored hon hnot, PulseChannel.advance_timing ht]
      rfl
    case expires => exact hjudged (exec_pulseTimeoutExpiry_due (PulseChannel.timedOut_of_le ha ht hle)) rfl
    case early => exact exec_pulseTimeoutExpiry_early (PulseChannel.not_timedOut h)
    case settings =>
      intro taken plain thenJudged cleared
      have hexec := exec_configWritePulseSettings h he (pulseFields_of_words hl hmark hs hlo hhi h10)
      have hthen {t : State} (ht : s.setPulse ch ⟨e, (r.word 2).toNat, (r.word 3).toNat⟩ = t.judgeProofOf ch)
          (hcircuits : t.circuits = s.circuits) : thenJudged t :=
        State.judgeProofOf_judged (after := fun t => .next (t.answer seat r .done [])) (ht ▸ hexec) hcircuits
      have hplain {t : State} (ht : s.setPulse ch ⟨e, (r.word 2).toNat, (r.word 3).toNat⟩ = t) : plain t := ht ▸ hexec
      refine ⟨fun hne hwas => hthen (State.setPulse_clears hne hwas) rfl,
        fun hne hoff hstopped => hplain (State.setPulse_clears_idle hne hoff hstopped), fun heq hnot => ?kept,
        fun a heq ht ha hle => ?expired⟩
      case kept =>
        subst heq
        refine hplain (State.setPulse_keeps rfl (PulseChannel.not_timedOut ?_))
        rcases hnot with hstopped | hage | ⟨a, ha, hlt⟩
        · exact .inr (.inl hstopped)
        · exact .inl hage
        · exact .inr (.inr ⟨a, ha, show 10 * a + 10 ≤ (r.word 3).toNat by omega⟩)
      case expired =>
        subst heq
        exact hthen (State.setPulse_expires rfl (PulseChannel.timedOut_of_le ha ht hle)) rfl
  case proof =>
    intro recorded
    have hjudged : proofOf s.piu.channels (s.circuit n) = proof :=
      Bool.eq_iff_iff.2 ((proofOf_iff ..).trans hproof.symm)
    refine ⟨fun hsame => State.judgeProof_stays (hjudged.trans hsame), fun hne =>
      ⟨fun hd => State.judgeProof_disabled hd hjudged hne, fun hon => ⟨fun hlost => ?_, fun hregained => ?_⟩⟩⟩
    · subst hlost
      rw [State.judgeProof_changes hjudged hne, Circuit.takeProof_lost hon]
      rfl
    · subst hregained
      rw [State.judgeProof_changes hjudged hne, Circuit.takeProof_regained hon]
      rfl

end Sys2Proof.Machine
end

section
/-! SUPPORT. The writes of a circuit's items: the fields their words give, and the flow field with its proof judged. -/

namespace Sys2Proof.Machine

/-- R95: an editor's write to a circuit that is not DISABLED. -/
theorem State.circuitWrite_held {s : State} {seat : Seat} {n : CircuitNo} (h : s.editor seat = true)
    (hd : (s.circuit n).stage ≠ .disabled) (v : Verdict) : s.circuitWrite seat n v = .refused .stageHolds := by
  rw [State.circuitWrite, State.asEditor_of_editor h, if_pos ((Circuit.enabled_iff _).2 hd)]

/-- R96: no other circuit satisfies a condition. -/
theorem State.otherCircuit_eq_false {s : State} {n : CircuitNo} {p : Circuit → Bool} :
    s.otherCircuit n p = false ↔ ∀ o, o ≠ n → p (s.circuit o) = false := by
  simp [State.otherCircuit]

/-! ### The fields of a circuit's items (R94, R96, R97) -/

section
variable {s : State} {n : CircuitNo} {r : Request}

/-- R96: one to four sensors that no other circuit guards. -/
theorem State.sensorsFields_of_words {set : List SensorCh} (hl : 3 ≤ r.payload.length) (hw : (r.word 1).toNat ≤ 255)
    (hset : set = setMembers 24 (65536 * (r.word 1).toNat + (r.word 2).toNat)) (h1 : 1 ≤ set.length)
    (h4 : set.length ≤ 4) (hfree : ∀ c ∈ set, ∀ o, o ≠ n → c ∉ (s.circuit o).guardSet) :
    s.sensorsFields n r = some set := by
  have hv : wordsNat (r.word 1) (r.word 2) < 2 ^ 24 := by
    rw [wordsNat_eq]
    have := (r.word 2).isLt
    omega
  have hall : set.all (fun c => !s.otherCircuit n fun o => o.guardSet.contains c) = true := by
    simpa [State.otherCircuit_eq_false] using hfree
  rw [← wordsNat_eq] at hset
  subst hset
  exact if_pos ⟨Request.has_of_le hl, hv, List.ne_nil_of_length_pos h1, h4, hall⟩

/-- A word below 32768 is its own value also as a signed one. -/
theorem toInt_of_le {w : Word} {b : Nat} (h : w.toNat ≤ b) (hb : b ≤ 32767) : w.toInt = w.toNat :=
  BitVec.toInt_eq_toNat_of_lt (by omega)

/-- R97: thresholds in their ranges and in their order. -/
theorem thresholdFields_of_words (hl : 6 ≤ r.payload.length) (hlo : -6000 ≤ (r.word 1).toInt)
    (hhi : (r.word 1).toInt ≤ 0) (hwatch : (r.word 2).toNat ≤ 3000) (hact : (r.word 3).toNat < (r.word 2).toNat)
    (htrip : (r.word 4).toNat + 50 ≤ (r.word 3).toNat) (hhyst : (r.word 5).toNat ≤ 300) :
    thresholdFields r = some
      { freezePoint := (r.word 1).toInt, mWatch := (r.word 2).toNat, mAct := (r.word 3).toNat,
        mTrip := (r.word 4).toNat, hysteresis := (r.word 5).toNat } := by
  have h2 := toInt_of_le hwatch (by decide)
  have h3 := toInt_of_le (w := r.word 3) (b := 3000) (by omega) (by decide)
  have h4 := toInt_of_le (w := r.word 4) (b := 3000) (by omega) (by decide)
  have h5 := toInt_of_le hhyst (by decide)
  simp only [thresholdFields, Request.has_of_le hl, if_true, Request.field, Nat.reduceAdd, h2, h3, h4, h5]
  refine Option.filter_some_pos ?_
  simp only [ThresholdFields.allowed, Bool.and_eq_true, decide_eq_true_eq]
  omega

/-- R97: times in their ranges. -/
theorem timeFields_of_words (hl : 4 ≤ r.payload.length) (hpump : (r.word 1).toNat ≤ 1000)
    (hdwell : 10 ≤ (r.word 2).toNat) (hdwell' : (r.word 2).toNat ≤ 3600) (hgrace : 1 ≤ (r.word 3).toNat)
    (hgrace' : (r.word 3).toNat ≤ 600) : timeFields r = some
      { pumpMin := (r.word 1).toNat, tripDwell := (r.word 2).toNat, flowGrace := (r.word 3).toNat } := by
  simp only [timeFields, Request.has_of_le hl, if_true, Request.field, Option.bind_eq_bind,
    inRange?_of_le (Nat.zero_le _) hpump, inRange?_of_le hdwell hdwell', inRange?_of_le hgrace hgrace',
    Option.bind_some]

/-- R96: 65535 names no flow channel. -/
theorem State.flowFields_absent (hl : 4 ≤ r.payload.length) (hw : r.word 1 = 65535#16) :
    s.flowFields n r = some none := (if_pos (Request.has_of_le hl)).trans (if_pos hw)

/-- R96: a flow channel that no other circuit names, with a P_max in its range. -/
theorem State.flowFields_of_words {ch : PulseCh} {pMax : Nat} (hl : 4 ≤ r.payload.length)
    (hch : r.word 1 = BitVec.ofNat 16 ch.val) (hp : pMax = 65536 * (r.word 2).toNat + (r.word 3).toNat)
    (hlo : 1 ≤ pMax) (hhi : pMax ≤ 1048575) (hfree : ∀ o, o ≠ n → ∀ p, (s.circuit o).flow ≠ some (ch, p)) :
    s.flowFields n r = some (some (ch, pMax)) := by
  have hother : s.otherCircuit n (fun o => (o.flow.map (·.1)) == some ch) = false :=
    State.otherCircuit_eq_false.2 fun o ho => Bool.eq_false_of_not_eq_true fun e =>
      have ⟨p, hflow⟩ := (s.names_iff ch o).1 e
      hfree o ho p hflow
  have hindex : index? 8 (r.word 1).toNat = some ch := by rw [hch, index?_ofNat (by decide)]
  have habsent : r.word 1 ≠ absentWord := by
    intro e
    rw [e] at hindex
    cases hindex
  rw [← wordsNat_eq] at hp
  subst hp
  simp only [State.flowFields, Request.has_of_le hl, if_true, Request.field, if_neg habsent, hindex,
    Option.bind_eq_bind, Option.bind_some]
  exact if_pos ⟨hlo, hhi, hother⟩

end

/-! ### The flow field replaced (R91, R95) -/

theorem Bank.write_write {α : Type} {n : Nat} (b : Bank α n) (i : Fin n) (x y : α) :
    (b.write i x).write i y = b.write i y := by
  refine Bank.ext_read fun j => ?_
  simp only [Bank.read_write]
  split <;> rfl

@[simp] theorem State.setCircuit_circuit_same (s : State) (n : CircuitNo) (c : Circuit) :
    (s.setCircuit n c).circuit n = c := Bank.read_write_same ..

/-- A proof recorded in a circuit that was just replaced. -/
theorem State.proofRecorded_setCircuit (s : State) (n : CircuitNo) (proof : Bool) (c c' : Circuit) :
    (s.setCircuit n c').proofRecorded n proof c = s.proofRecorded n proof c := by
  simp only [State.proofRecorded, State.setCircuit, Bank.write_write]

/-- The circuit with its flow field replaced. -/
def Circuit.withFlow (c : Circuit) (f : Option (PulseCh × Nat)) : Circuit := { c with flow := f }

theorem State.setFlow_eq (s : State) (n : CircuitNo) (f : Option (PulseCh × Nat)) :
    s.setFlow n f = (s.setCircuit n ((s.circuit n).withFlow f)).judgeProof n := rfl

section
variable {s : State} {n : CircuitNo} {f : Option (PulseCh × Nat)} {proof : Bool}
  (hproof : proofOf s.piu.channels ((s.circuit n).withFlow f) = proof)
include hproof

theorem State.setFlow_stays (h : proof = s.piu.proven.read n) :
    s.setFlow n f = s.setCircuit n ((s.circuit n).withFlow f) := by
  rw [State.setFlow_eq, State.judgeProof_stays]
  rw [State.setCircuit_circuit_same]
  exact hproof.trans h

/-- R92: a DISABLED circuit's proof that a new flow field changes. -/
theorem State.setFlow_changes (hd : (s.circuit n).stage = .disabled) (hne : proof ≠ s.piu.proven.read n) :
    s.setFlow n f = s.proofRecorded n proof { (s.circuit n).withFlow f with proven := proof } := by
  have hjudged := State.judgeProof_disabled (s := s.setCircuit n ((s.circuit n).withFlow f)) (n := n) (proof := proof)
  rw [State.setCircuit_circuit_same] at hjudged
  rw [State.setFlow_eq, hjudged hd hproof hne, State.proofRecorded_setCircuit]

end

/-- Settles O37: STAGE_HOLDS comes before the fields; a DISABLED circuit takes them, its proof judged at a new flow
field alone. -/
theorem circuitItemsAreTakenWhileDisabled : Obligations.CircuitItemsAreTakenWhileDisabled := by
  intro s seat r n he replaced
  refine ⟨fun hon => ?held, fun hd => ?taken⟩
  case held =>
    have hv (v : Verdict) : some (s.circuitWrite seat n v) = some (.refused .stageHolds) :=
      congrArg some (State.circuitWrite_held he hon v)
    exact ⟨fun h => State.next_onWrite_refused h (hv _), fun h => State.next_onWrite_refused h (hv _),
      fun h => State.next_onWrite_refused h (hv _), fun h => State.next_onWrite_refused h (hv _),
      fun h => State.next_onWrite_refused h (hv _)⟩
  case taken =>
    have hflow {f : Option (PulseCh × Nat)} (h : s.servesWrite seat (.circuitFlow n) r)
        (hf : s.flowFields n r = some f) :
        exec (.configWriteCircuitFlow seat) s = .next ((s.setFlow n f).answer seat r .done []) := by
      refine State.next_onWrite_accepted h ?_
      simp only [State.circuitWrite_disabled he hd, hf, Verdict.fields]
    refine ⟨fun set h hl hw hset h1 h4 hfree => ?sensors, fun h hl hlo hhi hwatch hact htrip hhyst => ?thresholds,
      fun h hl hpump hdwell hdwell' hgrace hgrace' => ?times, fun h hl hw => ?absent,
      fun ch pMax h hl hch hp hlo hhi hfree => ?channel⟩
    case sensors =>
      refine State.next_onWrite_accepted h ?_
      simp only [State.circuitWrite_disabled he hd, State.sensorsFields_of_words hl hw hset h1 h4 hfree, Verdict.fields]
      rfl
    case thresholds =>
      refine State.next_onWrite_accepted h ?_
      simp only [State.circuitWrite_disabled he hd, thresholdFields_of_words hl hlo hhi hwatch hact htrip hhyst,
        Verdict.fields]
      rfl
    case times =>
      refine State.next_onWrite_accepted h ?_
      simp only [State.circuitWrite_disabled he hd, timeFields_of_words hl hpump hdwell hdwell' hgrace hgrace',
        Verdict.fields]
      rfl
    case absent =>
      have hproof : proofOf s.piu.channels ((s.circuit n).withFlow none) = true := rfl
      rw [hflow h (State.flowFields_absent hl hw)]
      refine ⟨fun hproven => ?_, fun hlost => ?_⟩
      · rw [State.setFlow_stays hproof hproven.symm]
        rfl
      · rw [State.setFlow_changes hproof hd (by simp [hlost])]
        rfl
    case channel =>
      intro proof
      have hproof : proofOf s.piu.channels ((s.circuit n).withFlow (some (ch, pMax))) = proof := rfl
      refine ⟨s.setFlow n (some (ch, pMax)), hflow h (State.flowFields_of_words hl hch hp hlo hhi hfree),
        State.setFlow_stays hproof, fun hne => ?_⟩
      rw [State.setFlow_changes hproof hd hne]
      refine ⟨rfl, rfl, rfl, fun q => ?_, rfl, rfl, rfl, rfl⟩
      exact (State.flag_raiseAll (s := s) rfl q .flow).trans (if_pos rfl)

end Sys2Proof.Machine
end

section
/-! SUPPORT. The margin stage: the stage a margin calls for, and how a stage relaxes (R102). -/

namespace Sys2Proof.Machine

theorem Circuit.calledFor_eq (c : Circuit) (m : Int) : c.calledFor m =
    if m < c.mTrip then .trip else if m < c.mAct then .act else if m < c.mWatch then .watch else .clear := rfl

/-- R102: a margin that calls for a worse stage is followed at once. -/
theorem Circuit.nextMarginStage_worsens {c : Circuit} {m : Int} (h : c.marginStage.rank < (c.calledFor m).rank) :
    c.nextMarginStage (some m) = c.calledFor m := if_pos h

/-- R102: otherwise the stage relaxes from the one before. -/
theorem Circuit.nextMarginStage_relaxes {c : Circuit} {m : Int} (h : (c.calledFor m).rank ≤ c.marginStage.rank) :
    c.nextMarginStage (some m) = c.relax m c.marginStage := if_neg (Nat.not_lt.2 h)

section
variable {c : Circuit} {m : Int}

theorem Circuit.relax_trip_held (h : m < c.mTrip + c.hysteresis) : c.relax m .trip = .trip :=
  if_neg (Int.not_le.2 h)

theorem Circuit.relax_trip (h : c.mTrip + c.hysteresis ≤ m) : c.relax m .trip = c.relax m .act := if_pos h

theorem Circuit.relax_act_held (h : m < c.mAct + c.hysteresis) : c.relax m .act = .act := if_neg (Int.not_le.2 h)

theorem Circuit.relax_act (h : c.mAct + c.hysteresis ≤ m) : c.relax m .act = c.relax m .watch := if_pos h

theorem Circuit.relax_watch_held (h : m < c.mWatch + c.hysteresis) : c.relax m .watch = .watch :=
  if_neg (Int.not_le.2 h)

theorem Circuit.relax_watch (h : c.mWatch + c.hysteresis ≤ m) : c.relax m .watch = .clear := if_pos h

/-- R102: a margin that has reached every threshold plus H relaxes any stage to CLEAR. -/
theorem Circuit.relax_clear (htrip : c.mTrip + c.hysteresis ≤ m) (hact : c.mAct + c.hysteresis ≤ m)
    (hwatch : c.mWatch + c.hysteresis ≤ m) (l : Level) : c.relax m l = .clear := by
  cases l with
  | clear => rfl
  | watch => exact relax_watch hwatch
  | act => rw [relax_act hact, relax_watch hwatch]
  | trip => rw [relax_trip htrip, relax_act hact, relax_watch hwatch]

/-- R102: with H not negative, the thresholds that a relaxing stage has passed are ones that the margin has reached. -/
theorem Circuit.calledFor_le_relax (hact : c.mTrip < c.mAct) (hwatch : c.mAct < c.mWatch) (hyst : 0 ≤ c.hysteresis)
    {l : Level} (h : (c.calledFor m).rank ≤ l.rank) : (c.calledFor m).rank ≤ (c.relax m l).rank := by
  have hW (h : (c.calledFor m).rank ≤ Level.watch.rank) : (c.calledFor m).rank ≤ (c.relax m .watch).rank := by
    rcases lt_or_ge m (c.mWatch + c.hysteresis) with hm | hm
    · rwa [relax_watch_held hm]
    · rw [relax_watch hm, calledFor_eq, if_neg (by omega), if_neg (by omega), if_neg (by omega)]
  have hA (h : (c.calledFor m).rank ≤ Level.act.rank) : (c.calledFor m).rank ≤ (c.relax m .act).rank := by
    rcases lt_or_ge m (c.mAct + c.hysteresis) with hm | hm
    · rwa [relax_act_held hm]
    · rw [relax_act hm]
      refine hW ?_
      rw [calledFor_eq, if_neg (by omega), if_neg (by omega)]
      split <;> decide
  cases l with
  | clear => exact h
  | watch => exact hW h
  | act => exact hA h
  | trip =>
    rcases lt_or_ge m (c.mTrip + c.hysteresis) with hm | hm
    · rwa [relax_trip_held hm]
    · rw [relax_trip hm]
      refine hA ?_
      rw [calledFor_eq, if_neg (by omega)]
      split
      · exact Nat.le_refl _
      · split <;> decide

end

/-- Settles O44: a worse stage called for is taken at once, and a relaxing stage stops at the first threshold plus H
that the margin has not reached. -/
theorem marginStageRelaxesByThresholds : Obligations.MarginStageRelaxesByThresholds := by
  intro c hact hwatch
  refine ⟨rfl, fun m => ?_⟩
  intro called next
  refine ⟨Circuit.nextMarginStage_worsens, fun h => ?relaxes, fun hyst => ?bound⟩
  case relaxes =>
    have hnext : next = c.relax m c.marginStage := Circuit.nextMarginStage_relaxes h
    rw [hnext]
    refine ⟨fun hs hm => ?trip, fun hs hm => ?act, fun hs hm => ?watch, fun hs => ?clear⟩
    case trip => rw [hs, Circuit.relax_trip_held hm]
    case act =>
      rcases hs with hs | ⟨hs, htrip⟩
      · rw [hs, Circuit.relax_act_held hm]
      · rw [hs, Circuit.relax_trip htrip, Circuit.relax_act_held hm]
    case watch =>
      rcases hs with hs | ⟨hs, hact⟩ | ⟨hs, htrip, hact⟩
      · rw [hs, Circuit.relax_watch_held hm]
      · rw [hs, Circuit.relax_act hact, Circuit.relax_watch_held hm]
      · rw [hs, Circuit.relax_trip htrip, Circuit.relax_act hact, Circuit.relax_watch_held hm]
    case clear =>
      rcases hs with hs | ⟨htrip, hact, hwatch⟩
      · rw [hs]
        rfl
      · exact Circuit.relax_clear htrip hact hwatch _
  case bound =>
    rcases lt_or_ge c.marginStage.rank called.rank with h | h
    · exact (congrArg Level.rank (Circuit.nextMarginStage_worsens h)).ge
    · exact (Circuit.calledFor_le_relax hact hwatch hyst h).trans
        (congrArg Level.rank (Circuit.nextMarginStage_relaxes h)).ge

end Sys2Proof.Machine
end

section
/-! SUPPORT. What an evaluation of a circuit finds: the guard temperature and the margin, the three causes' stages and
the worst of them, the ACT ceiling and the bounds. -/

namespace Sys2Proof.Machine

/-! ### The guard temperature and the sensor cause (R100) -/

section
variable {results : Bank SensorResult 24} {set : List SensorCh}

theorem mem_guardTemps {t : Int} : t ∈ guardTemps results set ↔
    ∃ ch ∈ set, (results.read ch).validity = .valid ∧ (results.read ch).filtered = t := by
  simp [guardTemps, and_assoc]

theorem guardTempOf_eq_min? : guardTempOf results set = (guardTemps results set).min? := by
  unfold guardTempOf
  split
  · next h => rw [h]; rfl
  · next h => rw [h]; rfl

/-- R100: no VALID guard channel, no guard temperature. -/
theorem guardTempOf_none (h : ∀ ch ∈ set, ¬(results.read ch).validity = .valid) : guardTempOf results set = none := by
  rw [guardTempOf_eq_min?, List.min?_eq_none_iff, List.eq_nil_iff_forall_not_mem]
  intro t ht
  obtain ⟨ch, hmem, hvalid, -⟩ := mem_guardTemps.1 ht
  exact h ch hmem hvalid

/-- R100: the guard temperature is that of a VALID guard channel than which no VALID guard channel is colder. -/
theorem guardTempOf_lowest (h : ∃ ch ∈ set, (results.read ch).validity = .valid) :
    ∃ ch ∈ set, (results.read ch).validity = .valid ∧ guardTempOf results set = some (results.read ch).filtered ∧
      ∀ ch' ∈ set, (results.read ch').validity = .valid →
        (results.read ch).filtered ≤ (results.read ch').filtered := by
  obtain ⟨ch₀, hmem₀, hvalid₀⟩ := h
  have hne : guardTempOf results set ≠ none := by
    rw [guardTempOf_eq_min?, ne_eq, List.min?_eq_none_iff]
    exact List.ne_nil_of_mem (mem_guardTemps.2 ⟨ch₀, hmem₀, hvalid₀, rfl⟩)
  obtain ⟨t, ht⟩ := Option.ne_none_iff_exists'.1 hne
  obtain ⟨hmem, hle⟩ := List.min?_eq_some_iff.1 (guardTempOf_eq_min?.symm.trans ht)
  obtain ⟨ch, hch, hvalid, rfl⟩ := mem_guardTemps.1 hmem
  exact ⟨ch, hch, hvalid, ht, fun ch' hch' hvalid' => hle _ (mem_guardTemps.2 ⟨ch', hch', hvalid', rfl⟩)⟩

theorem sensorCauseOf_valid (h : ∃ ch ∈ set, (results.read ch).validity = .valid) :
    sensorCauseOf results set = .none := if_pos (by simpa using h)

theorem sensorCauseOf_lost (h : ∀ ch ∈ set, ¬(results.read ch).validity = .valid) : sensorCauseOf results set =
    if ∃ ch ∈ set, (results.read ch).validity = .notYet then .pending else .sensorLost := by
  refine (if_neg (by simpa using h)).trans (if_congr ?_ rfl rfl)
  simp

end

/-! ### The worst stage (R105) -/

theorem Level.rank_worst (a b : Level) : (a.worst b).rank = max a.rank b.rank := by
  unfold Level.worst
  split
  · next h => exact (max_eq_right h).symm
  · next h => exact (max_eq_left (Nat.le_of_not_le h)).symm

theorem Level.worst_eq_or (a b : Level) : a.worst b = a ∨ a.worst b = b := by
  unfold Level.worst
  split
  · exact .inr rfl
  · exact .inl rfl

/-- No stage is worse than TRIP. -/
theorem Level.eq_trip_of_rank_le {l : Level} (h : Level.trip.rank ≤ l.rank) : l = .trip := by
  revert h
  cases l <;> decide

theorem Circuit.worstStage_eq_or (c : Circuit) :
    c.worstStage = c.marginStage ∨ c.worstStage = c.flowStage ∨ c.worstStage = c.sensorStage := by
  rcases (c.marginStage.worst c.flowStage).worst_eq_or c.sensorStage with h | h
  · rcases c.marginStage.worst_eq_or c.flowStage with h' | h'
    · exact .inl (h.trans h')
    · exact .inr (.inl (h.trans h'))
  · exact .inr (.inr h)

theorem Circuit.worstStage_ge (c : Circuit) : c.marginStage.rank ≤ c.worstStage.rank ∧
    c.flowStage.rank ≤ c.worstStage.rank ∧ c.sensorStage.rank ≤ c.worstStage.rank := by
  simp only [Circuit.worstStage, Level.rank_worst]
  omega

/-! ### The stage of an evaluation (R103 to R105, R113) -/

section
variable (results : Bank SensorResult 24)

/-- R105: LOCKOUT that is not lifted stays. -/
theorem Circuit.evaluate_lockout {c : Circuit} (h : c.stage = .lockout) :
    (c.evaluate results false).stage = .lockout := if_pos ⟨h, rfl⟩

theorem Circuit.evaluate_level {c : Circuit} {lift : Bool} (h : c.stage ≠ .lockout ∨ lift = true) :
    (c.evaluate results lift).stage = .level (c.findCauses results).worstStage :=
  if_neg fun ⟨hs, hl⟩ => h.elim (absurd hs) fun ht => by rw [ht] at hl; cases hl

/-- R105: an evaluation never gives DISABLED. -/
theorem Circuit.evaluate_ne_disabled (c : Circuit) (lift : Bool) : (c.evaluate results lift).stage ≠ .disabled := by
  by_cases h : c.stage ≠ .lockout ∨ lift = true
  · rw [Circuit.evaluate_level results h]
    exact Stage.noConfusion
  · obtain ⟨hs, hl⟩ := not_or.1 h
    obtain rfl := Bool.eq_false_of_not_eq_true hl
    rw [Circuit.evaluate_lockout results (not_not.1 hs)]
    exact Stage.noConfusion

theorem Circuit.evaluate_flowStage (c : Circuit) (lift : Bool) : (c.evaluate results lift).flowStage =
    if c.proven then .clear else if c.graceExpired then .trip else .act := rfl

/-- R103, R105: proof still lost after its grace is TRIP, whatever the other causes give. -/
theorem Circuit.evaluate_trip {c : Circuit} (hlost : c.proven = false) (hgrace : c.graceExpired = true)
    (h : c.stage ≠ .lockout) : (c.evaluate results false).stage = .level .trip := by
  have hflow : (c.findCauses results).flowStage = .trip := by
    rw [Circuit.findCauses, hlost, hgrace]
    rfl
  obtain ⟨-, hle, -⟩ := (c.findCauses results).worstStage_ge
  rw [hflow] at hle
  rw [Circuit.evaluate_level results (.inl h), Level.eq_trip_of_rank_le hle]

theorem Circuit.evaluate_dwellLeft (c : Circuit) (lift : Bool) : (c.evaluate results lift).dwellLeft =
    if (c.evaluate results lift).stage = .level .trip then
      (if c.stage = .level .trip then c.dwellLeft else some (100 * c.tripDwell)) else none := by
  rw [Nat.mul_comm]
  rfl

end

/-! ### The ACT ceiling (R107) -/

theorem Circuit.actCeiling_some (c : Circuit) (m : Int) : (c.actCeiling (some m) : Int) =
    max 0 (min 1000 (1000 * (m - c.mTrip) / (c.mAct - c.mTrip))) := Int.toNat_of_nonneg (le_max_left _ _)

section
variable {c : Circuit} {m : Int} (h : c.mTrip < c.mAct)
include h

theorem Circuit.actCeiling_above (hm : c.mAct ≤ m) : c.actCeiling (some m) = 1000 := by
  have hq : 1000 ≤ 1000 * (m - c.mTrip) / (c.mAct - c.mTrip) := (Int.le_ediv_iff_mul_le (by omega)).2 (by omega)
  have := c.actCeiling_some m
  omega

theorem Circuit.actCeiling_below (hm : m ≤ c.mTrip) : c.actCeiling (some m) = 0 := by
  have hq : 1000 * (m - c.mTrip) / (c.mAct - c.mTrip) ≤ 0 := Int.ediv_nonpos_of_nonpos_of_neg (by omega) (by omega)
  have := c.actCeiling_some m
  omega

/-- R107: between M_trip and M_act the ceiling is the margin's part of the way, rounded toward negative infinity. -/
theorem Circuit.actCeiling_between (hlo : c.mTrip ≤ m) (hhi : m ≤ c.mAct) :
    (c.actCeiling (some m) : Int) = (1000 * (m - c.mTrip)).fdiv (c.mAct - c.mTrip) := by
  have hlo' : 0 ≤ 1000 * (m - c.mTrip) / (c.mAct - c.mTrip) := Int.ediv_nonneg (by omega) (by omega)
  have hhi' : 1000 * (m - c.mTrip) / (c.mAct - c.mTrip) ≤ 1000 := Int.ediv_le_of_le_mul (by omega) (by omega)
  rw [c.actCeiling_some, Int.fdiv_eq_ediv_of_nonneg _ (by omega), min_eq_right hhi', max_eq_right hlo']

end

end Sys2Proof.Machine
end

section
/-! SUPPORT. A circuit changed with all that it hands on: its flag, the shut-offs of its frost trip and its bounds. -/

namespace Sys2Proof.Machine

/-! ### The hand-offs of a change (R108 to R110) -/

theorem Stage.frostTrip_iff (x : Stage) : x.frostTrip = true ↔ x = .level .trip ∨ x = .lockout := by
  rcases x with _ | l | _
  · simp [Stage.frostTrip]
  · cases l <;> simp [Stage.frostTrip]
  · simp [Stage.frostTrip]

theorem Circuit.tripBegins_iff (was now : Circuit) : was.tripBegins now = true ↔
    ¬(was.stage = .level .trip ∨ was.stage = .lockout) ∧ (now.stage = .level .trip ∨ now.stage = .lockout) := by
  rw [Circuit.tripBegins, Bool.and_eq_true, Bool.not_eq_true', ← Bool.not_eq_true, Stage.frostTrip_iff,
    Stage.frostTrip_iff]

section
variable (s : State) (n : CircuitNo) (now : Circuit)

theorem State.stageRaised_eq : s.stageRaised n now =
    { s with
      circuits := s.circuits.write n now
      evu := if now.stage = (s.circuit n).stage then s.evu else s.evu.raiseAll (.stage n) } := by
  unfold State.stageRaised State.raiseIf
  by_cases h : now.stage = (s.circuit n).stage
  · rw [if_neg (by simp [h]), if_pos h]
  · rw [if_pos (by simpa using Ne.symm h), if_neg h]
    rfl

theorem State.stageRaised_record (c : OutCh) : (s.stageRaised n now).record c = s.record c := by
  simp only [State.stageRaised, State.record, State.raiseIf_cmdt]

theorem State.stageRaised_oddMember (c : OutCh) : (s.stageRaised n now).odu.oddMember c = s.odu.oddMember c := by
  simp only [State.stageRaised, State.raiseIf_odu]

/-- R109, R136: the frost trip begins for exactly the channels that the change catches. -/
theorem State.stageRaised_causeBegins : (if (s.circuit n).tripBegins now = true then
      (s.stageRaised n now).causeBegins .frostTrip fun c => ((s.stageRaised n now).record c).circuit == some n
    else s.stageRaised n now) = (s.stageRaised n now).shutOffWhere (s.tripCatches n now) := by
  split
  · next h =>
    rw [State.causeBegins]
    congr 1
    funext c
    simp only [State.tripCatches, h, State.stageRaised_record, State.stageRaised_shutoff, Bool.true_and]
    rfl
  · next h =>
    refine (((s.stageRaised n now).shutOffWhere_shutDown _).1 fun c hc => ?_).symm
    obtain ⟨hcatch, -⟩ := hc
    rw [State.tripCatches, Bool.and_eq_true] at hcatch
    exact h hcatch.1

/-- R108 to R110: the flag, then the shut-offs, then the bounds (assumption 9). -/
theorem State.changeCircuit_handBounds : s.changeCircuit n now =
    ((s.stageRaised n now).shutOffWhere (s.tripCatches n now)).handBounds n (s.circuit n).bounds now.bounds := by
  rw [← State.stageRaised_causeBegins]
  rfl

theorem State.handBounds_eq (was now : Bounds) : s.handBounds n was now = s.withRecords fun c rec =>
    if rec.circuit = some n ∧ boundFor was rec.role c ≠ boundFor now rec.role c then
      { rec with
        bound := boundFor now rec.role c
        effective := (boundFor now rec.role c).apply rec.limited }
    else rec := by
  simp only [State.handBounds, Bounds.forRole_eq]
  rfl

/-- The channels of circuit `n`, whose records take changes, that a change to `now` shuts off. -/
def State.caughtBy (c : OutCh) : Prop :=
  (s.odu.oddMember c = false ∧ (s.record c).circuit = some n) ∧ (s.shutoff c).mask.frostTrip = true ∧
    s.shutOff c = false ∧ ¬((s.circuit n).stage = .level .trip ∨ (s.circuit n).stage = .lockout) ∧
    (now.stage = .level .trip ∨ now.stage = .lockout)

theorem State.caughtBy_iff (c : OutCh) : s.caughtBy n now c ↔
    s.tripCatches n now c = true ∧ s.shutOff c = false ∧ s.odu.oddMember c = false := by
  rw [State.caughtBy, State.tripCatches, Bool.and_eq_true, Bool.and_eq_true, Circuit.tripBegins_iff, beq_iff_eq]
  tauto

theorem State.stageRaised_shutDown :
    shutDown (s.stageRaised n now) ((s.stageRaised n now).shutOffWhere (s.tripCatches n now)) (s.caughtBy n now) := by
  have hstruck : s.caughtBy n now = fun c => s.tripCatches n now c = true ∧ (s.stageRaised n now).shutOff c = false ∧
      (s.stageRaised n now).odu.oddMember c = false := by
    funext c
    rw [State.stageRaised_shutOff, State.stageRaised_oddMember, eq_iff_iff]
    exact s.caughtBy_iff n now c
  rw [hstruck]
  exact (s.stageRaised n now).shutOffWhere_shutDown _

theorem State.changeCircuit_shutOff_iff (c : OutCh) :
    (s.changeCircuit n now).shutOff c = true ↔ s.shutOff c = true ∨ s.caughtBy n now c := by
  rw [State.caughtBy_iff, State.changeCircuit_shutOff]
  cases s.shutOff c <;> simp

/-- R108, R109: the flags that a change raises. -/
theorem State.raisedBy_changeCircuit (f : Flag) : s.raisedBy (s.changeCircuit n now) f ↔
    f = .stage n ∧ now.stage ≠ (s.circuit n).stage ∨ f = .shutoff ∧ ∃ c, s.caughtBy n now c := by
  refine or_congr ⟨?_, ?_⟩ (and_congr_right fun _ => exists_congr fun c => ?_)
  · rintro ⟨m, rfl, hm⟩
    rw [State.changeCircuit_circuit] at hm
    split at hm
    · next h => subst h; exact ⟨rfl, hm⟩
    · exact absurd rfl hm
  · rintro ⟨rfl, hm⟩
    exact ⟨n, rfl, by rwa [State.changeCircuit_circuit, if_pos rfl]⟩
  · have hiff := s.changeCircuit_shutOff_iff n now c
    have hopen : s.caughtBy n now c → s.shutOff c = false := fun h => ((s.caughtBy_iff n now c).1 h).2.1
    constructor
    · intro hne
      have hnot : ¬s.shutOff c = true := fun h => hne ((hiff.2 (.inl h)).trans h.symm)
      have hnow : (s.changeCircuit n now).shutOff c = true := by
        rw [Bool.eq_false_of_not_eq_true hnot] at hne
        exact Bool.eq_true_of_not_eq_false hne
      exact (hiff.1 hnow).resolve_left hnot
    · intro h
      rw [hiff.2 (.inr h), hopen h]
      decide

theorem State.changeCircuit_record_handed (c : OutCh) :
    let reached := (s.odu.oddMember c = false ∧ (s.record c).circuit = some n) ∧
      boundFor (s.circuit n).bounds (s.record c).role c ≠ boundFor now.bounds (s.record c).role c
    (reached → (s.changeCircuit n now).record c = { s.record c with
        bound := boundFor now.bounds (s.record c).role c
        effective := (boundFor now.bounds (s.record c).role c).apply (s.record c).limited }) ∧
      (¬reached → (s.changeCircuit n now).record c = s.record c) := by
  simp only [State.changeCircuit_record, Bounds.forRole_eq, and_assoc]
  exact ⟨fun h => if_pos h, fun h => if_neg h⟩

/-- R108 to R110: a change of a circuit hands on what the rules give. -/
theorem State.changeCircuit_changed : circuitChanged s (s.changeCircuit n now) n now := by
  obtain ⟨-, hflags⟩ := s.changeCircuit_flags n now
  refine ⟨⟨(s.stageRaised n now).shutOffWhere (s.tripCatches n now), ?_, ?_⟩, s.changeCircuit_circuits n now,
    fun c => ⟨s.changeCircuit_shutOff_iff n now c, s.changeCircuit_shutoff n now c⟩,
    fun c => s.changeCircuit_record_handed n now c, fun q f => ?_, ?_⟩
  · rw [← State.stageRaised_eq]
    exact s.stageRaised_shutDown n now
  · rw [State.changeCircuit_handBounds, State.handBounds_eq]
  · have hf := hflags q f
    rw [State.raisedBy_changeCircuit] at hf
    exact hf
  · simp

end

/-- R99: the evaluation of an enabled circuit is a change of it. -/
theorem State.evaluate_enabled {s : State} {n : CircuitNo} (h : (s.circuit n).stage ≠ .disabled) :
    s.evaluate n = s.changeCircuit n ((s.circuit n).evaluate s.smu.results false) :=
  if_pos ((Circuit.enabled_iff _).2 h)

/-- Settles O46: the causes, their worst stage, the ceiling and the bounds each by their own lemmas; the evaluation of a
part is the change of one circuit, with what a change hands on. -/
theorem evaluationFindsStageAndBounds : Obligations.EvaluationFindsStageAndBounds := by
  refine ⟨fun results lift c => ?found, fun c h => ?ceiling, fun v pumpMin => ⟨rfl, rfl, rfl, rfl, rfl, rfl⟩,
    fun s n => ⟨State.evaluate_disabled, fun h => ?handed⟩⟩
  case found =>
    intro t valid
    refine ⟨fun h => ?none, fun h => ?some, rfl, rfl, ?sensorStage, fun hs hl => ?lockout, fun h => ?level,
      c.evaluate_dwellLeft results lift, rfl, rfl, rfl⟩
    case none =>
      have htemp : t.guardTemp = none := guardTempOf_none h
      exact ⟨htemp, congrArg (marginOf · c.freezePoint) htemp, sensorCauseOf_lost h⟩
    case some =>
      obtain ⟨ch, hmem, hvalid, htemp, hlowest⟩ := guardTempOf_lowest h
      exact ⟨sensorCauseOf_valid h, ch, hmem, hvalid, htemp, congrArg (marginOf · c.freezePoint) htemp, hlowest⟩
    case sensorStage =>
      show sensorStageOf t.sensorCause = _
      cases t.sensorCause <;> rfl
    case lockout =>
      subst hl
      exact Circuit.evaluate_lockout results hs
    case level =>
      exact ⟨_, Circuit.evaluate_level results h, (c.findCauses results).worstStage_eq_or,
        (c.findCauses results).worstStage_ge⟩
  case ceiling =>
    have hlt : c.mTrip < c.mAct := by omega
    exact ⟨rfl, fun m => ⟨c.actCeiling_le _, c.actCeiling_above hlt, c.actCeiling_below hlt,
      c.actCeiling_between hlt⟩⟩
  case handed =>
    rw [State.evaluate_enabled h]
    exact s.changeCircuit_changed n _

end Sys2Proof.Machine
end

section
/-! SUPPORT. The timers of a circuit: the flow grace and the trip dwell run out. -/

namespace Sys2Proof.Machine

theorem lastStep_iff (left : Option Nat) : lastStep left = true ↔ left = some 0 ∨ left = some 1 := by
  cases left with
  | none => simp [lastStep]
  | some k =>
    simp only [lastStep, decide_eq_true_eq, Option.some.injEq]
    omega

/-- R106: the circuit in LOCKOUT: no ceiling, no dwell, and the bounds of TRIP. -/
theorem Circuit.withStage_lockout (c : Circuit) : c.withStage .lockout = { c with
    stage := .lockout, dwellLeft := none, ceiling := none
    bounds := { fanCeiling := some 0, bypassFloor := some 1000, modulatedPump := some c.pumpMin,
                discretePump := some 1000 } } := rfl

section
variable {s : State} {n : CircuitNo}

/-! ### The expiries (R104, R106) -/

/-- R104: the circuit whose flow grace has run out. -/
def State.graceOver (s : State) (n : CircuitNo) : State :=
  { s with circuits := s.circuits.write n { s.circuit n with graceLeft := none, graceExpired := true } }

theorem State.graceOver_circuit (s : State) (n m : CircuitNo) : (s.graceOver n).circuit m =
    if n = m then { s.circuit n with graceLeft := none, graceExpired := true } else s.circuit m := Bank.read_write ..

theorem exec_flowGraceExpiry_due (hon : (s.circuit n).stage ≠ .disabled)
    (hleft : (s.circuit n).graceLeft = some 0 ∨ (s.circuit n).graceLeft = some 1) :
    exec (.flowGraceExpiry n) s = .next ((s.graceOver n).evaluate n) :=
  congrArg Host.Outcome.next (if_pos (by rw [(Circuit.enabled_iff _).2 hon, (lastStep_iff _).2 hleft]; rfl))

theorem exec_flowGraceExpiry_early (h : (s.circuit n).stage = .disabled ∨
      ¬((s.circuit n).graceLeft = some 0 ∨ (s.circuit n).graceLeft = some 1)) :
    exec (.flowGraceExpiry n) s = .next s := by
  refine congrArg Host.Outcome.next (if_neg ?_)
  rw [Bool.and_eq_true, Circuit.enabled_iff, lastStep_iff]
  exact fun ⟨hon, hleft⟩ => h.elim hon fun hnot => hnot hleft

/-- R106: the circuit whose trip dwell has run out, in LOCKOUT, before its evaluation. -/
def State.lockedOut (s : State) (n : CircuitNo) : State :=
  (s.changeCircuit n ((s.circuit n).withStage .lockout)).raiseAll .lockout

theorem State.lockedOut_circuit (s : State) (n m : CircuitNo) : (s.lockedOut n).circuit m =
    if n = m then (s.circuit n).withStage .lockout else s.circuit m := by
  rw [← State.changeCircuit_circuit]
  simp only [State.lockedOut, State.circuit, State.raiseAll_circuits]

theorem exec_tripDwellExpiry_due (htrip : (s.circuit n).stage = .level .trip)
    (hleft : (s.circuit n).dwellLeft = some 0 ∨ (s.circuit n).dwellLeft = some 1) :
    exec (.tripDwellExpiry n) s = .next ((s.lockedOut n).evaluate n) :=
  congrArg Host.Outcome.next (if_pos (by rw [htrip, (lastStep_iff _).2 hleft]; rfl))

theorem exec_tripDwellExpiry_early (h : (s.circuit n).stage ≠ .level .trip ∨
      ¬((s.circuit n).dwellLeft = some 0 ∨ (s.circuit n).dwellLeft = some 1)) :
    exec (.tripDwellExpiry n) s = .next s := by
  refine congrArg Host.Outcome.next (if_neg ?_)
  rw [Bool.and_eq_true, beq_iff_eq, lastStep_iff]
  exact fun ⟨htrip, hleft⟩ => h.elim (absurd htrip) fun hnot => hnot hleft

/-! ### What the evaluation at an expiry finds and leaves -/

theorem State.evaluate_circuit_same (h : (s.circuit n).stage ≠ .disabled) :
    (s.evaluate n).circuit n = (s.circuit n).evaluate s.smu.results false := by
  rw [State.evaluate_circuit, if_pos rfl, Circuit.reevaluated, if_pos ((Circuit.enabled_iff _).2 h)]

theorem State.evaluate_circuit_other {o : CircuitNo} (h : o ≠ n) : (s.evaluate n).circuit o = s.circuit o := by
  rw [State.evaluate_circuit, if_neg (Ne.symm h)]

/-- R159: no change of a circuit clears a flag. -/
theorem State.changeCircuit_flag_fresh {now : Circuit} {q : Seat} {f : Flag} (h : s.flag q f = .fresh) :
    (s.changeCircuit n now).flag q f = .fresh := by
  obtain ⟨-, hflags⟩ := s.changeCircuit_flags n now
  obtain ⟨hfresh, hsame⟩ := hflags q f
  by_cases hr : s.raisedBy (s.changeCircuit n now) f
  · exact hfresh hr
  · rw [hsame hr, h]

theorem State.evaluate_flag_fresh {q : Seat} {f : Flag} (h : s.flag q f = .fresh) :
    (s.evaluate n).flag q f = .fresh := by
  by_cases hd : (s.circuit n).stage = .disabled
  · rwa [State.evaluate_disabled hd]
  · rw [State.evaluate_enabled hd]
    exact State.changeCircuit_flag_fresh h

/-- R108: a change that changes the stage raises the circuit's flag. -/
theorem State.changeCircuit_stageFlag {now : Circuit} (h : now.stage ≠ (s.circuit n).stage) (q : Seat) :
    (s.changeCircuit n now).flag q (.stage n) = .fresh := by
  obtain ⟨-, hflags⟩ := s.changeCircuit_flags n now
  exact (hflags q _).1 ((s.raisedBy_changeCircuit n now _).2 (.inl ⟨rfl, h⟩))

theorem State.lockedOut_flags (htrip : (s.circuit n).stage = .level .trip) (q : Seat) :
    (s.lockedOut n).flag q .lockout = .fresh ∧ (s.lockedOut n).flag q (.stage n) = .fresh := by
  have hraised := State.flag_raiseAll (t := s.lockedOut n) (f := .lockout) rfl q
  refine ⟨(hraised _).trans (if_pos rfl), (hraised _).trans ((if_neg Flag.noConfusion).trans ?_)⟩
  refine State.changeCircuit_stageFlag ?_ q
  rw [htrip]
  exact Stage.noConfusion

end

/-- Settles O45: a timer at its last step expires into the evaluation of the circuit, and any other leaves the part. -/
theorem guardTimersRunOut : Obligations.GuardTimersRunOut := by
  intro s n c out
  refine ⟨exec_flowGraceExpiry_due, exec_flowGraceExpiry_early, fun htrip hleft => ?lockout,
    exec_tripDwellExpiry_early, fun hon hleft hlost => ?graceTrips, fun htrip hleft => ?dwellLocks⟩
  case lockout =>
    exact ⟨s.changeCircuit n (c.withStage .lockout), s.changeCircuit_changed n _, exec_tripDwellExpiry_due htrip hleft⟩
  case graceTrips =>
    have hcircuit : (s.graceOver n).circuit n = { c with graceLeft := none, graceExpired := true } :=
      (s.graceOver_circuit n n).trans (if_pos rfl)
    have hfound : ((s.graceOver n).evaluate n).circuit n =
        Circuit.evaluate s.smu.results false { c with graceLeft := none, graceExpired := true } := by
      rw [State.evaluate_circuit_same (by rw [hcircuit]; exact hon), hcircuit]
      rfl
    refine ⟨_, exec_flowGraceExpiry_due hon hleft, ?_, ?_, ?_, fun hstage => ?_, fun o ho => ?_, ?_, ?_, ?_⟩
    · rw [hfound]
      rfl
    · rw [hfound]
      rfl
    · rw [hfound, Circuit.evaluate_flowStage, hlost]
      rfl
    · rw [hfound]
      exact Circuit.evaluate_trip _ hlost rfl hstage
    · rw [State.evaluate_circuit_other ho, State.graceOver_circuit, if_neg (Ne.symm ho)]
    · exact State.evaluate_lbi ..
    · exact State.evaluate_smu ..
    · exact State.evaluate_piu ..
  case dwellLocks =>
    have hcircuit : (s.lockedOut n).circuit n = c.withStage .lockout := (s.lockedOut_circuit n n).trans (if_pos rfl)
    have hfound : ((s.lockedOut n).evaluate n).circuit n =
        (c.withStage .lockout).evaluate (s.lockedOut n).smu.results false := by
      rw [State.evaluate_circuit_same (by rw [hcircuit]; exact Stage.noConfusion), hcircuit]
    have hstage : (((s.lockedOut n).evaluate n).circuit n).stage = .lockout := by
      rw [hfound]
      exact Circuit.evaluate_lockout _ rfl
    refine ⟨_, exec_tripDwellExpiry_due htrip hleft, hstage, ?_, fun q => ?_, fun o ho => ?_, ?_, ?_, ?_⟩
    · rw [hfound] at hstage ⊢
      rw [Circuit.evaluate_dwellLeft, hstage, if_neg Stage.noConfusion]
    · exact (State.lockedOut_flags htrip q).imp State.evaluate_flag_fresh State.evaluate_flag_fresh
    · rw [State.evaluate_circuit_other ho, State.lockedOut_circuit, if_neg (Ne.symm ho)]
    · simp [State.lockedOut]
    · simp [State.lockedOut]
    · simp [State.lockedOut]

end Sys2Proof.Machine
end

section
/-! SUPPORT. What the commands do to a circuit in LOCKOUT: none but a release and the power-on reset takes it out. -/

namespace Sys2Proof.Machine

/-! ### LOCKOUT kept -/

/-- R113: the circuits that `s` has in LOCKOUT are in LOCKOUT in `t`. -/
def State.KeepsLockout (s t : State) : Prop := ∀ n, (s.circuit n).stage = .lockout → (t.circuit n).stage = .lockout

theorem State.setCircuit_circuit (s : State) (n : CircuitNo) (c : Circuit) (m : CircuitNo) :
    (s.setCircuit n c).circuit m = if n = m then c else s.circuit m := Bank.read_write ..

theorem Circuit.reevaluated_lockout (results : Bank SensorResult 24) {c : Circuit} (h : c.stage = .lockout) :
    (c.reevaluated results).stage = .lockout := by
  rw [Circuit.reevaluated, if_pos ((Circuit.enabled_iff _).2 (by rw [h]; exact Stage.noConfusion))]
  exact Circuit.evaluate_lockout results h

namespace State.KeepsLockout

/-- An operation beside the circuits. -/
theorem same {s t : State} (h : t.circuits = s.circuits := by simp) : s.KeepsLockout t := fun n hn => by
  rwa [State.circuit, h]

theorem refl (s : State) : s.KeepsLockout s := fun _ hn => hn

theorem trans {s t u : State} (h : s.KeepsLockout t) (h' : t.KeepsLockout u) : s.KeepsLockout u :=
  fun n hn => h' n (h n hn)

/-- A change of the circuits, followed by an operation beside them. -/
theorem andThen {s t u : State} (h : s.KeepsLockout t) (hu : u.circuits = t.circuits := by simp) : s.KeepsLockout u :=
  h.trans (.same hu)

theorem foldl {β : Type} {f : State → β → State} (h : ∀ (s : State) b, s.KeepsLockout (f s b)) (l : List β)
    (s : State) : s.KeepsLockout (l.foldl f s) := by
  induction l generalizing s with
  | nil => exact .refl s
  | cons b l ih => exact (h s b).trans (ih _)

/-! ### One circuit replaced, evaluated or judged -/

/-- One circuit is replaced, which stays in LOCKOUT where it was. -/
theorem one {s t : State} {m : CircuitNo} {now : Circuit} (hc : ∀ n, t.circuit n = if m = n then now else s.circuit n)
    (h : (s.circuit m).stage = .lockout → now.stage = .lockout) : s.KeepsLockout t := fun n hn => by
  rw [hc]
  split
  · next e => subst e; exact h hn
  · exact hn

/-- R95: a circuit that is DISABLED is not one in LOCKOUT. -/
theorem disabled {s t : State} {m : CircuitNo} {now : Circuit} (hd : (s.circuit m).stage = .disabled)
    (hc : ∀ n, t.circuit n = if m = n then now else s.circuit n) : s.KeepsLockout t :=
  .one hc fun h => Stage.noConfusion (hd.symm.trans h)

theorem changeCircuit {s : State} {m : CircuitNo} {now : Circuit}
    (h : (s.circuit m).stage = .lockout → now.stage = .lockout) : s.KeepsLockout (s.changeCircuit m now) :=
  .one (s.changeCircuit_circuit m now) h

section
variable (s : State)

theorem evaluate (n : CircuitNo) : s.KeepsLockout (s.evaluate n) :=
  .one (s.evaluate_circuit n) (Circuit.reevaluated_lockout _)

theorem judgeProof (n : CircuitNo) : s.KeepsLockout (s.judgeProof n) := by
  by_cases h : proofOf s.piu.channels (s.circuit n) = s.piu.proven.read n
  · rw [State.judgeProof_stays h]
    exact .refl s
  · rw [State.judgeProof_changes rfl h]
    refine .trans (.one (fun m => s.proofRecorded_circuit n _ _ m) fun hn => ?_) (evaluate _ n)
    rw [(Circuit.SameGuard.takeProof ..).stage, hn]

theorem judgeProofOf (ch : PulseCh) : s.KeepsLockout (s.judgeProofOf ch) := by
  refine foldl (fun s n => ?_) _ s
  split
  · exact judgeProof s n
  · exact .refl s

theorem evaluateGuarding (c : SensorCh) : s.KeepsLockout (s.evaluateGuarding c) := by
  refine foldl (fun s n => ?_) _ s
  split
  · exact evaluate s n
  · exact .refl s

theorem completeConversion (v : Conversion) (o : ConversionOutcome) : s.KeepsLockout (s.completeConversion v o) := by
  rw [State.completeConversion_eq]
  exact .trans (.same (by rw [s.conversionRecorded_frame])) (evaluateGuarding _ _)

theorem setPulse (n : PulseCh) (f : PulseFields) : s.KeepsLockout (s.setPulse n f) := by
  unfold State.setPulse
  dsimp only
  split
  · exact .trans (.same (s.setChannel_circuits ..)) (judgeProofOf _ n)
  · exact .same (s.setChannel_circuits ..)

theorem setFlow {n : CircuitNo} (f : Option (PulseCh × Nat)) (hd : (s.circuit n).stage = .disabled) :
    s.KeepsLockout (s.setFlow n f) := by
  rw [State.setFlow_eq]
  exact .trans (.disabled hd (s.setCircuit_circuit n _)) (judgeProof _ n)

theorem warmRestart : s.KeepsLockout s.warmRestart := fun n hn => by
  rw [State.warmRestart_circuit_eq, if_neg (by rw [hn]; exact Stage.noConfusion)]
  exact Circuit.evaluate_lockout _ hn

theorem tick : s.KeepsLockout s.tick := by
  rw [State.tick_eq]
  refine andThen (t := s.timeBases) fun n hn => ?_
  have hn' : s.timeBases.circuit n = (s.circuit n).tick := Bank.read_fill ..
  rw [hn']
  exact hn

end

/-! ### Requests and writes -/

section
variable {s t : State} {seat : Seat}

theorem answer {r : Request} {c : Code} {p : List Word} (h : s.KeepsLockout t) : s.KeepsLockout (t.answer seat r c p) :=
  h.andThen

theorem onRequest {k : Kind} {f : Request → State} (h : ∀ r, s.KeepsLockout (f r)) :
    s.KeepsLockout (s.onRequest seat k f) := State.onRequest_of (.refl s) h

theorem onWrite {pick : Item → Request → Option Verdict}
    (h : ∀ i r v, pick i r = some v → v.Leaves s.KeepsLockout) : s.KeepsLockout (s.onWrite seat pick) :=
  State.onWrite_of (.refl s) (fun _ _ => .same) fun i r v hv t ht => (h i r v hv t ht).answer

theorem onPairWrite {sort : PairChange} {f : PairNo → PairFields → Verdict}
    (h : ∀ k x, (f k x).Leaves s.KeepsLockout) : s.KeepsLockout (s.onPairWrite seat sort f) := by
  refine .onWrite fun i r v hv => ?_
  split at hv
  · split at hv <;> cases hv
    exact .asEditor (.fields fun x => h _ x)
  · cases hv

theorem onFlush {form : Nat} {f : Request → State} (h : ∀ r, s.KeepsLockout (f r)) :
    s.KeepsLockout (s.onFlush seat form f) := by
  refine .onRequest fun r => ?_
  split
  · exact h r
  · split
    · exact .same
    · exact .same

theorem flushNamed {r : Request} {f : Seat → State} (h : ∀ q, s.KeepsLockout (f q)) :
    s.KeepsLockout (s.flushNamed seat r f) := by
  unfold State.flushNamed
  split
  · exact .same
  · split
    · exact .same
    · exact (h _).answer

theorem onScan {form : Nat} {f : Request → State} (h : ∀ r, s.KeepsLockout (f r)) :
    s.KeepsLockout (s.onScan seat form f) := by
  refine .onRequest fun r => ?_
  dsimp only
  split
  · split
    · exact .same
    · split
      · exact h r
      · exact .same
  · exact .same

theorem onCircuit {form : Nat} {f : Request → CircuitNo → State} (h : ∀ r n, s.KeepsLockout (f r n)) :
    s.KeepsLockout (s.onCircuit seat form f) := by
  refine .onRequest fun r => ?_
  dsimp only
  split
  · split
    · exact .same
    · split
      · exact .same
      · split
        · exact h r _
        · exact .same
  · exact .same

end

end State.KeepsLockout

/-- R95: a circuit write is accepted only where the circuit is DISABLED. -/
theorem Verdict.Leaves.circuitWrite_disabled {P : State → Prop} {s : State} {seat : Seat} {n : CircuitNo} {v : Verdict}
    (h : (s.circuit n).stage = .disabled → v.Leaves P) : (s.circuitWrite seat n v).Leaves P := by
  refine .asEditor ?_
  split
  · exact .refused
  · next hoff => exact h (Circuit.enabled_eq_false.1 (Bool.eq_false_of_not_eq_true hoff))

/-! ### Operations beside the circuits -/

section
variable (s : State)

@[simp] theorem State.finishAccess_circuits (a : Access) (seat : Seat) (r : Request) (t : Translation) :
    (s.finishAccess a seat r t).circuits = s.circuits := by
  cases a with
  | set => simp only [State.finishAccess, State.finishSet]; (repeat' split) <;> simp
  | release => simp only [State.finishAccess, State.finishRelease]; split <;> simp
  | read => simp [State.finishAccess, State.finishRead]

@[simp] theorem State.resolve_circuits (a : Access) (seat : Seat) (r : Request) :
    (s.resolve a seat r).circuits = s.circuits := by
  unfold State.resolve
  dsimp only
  (repeat' split) <;> simp

@[simp] theorem State.deliver_circuits (w : Walk) (o : WalkOutcome) : (s.deliver w o).circuits = s.circuits := by
  unfold State.deliver
  (repeat' split) <;> simp

@[simp] theorem State.endWalk_circuits (w : Walk) (o : WalkOutcome) : (s.endWalk w o).circuits = s.circuits := by
  simp [State.endWalk]

@[simp] theorem State.walkOn_circuits (w : Walk) (next : WalkNext) : (s.walkOn w next).circuits = s.circuits := by
  cases next with
  | toGroup base | toPoint base | toLink base => rfl
  | finish o => exact s.endWalk_circuits w o

@[simp] theorem State.walkRead_circuits (w : Walk) (level : DirLevel) (addr : DirAddr) :
    (s.walkRead w level addr).circuits = s.circuits := by
  unfold State.walkRead
  dsimp only
  split <;> simp

@[simp] theorem State.directoryAccess_circuits (seat : Seat) (r : Request) (data : Option DirWord) :
    (s.directoryAccess seat r data).circuits = s.circuits := by
  unfold State.directoryAccess
  dsimp only
  (repeat' split) <;> simp

@[simp] theorem State.setDirectory_circuits (seat : Seat) (r : Request) (isOpen : Bool) :
    (s.setDirectory seat r isOpen).circuits = s.circuits := by
  unfold State.setDirectory
  split <;> simp

@[simp] theorem State.startScan_circuits (seat : Seat) (mode : ScanMode) (r : Request) :
    (s.startScan seat mode r).circuits = s.circuits := by
  unfold State.startScan
  split <;> simp

@[simp] theorem State.setOrphanLimit_circuits (limit : Nat) : (s.setOrphanLimit limit).circuits = s.circuits := by
  unfold State.setOrphanLimit
  dsimp only
  split <;> simp

end

/-! ### Every command -/

section
variable {s t : State}

theorem State.KeepsLockout.configWriteRosterEntry {seat : Seat} (h : execConfigWriteRosterEntry seat s = .next t) :
    s.KeepsLockout t := by
  cases h
  refine .onWrite fun i r v hv => ?_
  split at hv <;> cases hv
  exact .asService (.fields fun e => .ite .refused (.ite .refused (.accepted .same)))

theorem State.KeepsLockout.configWriteShutoff {seat : Seat} (h : execConfigWriteShutoff seat s = .next t) :
    s.KeepsLockout t := by
  cases h
  refine .onWrite fun i r v hv => ?_
  split at hv <;> cases hv
  refine .asEditor (.fields fun f => ?_)
  unfold State.shutoffWrite
  split
  · exact .refused
  · exact .ite .refused (.ite .refused (.ite .refused (.accepted .same)))

theorem State.KeepsLockout.walkGrant (h : execWalkGrant s = .next t) : s.KeepsLockout t := by
  cases h
  split
  · exact .same
  · split
    · exact .same
    · dsimp only
      split
      · exact .same
      · split
        · split
          · split
            · exact .same
            · exact .same
          · exact .same
        all_goals exact .same

theorem State.KeepsLockout.flowGraceExpiry {n : CircuitNo} (h : execFlowGraceExpiry n s = .next t) :
    s.KeepsLockout t := by
  cases h
  dsimp only
  split
  · exact .trans (.one (s.graceOver_circuit n) id) (.evaluate (s.graceOver n) n)
  · exact .refl s

theorem State.KeepsLockout.tripDwellExpiry {n : CircuitNo} (h : execTripDwellExpiry n s = .next t) :
    s.KeepsLockout t := by
  cases h
  dsimp only
  split
  · exact .trans (.one (s.lockedOut_circuit n) fun _ => rfl) (.evaluate (s.lockedOut n) n)
  · exact .refl s

/-- R111: ENABLE changes a DISABLED circuit alone. -/
theorem State.KeepsLockout.circuitEnable {seat : Seat} (h : execCircuitEnable seat s = .next t) :
    s.KeepsLockout t := by
  cases h
  refine .onCircuit fun r n => ?_
  dsimp only
  split
  · exact .same
  · next hoff =>
    have hd : (s.circuit n).stage = .disabled := Circuit.enabled_eq_false.1 (Bool.eq_false_of_not_eq_true hoff)
    split
    · exact .same
    · exact State.KeepsLockout.answer (.disabled hd (s.changeCircuit_circuit n _))

/-- R112: DISABLE changes no circuit in LOCKOUT. -/
theorem State.KeepsLockout.circuitDisable {seat : Seat} (h : execCircuitDisable seat s = .next t) :
    s.KeepsLockout t := by
  cases h
  refine .onCircuit fun r n => ?_
  dsimp only
  split
  · split
    · exact .same
    · next htrip =>
      exact State.KeepsLockout.answer (.changeCircuit fun hn => absurd ((Stage.frostTrip_iff _).2 (.inr hn)) htrip)
  · exact .same

end

/-- R113: no command takes a circuit out of LOCKOUT but RELEASE_LOCKOUT and the power-on reset. -/
theorem exec_keepsLockout {i : Instr} {s t : State} (h : exec i s = .next t) (hpower : ∀ st, i ≠ .powerOnReset st)
    (hrelease : ∀ seat, i ≠ .releaseLockout seat) : s.KeepsLockout t := by
  cases i with
  | powerOnReset st => exact absurd rfl (hpower st)
  | releaseLockout seat => exact absurd rfl (hrelease seat)
  | flowGraceExpiry => exact .flowGraceExpiry h
  | tripDwellExpiry => exact .tripDwellExpiry h
  | circuitEnable => exact .circuitEnable h
  | circuitDisable => exact .circuitDisable h
  | restartIn => rw [← Host.Outcome.next.inj h]; exact .warmRestart s
  | restartTake =>
    rw [← Host.Outcome.next.inj h]
    split
    · exact .warmRestart s
    · exact .refl s
  | pulseRisingEdge =>
    cases h
    dsimp only
    split
    · split
      · exact .trans (.same (s.setChannel_circuits ..)) (.judgeProofOf _ _)
      · exact .same
    · exact .refl s
  | pulseTimeoutExpiry =>
    cases h
    dsimp only
    split
    · exact .trans (.same (s.setChannel_circuits ..)) (.judgeProofOf _ _)
    · exact .refl s
  | referencePhaseEnd =>
    cases h
    split
    · split
      · split
        · exact .completeConversion s _ _
        · exact .same
      · exact .refl s
    · exact .refl s
  | sensorPhaseEnd =>
    cases h
    split
    · split
      · exact .completeConversion s _ _
      · exact .refl s
    · exact .refl s
  | configWriteCircuitSensors | configWriteCircuitThresholds | configWriteCircuitTimes =>
    cases h
    refine .onWrite fun i r v hv => ?_
    split at hv <;> cases hv
    exact .circuitWrite_disabled fun hd => .fields fun _ => .accepted (.disabled hd (s.setCircuit_circuit _ _))
  | configWriteCircuitOutputs =>
    cases h
    refine .onWrite fun i r v hv => ?_
    split at hv <;> cases hv
    exact .circuitWrite_disabled fun hd => .fields fun f => .accepted (.disabled hd (s.setOutputs_circuit _ f))
  | configWriteCircuitFlow =>
    cases h
    refine .onWrite fun i r v hv => ?_
    split at hv <;> cases hv
    exact .circuitWrite_disabled fun hd => .fields fun f => .accepted (.setFlow s f hd)
  | configWritePulseSettings =>
    cases h
    refine .onWrite fun i r v hv => ?_
    split at hv <;> cases hv
    exact .asEditor (.fields fun f => .accepted (.setPulse s _ f))
  | configWriteRankTable | configWriteRoot | configWriteWindow | configWriteOrphanLimit =>
    cases h
    refine .onWrite fun i r v hv => ?_
    split at hv <;> cases hv
    exact .asService (.fields fun _ => .accepted .same)
  | configWriteRosterEntry => exact .configWriteRosterEntry h
  | configWriteShutoff => exact .configWriteShutoff h
  | configWriteEventMask =>
    cases h
    refine .onWrite fun i r v hv => ?_
    split at hv <;> cases hv
    exact .ite .refused (.fields fun _ => .accepted .same)
  | configWriteStaticLimits | configWriteFallback | configWriteDefaultHold =>
    cases h
    refine .onWrite fun i r v hv => ?_
    split at hv <;> cases hv
    exact .asEditor (.fields fun _ => .settingsWrite .same)
  | configWriteOutputPolarity | configWriteMinimumTimes =>
    cases h
    refine .onWrite fun i r v hv => ?_
    split at hv
    · obtain ⟨_, -, rfl⟩ := Option.map_eq_some_iff.1 hv
      exact .asEditor (.fields fun _ => .settingsWrite .same)
    · cases hv
  | configWritePeriod | configWriteSensorSettings | configWriteReference | configWriteScanRange | configWriteScanMode =>
    cases h
    refine .onWrite fun i r v hv => ?_
    split at hv <;> cases hv
    exact .asEditor (.fields fun _ => .accepted .same)
  | configWriteBreakpoint =>
    cases h
    refine .onWrite fun i r v hv => ?_
    split at hv <;> cases hv
    exact .asEditor (.fields fun _ => .ite .refused (.accepted .same))
  | configWritePair | pairDissolve => cases h; exact .onPairWrite fun k x => .ite .refused (.accepted .same)
  | pairForm => cases h; exact .onPairWrite fun k x => .ite .refused (.ite .refused (.accepted .same))
  | flushPoint | flushSeat => cases h; exact .onFlush fun r => .flushNamed fun q => .same
  | flushAll =>
    cases h
    refine .onFlush fun r => ?_
    split
    · exact .same
    · exact .same
  | scanStart | scanSingle | scanStop => cases h; exact .onScan fun r => .same
  | hello | set | release | read | dirRead | dirWrite | openDirectory | closeDirectory | events | clear =>
    cases h
    exact .onRequest fun r => .same
  | configRead | configWriteOther | rearm | reinstate | restart =>
    cases h
    refine .onRequest fun r => ?_
    repeat' split
    all_goals exact .same
  | walkGrant => exact .walkGrant h
  | busFrameReceive | serviceFrameReceive | handlerTakeHead | demandHoldExpiry | discreteMinimumReached |
    emergencyInAssert | orphanTimerExpiry | replySentWhole | dirPortGrant | walkZoneRead | walkGroupRead |
    walkPointRead | walkLinkTargetRead | walkMarkWrite =>
    cases h
    repeat' split
    all_goals exact .same
  | periodEnd | pairPermilleStep | overdriveEnd | syncEnd | deadTimeExpiry | safeEndExpiry | unsyncedSafeDriveEnd |
    emergencyInDeassert | replyTransmit | replyReadbackAbandon | serviceReplyTransmit | frameReceptionCutShort =>
    cases h
    exact .same

end Sys2Proof.Machine
end

section
/-! SUPPORT. The requests of a circuit: ENABLE, DISABLE and RELEASE_LOCKOUT; and which step lifts LOCKOUT. -/

namespace Sys2Proof.Machine

/-! ### What an accepted request makes of a circuit (R111 to R113) -/

/-- R111: the circuit that an enable evaluates, its margin stage CLEAR and its grace started where proof is lost. -/
theorem Circuit.prepareEnable_eq (c : Circuit) : c.prepareEnable = { c with
    marginStage := .clear, graceExpired := false
    graceLeft := if c.proven = true then none else some (100 * c.flowGrace) } := by
  rw [Nat.mul_comm]
  rfl

/-- R113: a release asks for a CLEAR margin stage, flow proof, and a guard set that is not lost. -/
theorem Circuit.releasable_iff (c : Circuit) : c.releasable = true ↔
    c.marginStage = .clear ∧ c.proven = true ∧ c.sensorCause ≠ .sensorLost := by
  simp [Circuit.releasable, and_assoc]

theorem Circuit.not_releasable {c : Circuit}
    (h : c.marginStage ≠ .clear ∨ c.proven = false ∨ c.sensorCause = .sensorLost) : ¬c.releasable = true := by
  rw [Circuit.releasable_iff]
  rintro ⟨hmargin, hproven, hcause⟩
  rcases h with h | h | h
  · exact h hmargin
  · simp [hproven] at h
  · exact hcause h

section
variable {s : State} {n : CircuitNo} {now : Circuit}

theorem State.changeCircuit_circuit_same : (s.changeCircuit n now).circuit n = now := by
  rw [State.changeCircuit_circuit, if_pos rfl]

/-- What a change that changes the stage of circuit `n` leaves and raises. -/
theorem State.changeCircuit_others (h : now.stage ≠ (s.circuit n).stage) :
    (∀ o, o ≠ n → (s.changeCircuit n now).circuit o = s.circuit o) ∧
      (∀ q, (s.changeCircuit n now).flag q (.stage n) = .fresh) ∧ (s.changeCircuit n now).lbi = s.lbi :=
  ⟨fun o ho => by rw [State.changeCircuit_circuit, if_neg (Ne.symm ho)], State.changeCircuit_stageFlag h,
    s.changeCircuit_lbi n now⟩

/-- R109: a change that begins no frost trip shuts nothing off. -/
theorem State.changeCircuit_shu (h : (s.circuit n).tripBegins now = false) : (s.changeCircuit n now).shu = s.shu := by
  have hnone : (s.stageRaised n now).shutOffWhere (s.tripCatches n now) = s.stageRaised n now := by
    refine ((s.stageRaised n now).shutOffWhere_shutDown _).1 fun c hc => ?_
    obtain ⟨hcatch, -⟩ := hc
    simp [State.tripCatches, h] at hcatch
  obtain ⟨hshu, -⟩ := s.changeCircuit_shu_evu n now
  rw [hshu, ← State.stageRaised, hnone]
  exact State.raiseIf_shu ..

/-- R94: a change of a circuit leaves each record with its circuit. -/
theorem State.changeCircuit_record_circuit (c : OutCh) :
    ((s.changeCircuit n now).record c).circuit = (s.record c).circuit := by
  rw [State.changeCircuit_record]
  split <;> rfl

/-- R109, R135: FROST_TRIP holds for the channels of a circuit while it is in TRIP or LOCKOUT. -/
theorem State.changeCircuit_frostTrip {c : OutCh} (hc : (s.record c).circuit = some n) :
    (s.changeCircuit n now).causeHolds c .frostTrip = true ↔ now.stage = .level .trip ∨ now.stage = .lockout := by
  have hcircuit := (s.changeCircuit_record_circuit (n := n) (now := now) c).trans hc
  simp only [State.causeHolds, hcircuit, State.changeCircuit_circuit_same, Stage.frostTrip_iff]

end

/-! ### The requests (R111 to R113) -/

section
variable {s : State} {seat : Seat} {r : Request} {n : CircuitNo}

section
variable {form : Nat} (h : s.serves seat .circuit r) (hf : (r.word 1).toNat = form) (he : s.editor seat = true)
include h hf he

/-- R111: a CIRCUIT of a form, from an editor seat, that names a circuit. -/
theorem State.onCircuit_of_named (hn : (r.word 0).toNat = n.val) (f : Request → CircuitNo → State) :
    s.onCircuit seat form f = f r n := by
  rw [State.onCircuit, State.onRequest_of_serves h]
  simp [hf, he, hn]

theorem State.onCircuit_of_unnamed (hn : 4 ≤ (r.word 0).toNat) (f : Request → CircuitNo → State) :
    s.onCircuit seat form f = s.answer seat r .badValue [] := by
  rw [State.onCircuit, State.onRequest_of_serves h]
  simp [hf, he, index?_none hn]

end

section
variable (h : s.serves seat .circuit r) (he : s.editor seat = true) (hw : r.word 1 = 0#16)
include h he hw

theorem exec_circuitEnable_unnamed (hn : 4 ≤ (r.word 0).toNat) :
    exec (.circuitEnable seat) s = .next (s.answer seat r .badValue []) :=
  congrArg Host.Outcome.next (State.onCircuit_of_unnamed h (by rw [hw]; rfl) he hn _)

variable (hn : (r.word 0).toNat = n.val)
include hn

theorem exec_circuitEnable_enabled (hon : (s.circuit n).stage ≠ .disabled) :
    exec (.circuitEnable seat) s = .next (s.answer seat r .done []) :=
  congrArg Host.Outcome.next ((State.onCircuit_of_named h (by rw [hw]; rfl) he hn _).trans
    (if_pos ((Circuit.enabled_iff _).2 hon)))

theorem exec_circuitEnable_disabled (hd : (s.circuit n).stage = .disabled) :
    exec (.circuitEnable seat) s = .next (if (s.circuit n).guardSet = [] then s.answer seat r .badValue []
      else (s.changeCircuit n ((s.circuit n).prepareEnable.evaluate s.smu.results false)).answer seat r .done []) :=
  congrArg Host.Outcome.next ((State.onCircuit_of_named h (by rw [hw]; rfl) he hn _).trans
    ((if_neg (by simp [Circuit.enabled_eq_false.2 hd])).trans (if_congr List.isEmpty_iff rfl rfl)))

end

section
variable (h : s.serves seat .circuit r) (he : s.editor seat = true) (hw : r.word 1 = 1#16)
include h he hw

theorem exec_circuitDisable_unnamed (hn : 4 ≤ (r.word 0).toNat) :
    exec (.circuitDisable seat) s = .next (s.answer seat r .badValue []) :=
  congrArg Host.Outcome.next (State.onCircuit_of_unnamed h (by rw [hw]; rfl) he hn _)

variable (hn : (r.word 0).toNat = n.val)
include hn

theorem exec_circuitDisable_disabled (hd : (s.circuit n).stage = .disabled) :
    exec (.circuitDisable seat) s = .next (s.answer seat r .done []) :=
  congrArg Host.Outcome.next ((State.onCircuit_of_named h (by rw [hw]; rfl) he hn _).trans
    (if_neg (by simp [Circuit.enabled_eq_false.2 hd])))

theorem exec_circuitDisable_enabled (hon : (s.circuit n).stage ≠ .disabled) :
    exec (.circuitDisable seat) s = .next (if (s.circuit n).stage.frostTrip = true then s.answer seat r .stageHolds []
      else (s.changeCircuit n (s.circuit n).disable).answer seat r .done []) :=
  congrArg Host.Outcome.next ((State.onCircuit_of_named h (by rw [hw]; rfl) he hn _).trans
    (if_pos ((Circuit.enabled_iff _).2 hon)))

end

/-- R113: the part after a request of the service seat to release circuit `n`. -/
def State.released (s : State) (seat : Seat) (r : Request) (n : CircuitNo) : State :=
  if (s.circuit n).stage = .lockout then
    if (s.circuit n).releasable = true then
      (s.changeCircuit n ((s.circuit n).evaluate s.smu.results true)).answer seat r .done []
    else s.answer seat r .stageHolds []
  else s.answer seat r .done []

section
variable (h : s.serves seat .releaseLockout r) (hq : seat = serviceSeat)
include h hq

theorem exec_releaseLockout_unnamed (hn : 4 ≤ (r.word 0).toNat) :
    exec (.releaseLockout seat) s = .next (s.answer seat r .badValue []) := by
  refine congrArg Host.Outcome.next ((State.onRequest_of_serves h _).trans ((if_neg (not_not.2 hq)).trans ?_))
  rw [index?_none hn]

theorem exec_releaseLockout_named (hn : (r.word 0).toNat = n.val) :
    exec (.releaseLockout seat) s = .next (s.released seat r n) := by
  refine congrArg Host.Outcome.next ((State.onRequest_of_serves h _).trans ((if_neg (not_not.2 hq)).trans ?_))
  rw [hn, index?_val]
  rfl

end
end

/-! ### What lifts LOCKOUT (R113) -/

/-- A step of a kind acts on a request of that kind in service, or leaves the state. -/
theorem State.onRequest_cases (s : State) (seat : Seat) (k : Kind) (f : Request → State) :
    s.onRequest seat k f = s ∨ ∃ r, s.serves seat k r := by
  unfold State.onRequest
  split
  · next r hr =>
    split
    · next hk => exact .inr ⟨r, hr, hk⟩
    · exact .inl rfl
  · exact .inl rfl

section
variable {s t : State} {n : CircuitNo}

/-- A circuit leaves LOCKOUT from `s` to `t`. -/
def State.LeavesLockout (s t : State) (n : CircuitNo) : Prop :=
  (s.circuit n).stage = .lockout ∧ (t.circuit n).stage ≠ .lockout

theorem State.KeepsLockout.not_leaves (h : s.KeepsLockout t) : ¬s.LeavesLockout t n := fun ⟨hn, hne⟩ => hne (h n hn)

/-- R113: a release lifts LOCKOUT of the circuit it names, where no recorded cause stands. -/
theorem State.released_leaves {seat : Seat} {r : Request} {m : CircuitNo}
    (hl : s.LeavesLockout (s.released seat r m) n) : m = n ∧ (s.circuit n).releasable = true := by
  have hkeep : ∀ c, s.KeepsLockout (s.answer seat r c []) := fun c => .same
  unfold State.released at hl
  split at hl
  · split at hl
    · next hrel =>
      obtain ⟨hn, hne⟩ := hl
      by_cases hm : m = n
      · subst hm
        exact ⟨rfl, hrel⟩
      · refine absurd ?_ hne
        rwa [State.circuit, State.answer_circuits, ← State.circuit, State.changeCircuit_circuit, if_neg hm]
    · exact absurd hl (hkeep _).not_leaves
  · exact absurd hl (hkeep _).not_leaves

theorem exec_releaseLockout_leaves {seat : Seat} (h : exec (.releaseLockout seat) s = .next t)
    (hl : s.LeavesLockout t n) : seat = serviceSeat ∧ (∃ r, s.serves serviceSeat .releaseLockout r ∧
      (r.word 0).toNat = n.val) ∧ (s.circuit n).releasable = true := by
  rcases s.onRequest_cases seat .releaseLockout _ with hnot | ⟨r, hr⟩
  · obtain rfl : s = t := hnot.symm.trans (Host.Outcome.next.inj h)
    exact absurd hl (State.KeepsLockout.refl s).not_leaves
  · by_cases hq : seat = serviceSeat
    · subst hq
      rcases Nat.lt_or_ge (r.word 0).toNat 4 with hlt | hge
      · rw [exec_releaseLockout_named (n := ⟨_, hlt⟩) hr rfl rfl] at h
        cases h
        obtain ⟨rfl, hrel⟩ := State.released_leaves hl
        exact ⟨rfl, ⟨r, hr, rfl⟩, hrel⟩
      · rw [exec_releaseLockout_unnamed hr rfl hge] at h
        cases h
        exact absurd hl (State.KeepsLockout.same).not_leaves
    · have hnotEditor : exec (.releaseLockout seat) s = .next (s.answer seat r .notEditor []) :=
        congrArg Host.Outcome.next ((State.onRequest_of_serves hr _).trans (if_pos hq))
      rw [hnotEditor] at h
      cases h
      exact absurd hl (State.KeepsLockout.same).not_leaves

/-- R113: of all commands, the power-on reset and a release alone take a circuit out of LOCKOUT. -/
theorem exec_leavesLockout {i : Instr} (h : exec i s = .next t) (hl : s.LeavesLockout t n) :
    (∃ st, i = .powerOnReset st) ∨ ∃ seat, i = .releaseLockout seat := by
  by_contra hnot
  obtain ⟨hpower, hrelease⟩ := not_or.1 hnot
  exact (exec_keepsLockout h (not_exists.1 hpower) (not_exists.1 hrelease)).not_leaves hl

/-- What time brings is neither a reset nor a release. -/
theorem State.expires_ne {i : Instr} (h : s.expires i) :
    (∀ st, i ≠ .powerOnReset st) ∧ ∀ seat, i ≠ .releaseLockout seat := by
  unfold State.expires at h
  rcases h with ⟨_, _, _, rfl, _⟩ | ⟨_, _, rfl, _⟩ | ⟨_, rfl, _⟩ | ⟨_, rfl, _⟩ | ⟨_, rfl, _⟩ | ⟨_, rfl, _⟩ |
    ⟨_, rfl, _⟩ | ⟨_, rfl, _⟩ | ⟨_, rfl, _⟩ | ⟨_, rfl, _⟩ | ⟨_, rfl, _⟩ | ⟨rfl, _⟩
  all_goals exact ⟨fun _ => Instr.noConfusion, fun _ => Instr.noConfusion⟩

/-- Time takes no circuit out of LOCKOUT. -/
theorem State.idle_keepsLockout (h : s.idle = .next t) : s.KeepsLockout t := by
  unfold State.idle at h
  split at h
  · next i hi =>
    obtain ⟨hpower, hrelease⟩ := State.expires_ne (State.expires_of_dueExpiry hi)
    exact exec_keepsLockout h hpower hrelease
  · cases h
    exact .tick s

/-- R113: a step that takes a circuit out of LOCKOUT is the power-on reset or an accepted release of that circuit. -/
theorem step_leavesLockout (h : step s = .next t) (hl : s.LeavesLockout t n) : ∃ c rest, s.pending = c :: rest ∧
    ((∃ st, c = .powerOnReset st) ∨ c = .releaseLockout serviceSeat ∧
      (∃ r, s.serves serviceSeat .releaseLockout r ∧ (r.word 0).toNat = n.val) ∧
      (s.circuit n).releasable = true) := by
  cases hp : s.pending with
  | nil =>
    rw [step_of_none hp] at h
    exact absurd hl (State.idle_keepsLockout h).not_leaves
  | cons c rest =>
    rw [step_of_command hp] at h
    refine ⟨c, rest, rfl, ?_⟩
    rcases exec_leavesLockout h hl with hpower | ⟨seat, rfl⟩
    · exact .inl hpower
    · obtain ⟨rfl, hserves, hrel⟩ := exec_releaseLockout_leaves h hl
      exact .inr ⟨rfl, hserves, hrel⟩

end

/-- Settles O47: each request is judged on its circuit's number, stage and causes, and what it accepts is a change of
the circuit; the step rule by what each command does to LOCKOUT. -/
theorem circuitsAreEnabledAndReleased : Obligations.CircuitsAreEnabledAndReleased := by
  refine ⟨fun s seat r hn => ⟨fun h he => ⟨fun hw => exec_circuitEnable_unnamed h he hw hn,
      fun hw => exec_circuitDisable_unnamed h he hw hn⟩, fun h hq => exec_releaseLockout_unnamed h hq hn⟩,
    fun s seat r n hn => ?named, fun s t n h hs ht => ?step⟩
  case named =>
    intro c
    refine ⟨fun h he hw => ?enable, fun h he hw => ?disable, fun h hq => ?release⟩
    case enable =>
      refine ⟨exec_circuitEnable_enabled h he hw hn, fun hd hset => ?empty, fun hd hset => ?accepted⟩
      case empty => rw [exec_circuitEnable_disabled h he hw hn hd, if_pos hset]
      case accepted =>
        have hstage := c.prepareEnable.evaluate_ne_disabled s.smu.results false
        refine ⟨s.changeCircuit n (c.prepareEnable.evaluate s.smu.results false), ?_, ?_, ?_, ?_⟩
        · rw [exec_circuitEnable_disabled h he hw hn hd, if_neg hset]
        · rw [← Circuit.prepareEnable_eq]
          exact s.changeCircuit_changed n _
        · rwa [State.changeCircuit_circuit_same]
        · exact State.changeCircuit_others (hd ▸ hstage)
    case disable =>
      refine ⟨exec_circuitDisable_disabled h he hw hn, fun hs => ?holds, fun hs => ?accepted⟩
      case holds =>
        have htrip : c.stage.frostTrip = true := (Stage.frostTrip_iff _).2 hs
        have hon : c.stage ≠ .disabled := fun hd => by rw [hd] at htrip; cases htrip
        rw [exec_circuitDisable_enabled h he hw hn hon, if_pos htrip]
      case accepted =>
        have hstage : c.stage ≠ .disabled ∧ c.stage.frostTrip = false := by
          rcases hs with hs | hs | hs
          all_goals exact hs ▸ ⟨Stage.noConfusion, rfl⟩
        obtain ⟨hon, htrip⟩ := hstage
        refine ⟨s.changeCircuit n c.disable, ?_, s.changeCircuit_changed n c.disable, ?_,
          State.changeCircuit_others hon.symm⟩
        · rw [exec_circuitDisable_enabled h he hw hn hon, if_neg (by rw [htrip]; exact Bool.false_ne_true)]
        · exact State.changeCircuit_shu (Bool.and_false _)
    case release =>
      have hexec := exec_releaseLockout_named h hq hn
      refine ⟨fun hs => ?other, fun hs hcause => ?holds, fun hs hmargin hproven hcause => ?accepted⟩
      case other => rw [hexec, State.released, if_neg hs]
      case holds => rw [hexec, State.released, if_pos hs, if_neg (Circuit.not_releasable hcause)]
      case accepted =>
        have hlifted : (c.evaluate s.smu.results true).stage ≠ .lockout := by
          rw [Circuit.evaluate_level _ (.inr rfl)]
          exact Stage.noConfusion
        refine ⟨s.changeCircuit n (c.evaluate s.smu.results true), ?_, s.changeCircuit_changed n _, ?_,
          fun ch hch => ?_, State.changeCircuit_others (hs ▸ hlifted)⟩
        · rw [hexec, State.released, if_pos hs, if_pos ((Circuit.releasable_iff _).2 ⟨hmargin, hproven, hcause⟩)]
        · rwa [State.changeCircuit_circuit_same]
        · rw [State.changeCircuit_frostTrip hch, State.changeCircuit_circuit_same]
          exact or_iff_left hlifted
  case step =>
    obtain ⟨c, rest, hpending, hcommand⟩ := step_leavesLockout h ⟨hs, ht⟩
    refine ⟨c, rest, hpending, hcommand.imp_right fun ⟨hc, hserves, hrel⟩ => ⟨hc, hserves, ?_⟩⟩
    exact (Circuit.releasable_iff _).1 hrel

end Sys2Proof.Machine
end

section
/-! SUPPORT. One floating pair: what a release, a judged target, a safe action and each timed event make of its run, and
that each keeps its estimate sound and its dead time. -/

namespace Sys2Proof.Machine

/-! ### A safe run (R122, R123) -/

/-- R122, R123, R128, R139: the estimate lies from 0 to 1000, and is 0 of an UNSYNCED pair, which neither moves nor
overdrives; and a drive that is asserted may be. -/
structure PairRun.Safe (p : PairRun) : Prop where
  inRange : p.estimate ≤ 1000
  zero : p.unsynced = true → p.estimate = 0
  still : p.unsynced = true → ∀ d, p.state ≠ .moving d ∧ p.state ≠ .overdrive d
  free : ∀ d, p.state.drive = some d → p.mayAssert d = true

theorem PairRun.estimateSound_iff (p : PairRun) : p.estimateSound = true ↔ p.estimate ≤ 1000 ∧
    (p.unsynced = true → p.estimate = 0 ∧ ∀ d, p.state ≠ .moving d ∧ p.state ≠ .overdrive d) := by
  unfold PairRun.estimateSound
  cases p.unsynced <;> cases p.state <;> simp

theorem PairRun.deadTimeKept_iff (p : PairRun) :
    p.deadTimeKept = true ↔ ∀ d, p.state.drive = some d → p.mayAssert d = true := by
  unfold PairRun.deadTimeKept
  cases p.state.drive <;> simp

theorem PairRun.safe_iff (p : PairRun) : p.Safe ↔ p.estimateSound = true ∧ p.deadTimeKept = true := by
  rw [PairRun.estimateSound_iff, PairRun.deadTimeKept_iff]
  constructor
  · rintro ⟨hrange, hzero, hstill, hfree⟩
    exact ⟨⟨hrange, fun hu => ⟨hzero hu, hstill hu⟩⟩, hfree⟩
  · rintro ⟨⟨hrange, hu⟩, hfree⟩
    exact ⟨hrange, fun h => (hu h).1, fun h => (hu h).2, hfree⟩

section
variable {p p' : PairRun} (h : p.Safe) (he : p'.estimate = p.estimate) (hu : p'.unsynced = p.unsynced)
include h he hu

/-- A state that asserts no drive. -/
theorem PairRun.Safe.rest (hs : p'.state.drive = none) : p'.Safe where
  inRange := he ▸ h.inRange
  zero hun := he ▸ h.zero (hu ▸ hun)
  still _ d := ⟨fun e => by simp [e, PairState.drive] at hs, fun e => by simp [e, PairState.drive] at hs⟩
  free d hd := by simp [hs] at hd

/-- A state of a synced pair that asserts a drive. -/
theorem PairRun.Safe.driveSynced {d : Dir} (hs : p'.state.drive = some d) (hm : p'.mayAssert d = true)
    (hsync : p.unsynced = false) : p'.Safe where
  inRange := he ▸ h.inRange
  zero hun := he ▸ h.zero (hu ▸ hun)
  still hun := by simp [hu, hsync] at hun
  free d' hd := by
    obtain rfl : d = d' := by simpa [hs] using hd
    exact hm

/-- A state other than a move and an overdrive, that asserts a drive. -/
theorem PairRun.Safe.drive {d : Dir} (hs : p'.state.drive = some d) (hm : p'.mayAssert d = true)
    (hstill : ∀ d, p'.state ≠ .moving d ∧ p'.state ≠ .overdrive d) : p'.Safe where
  inRange := he ▸ h.inRange
  zero hun := he ▸ h.zero (hu ▸ hun)
  still _ := hstill
  free d' hd := by
    obtain rfl : d = d' := by simpa [hs] using hd
    exact hm

/-- R123: the same state, and a dead time that still allows its drive. -/
theorem PairRun.Safe.sameState (hs : p'.state = p.state)
    (hm : ∀ d, p.mayAssert d = true → p'.mayAssert d = true) : p'.Safe where
  inRange := he ▸ h.inRange
  zero hun := he ▸ h.zero (hu ▸ hun)
  still hun := hs ▸ h.still (hu ▸ hun)
  free d hd := hm d (h.free d (hs ▸ hd))

end

theorem PairRun.Safe.synced_of_moving {p : PairRun} {d : Dir} (h : p.Safe) (hs : p.state = .moving d) :
    p.unsynced = false := Bool.eq_false_of_not_eq_true fun hu => (h.still hu d).1 hs

/-! ### Releases and judged targets (R122, R124, R128) -/

/-- R122: a release leaves the pair safe even before its state is left. -/
theorem PairRun.Safe.release {p : PairRun} (h : p.Safe) (q : Pair) : (p.release q).Safe := by
  unfold PairRun.release
  split
  · next d hs =>
    refine ⟨h.inRange, h.zero, h.still, fun d' hd => (PairRun.mayAssert_iff ..).2 (.inr ?_)⟩
    exact hs.symm.trans hd
  · exact h

/-- R124, R128: the drive that a target beyond the deadband asks for. -/
def PairRun.wanted (p : PairRun) : Dir := if p.unsynced = true ∨ p.target < p.estimate then .closing else .opening

/-- R124, R128: a target beyond the deadband is driven to, or waits for the dead time. -/
theorem PairRun.judge_beyond {q : Pair} {p : PairRun}
    (hout : q.deadband < max p.target p.estimate - min p.target p.estimate) : p.judge q =
      if p.mayAssert p.wanted = true then (if p.unsynced = true then p.startSync q else p.startMove q p.wanted)
      else { p with state := .waiting } := by
  rw [PairRun.judge, if_neg (Nat.not_le.2 hout)]
  cases hu : p.unsynced with
  | true => simp only [PairRun.wanted, hu, true_or, if_true]
  | false =>
    have hd : (if p.estimate < p.target then Dir.opening else .closing) = p.wanted := by
      simp only [PairRun.wanted, hu, Bool.false_eq_true, false_or]
      split
      · rw [if_neg (by omega)]
      · rw [if_pos (by omega)]
    simp only [Bool.false_eq_true, if_false, hd]

/-- R124, R128: the judging of a target, as Safety.lean says it. -/
theorem PairRun.judge_judgedAs (q : Pair) (p : PairRun) : p.judgedAs q (p.judge q) := by
  refine ⟨fun hin => if_pos hin, fun hout hfree => ?_, fun hout hfree hu => ?_, fun hout hfree hu => ?_⟩
  all_goals
    rw [PairRun.judge_beyond hout]
    rw [← PairRun.mayAssert_iff, ← PairRun.wanted] at hfree
  · rw [if_neg hfree]
  · rw [if_pos hfree, if_pos hu, PairRun.startSync, Nat.mul_comm]
  · rw [if_pos hfree, if_neg (Bool.eq_false_iff.1 hu)]
    rfl

/-- R124, R128: a judged target leaves the pair without a drive, or with one that the dead time allows. -/
theorem PairRun.Safe.judge {p : PairRun} (h : p.Safe) (q : Pair) : (p.judge q).Safe := by
  by_cases hin : max p.target p.estimate - min p.target p.estimate ≤ q.deadband
  · rw [PairRun.judge, if_pos hin]
    exact h.rest rfl rfl rfl
  · rw [PairRun.judge_beyond (Nat.not_le.1 hin)]
    split
    · next hm =>
      split
      · next hu =>
        have hclosing : p.wanted = .closing := if_pos (.inl hu)
        exact h.drive (d := .closing) rfl rfl rfl (hclosing ▸ hm)
          fun d => ⟨PairState.noConfusion, PairState.noConfusion⟩
      · next hu => exact h.driveSynced rfl rfl rfl hm (Bool.eq_false_of_not_eq_true hu)
    · exact h.rest rfl rfl rfl

/-! ### Targets (R125, R126, R127) -/

/-- R125: a move of a synced pair ends in the overdrive of the same drive, or with the drive released. -/
theorem PairRun.Safe.endMove {p : PairRun} {d : Dir} (h : p.Safe) (q : Pair) (hs : p.state = .moving d) :
    (p.endMove q d).Safe := by
  unfold PairRun.endMove
  split
  · exact h.driveSynced rfl rfl rfl (h.free d (hs ▸ rfl)) (h.synced_of_moving hs)
  · exact (h.release q).rest rfl rfl rfl

theorem PairRun.Safe.takeTarget {p : PairRun} (h : p.Safe) (q : Pair) (off : Bool) (t : Nat) :
    (p.takeTarget q off t).Safe := by
  have hset : ({ p with target := t } : PairRun).Safe := h.sameState rfl rfl rfl fun _ hm => hm
  unfold PairRun.takeTarget
  dsimp only
  split
  · exact hset
  · split
    · exact hset.judge q
    · next d hs =>
      split
      · exact hset.endMove q hs
      · split
        · exact hset
        · exact (hset.release q).rest rfl rfl rfl
    · split
      · exact hset
      · refine PairRun.Safe.judge ?_ q
        exact (hset.release q).rest rfl rfl rfl
    all_goals exact hset

/-! ### Safe actions and the return to drive (R139, R142) -/

/-- R139: a drive that may be asserted drives safe. -/
theorem PairRun.Safe.assertSafe {p : PairRun} {d : Dir} (h : p.Safe) (q : Pair) (hm : p.mayAssert d = true) :
    (p.assertSafe q d).Safe := by
  unfold PairRun.assertSafe
  split
  · exact h.drive rfl rfl rfl hm fun d => ⟨PairState.noConfusion, PairState.noConfusion⟩
  · split
    · exact h.drive rfl rfl rfl hm fun d => ⟨PairState.noConfusion, PairState.noConfusion⟩
    · exact h.drive rfl rfl rfl hm fun d => ⟨PairState.noConfusion, PairState.noConfusion⟩

/-- R139: a pair with no drive asserted drives safe, or waits for the dead time. -/
theorem PairRun.Safe.startSafe {p : PairRun} (h : p.Safe) (q : Pair) (d : Dir) : (p.startSafe q d).Safe := by
  unfold PairRun.startSafe
  split
  · next hm => exact h.assertSafe q hm
  · exact h.rest rfl rfl rfl

/-- R139: the pair safe action, from whatever state it is taken. -/
theorem PairRun.Safe.takeSafe {p : PairRun} (h : p.Safe) (q : Pair) (a : PairAction) : (p.takeSafe q a).Safe := by
  unfold PairRun.takeSafe
  split
  · exact (h.release q).rest rfl rfl rfl
  · next d =>
    split
    · next d' hs =>
      split
      · next hd => exact h.assertSafe q (h.free d (hd ▸ hs))
      · exact (h.release q).startSafe q d
    · exact h.startSafe q d

theorem PairRun.Safe.rearm {p : PairRun} (h : p.Safe) (q : Pair) : (p.rearm q).Safe := by
  unfold PairRun.rearm
  split
  · exact h.rest rfl rfl rfl
  all_goals
    refine PairRun.Safe.judge ?_ q
    exact (h.release q).rest rfl rfl rfl

/-! ### Timed events (R123, R125, R128, R139) -/

theorem stepEstimate_le {d : Dir} {e : Nat} (h : e ≤ 1000) : stepEstimate d e ≤ 1000 := by
  cases d with
  | opening => exact Nat.min_le_left ..
  | closing => exact (Nat.sub_le ..).trans h

/-- R123: the estimate moved by one permille of a drive. -/
def PairRun.stepped (d : Dir) (p : PairRun) : PairRun :=
  { p with estimate := stepEstimate d p.estimate, accumulator := p.accumulator - p.stroke }

theorem PairRun.permilleStep_moving {p : PairRun} {d : Dir} (hs : p.state = .moving d) (q : Pair) :
    p.permilleStep q = if (p.stepped d).estimate = p.target then (p.stepped d).endMove q d else p.stepped d := by
  simp only [PairRun.permilleStep, PairRun.stepped, hs]

theorem PairRun.permilleStep_safeDriving {p : PairRun} {d : Dir} (hs : p.state = .safeDriving d) (q : Pair) :
    p.permilleStep q = if (p.stepped d).estimate = d.limit then { p.stepped d with
        state := .safeEnd d, left := q.stroke * 10, stroke := q.stroke, accumulator := 0 } else p.stepped d := by
  simp only [PairRun.permilleStep, PairRun.stepped, hs]

/-- R123: only a synced pair's estimate moves. -/
theorem PairRun.Safe.stepped {p : PairRun} (h : p.Safe) (hsync : p.unsynced = false) (d : Dir) :
    (p.stepped d).Safe where
  inRange := stepEstimate_le h.inRange
  zero hu := by simp [PairRun.stepped, hsync] at hu
  still hu := by simp [PairRun.stepped, hsync] at hu
  free := h.free

/-- R123: one permille of a drive that counts. -/
theorem PairRun.Safe.permilleStep {p : PairRun} (h : p.Safe) (q : Pair) (hdue : p.permilleDue = true) :
    (p.permilleStep q).Safe := by
  obtain ⟨-, d, hs | ⟨hs, hsync⟩⟩ := (PairRun.permilleDue_iff p).1 hdue
  · have hstep := h.stepped (h.synced_of_moving hs) d
    rw [PairRun.permilleStep_moving hs]
    split
    · exact hstep.endMove q hs
    · exact hstep
  · have hstep := h.stepped hsync d
    rw [PairRun.permilleStep_safeDriving hs]
    split
    · exact hstep.driveSynced rfl rfl rfl (hstep.free d (hs ▸ rfl)) hsync
    · exact hstep

theorem PairRun.Safe.endOverdrive {p : PairRun} (h : p.Safe) (q : Pair) : (p.endOverdrive q).Safe :=
  (h.release q).rest rfl rfl rfl

/-- R128: a sync leaves the pair synced at 0. -/
theorem PairRun.endSync_safe (q : Pair) (p : PairRun) : (p.endSync q).Safe := by
  refine PairRun.Safe.judge ?_ q
  exact ⟨Nat.zero_le _, fun _ => rfl, fun hu => Bool.noConfusion hu, fun d hd => nomatch hd⟩

theorem PairRun.Safe.endSafe {p : PairRun} (h : p.Safe) (q : Pair) : (p.endSafe q).Safe :=
  (h.release q).rest rfl rfl rfl

/-- R122: once the dead time has run out, either drive may be asserted. -/
theorem PairRun.Safe.endDeadTime {p : PairRun} (h : p.Safe) (q : Pair) : (p.endDeadTime q).Safe := by
  have hset : ({ p with deadLeft := none } : PairRun).Safe := h.sameState rfl rfl rfl fun _ _ => rfl
  unfold PairRun.endDeadTime
  dsimp only
  split
  · exact hset.judge q
  · exact hset.assertSafe q rfl
  all_goals exact hset

theorem PairRun.Safe.tick {p : PairRun} (h : p.Safe) : p.tick.Safe :=
  h.sameState rfl rfl rfl fun d hm => by
    unfold PairRun.tick PairRun.mayAssert at *
    simpa using hm

/-- R120, R140: a pair just formed stands at 0, UNSYNCED. -/
theorem PairRun.Safe.formedRun (q : Pair) (target : Nat) (off : Bool) (a : PairAction) :
    (Machine.formedRun q target off a).Safe := by
  have h : (PairRun.formed target q.stroke).Safe :=
    ⟨Nat.zero_le _, fun _ => rfl, fun _ d => ⟨PairState.noConfusion, PairState.noConfusion⟩,
      fun d hd => nomatch hd⟩
  unfold Machine.formedRun
  dsimp only
  split
  · exact h.takeSafe q a
  · exact h.judge q

end Sys2Proof.Machine
end

section
/-! SUPPORT. What the operations on the whole state make of the pairs: each keeps every pair safe. -/

namespace Sys2Proof.Machine

/-! ### Pairs -/

/-- R122, R123: a pair is safe: formed with a safe run, or not formed. -/
def Pair.Safe (q : Pair) : Prop := ∀ p, q.run = some p → p.Safe

theorem Pair.Safe.change {q : Pair} {f : PairRun → PairRun} (h : q.Safe)
    (hf : ∀ p, q.run = some p → p.Safe → (f p).Safe) : (q.change f).Safe := fun p hp => by
  obtain ⟨x, hx, rfl⟩ := Option.map_eq_some_iff.1 hp
  exact hf x hx (h x hx)

theorem Pair.safe_of_none {q : Pair} (h : q.run = none) : q.Safe := fun p hp => by simp [h] at hp

/-- R122, R123: every pair is safe. -/
structure State.SafePairs (s : State) : Prop where
  pair (k : PairNo) : (s.odu.pairs.read k).Safe

theorem State.pairsSafe_iff (s : State) : s.pairsSafe ↔ s.SafePairs := by
  have h : s.pairsSafe ↔ ∀ k, (s.odu.pairs.read k).Safe :=
    forall_congr' fun _ => forall_congr' fun p => imp_congr_right fun _ => p.safe_iff.symm
  exact h.trans ⟨fun h => ⟨h⟩, fun h => h.pair⟩

namespace State.SafePairs

section
variable {s : State} (h : s.SafePairs)
include h

/-- An operation beside the pairs. -/
theorem beside {t : State} (hp : t.odu.pairs = s.odu.pairs := by simp) : t.SafePairs :=
  ⟨fun k => hp ▸ h.pair k⟩

/-- Pairs that are each as safe as they were. -/
theorem each {t : State} (ht : ∀ k, (s.odu.pairs.read k).Safe → (t.odu.pairs.read k).Safe) : t.SafePairs :=
  ⟨fun k => ht k (h.pair k)⟩

theorem raiseAll (f : Flag) : (s.raiseAll f).SafePairs := h.beside

theorem settleArbiter : s.settleArbiter.SafePairs := h.beside

/-- One pair replaced. -/
theorem write {t : State} {k : PairNo} {q : Pair} (ht : t.odu.pairs = s.odu.pairs.write k q) (hq : q.Safe) :
    t.SafePairs := h.each fun k' hk => by
  rw [ht, Bank.read_write]
  split
  · exact hq
  · exact hk

omit h in
theorem foldl {β : Type} {f : State → β → State} (hf : ∀ s b, s.SafePairs → (f s b).SafePairs) (l : List β)
    (h : s.SafePairs) : (l.foldl f s).SafePairs := by
  induction l generalizing s with
  | nil => exact h
  | cons b l ih => exact ih (hf s b h)

/-! ### Records and outputs (R126, R139) -/

theorem withRecords (f : OutCh → Record → Record) : (s.withRecords f).SafePairs := h.each fun k hk => by
  rw [State.withRecords_pairs]
  split
  · exact hk
  · exact hk.change fun p _ hp => hp.takeTarget ..

theorem removeDemands (inChannel : OutCh → Bool) (p : Seat → Bool) : (s.removeDemands inChannel p).SafePairs :=
  h.withRecords _

theorem forceOutputs (hit : OutCh → Bool) : (s.forceOutputs hit).SafePairs := h.each fun k hk => by
  have hpair : (s.forceOutputs hit).odu.pairs.read k = if hit (evenCh k) = true then
      (s.odu.pairs.read k).change (PairRun.takeSafe (s.odu.pairs.read k) (s.shutoff (evenCh k)).pair)
      else s.odu.pairs.read k := by
    simp only [State.forceOutputs, Bank.read_fill]
    rfl
  rw [hpair]
  split
  · exact hk.change fun p _ hp => hp.takeSafe ..
  · exact hk

theorem shutOffWhere (p : OutCh → Bool) : (s.shutOffWhere p).SafePairs := by
  unfold State.shutOffWhere
  dsimp only
  split
  · exact (h.forceOutputs fun c => p c && !s.shutOff c && !s.odu.oddMember c).beside rfl
  · exact h

theorem causeBegins (cause : Cause) (f : OutCh → Bool) : (s.causeBegins cause f).SafePairs := h.shutOffWhere _

/-! ### Circuits -/

theorem changeCircuit (n : CircuitNo) (now : Circuit) : (s.changeCircuit n now).SafePairs := by
  unfold State.changeCircuit
  dsimp only
  have hflag : (State.raiseIf { s with circuits := s.circuits.write n now } ((s.circuit n).stage != now.stage)
    (.stage n)).SafePairs := h.beside
  split
  · exact (hflag.causeBegins ..).withRecords _
  · exact hflag.withRecords _

theorem evaluate (n : CircuitNo) : (s.evaluate n).SafePairs := by
  unfold State.evaluate
  split
  · exact h.changeCircuit ..
  · exact h

theorem judgeProof (n : CircuitNo) : (s.judgeProof n).SafePairs := by
  unfold State.judgeProof
  dsimp only
  split
  · exact h
  · refine evaluate ?_ n
    exact h.beside rfl

theorem judgeProofOf (ch : PulseCh) : (s.judgeProofOf ch).SafePairs := by
  refine foldl (fun s n h => ?_) _ h
  split
  · exact h.judgeProof n
  · exact h

theorem completeConversion (v : Conversion) (o : ConversionOutcome) : (s.completeConversion v o).SafePairs := by
  rw [State.completeConversion_eq]
  refine foldl (fun s n h => ?_) _ (h.beside (by rw [s.conversionRecorded_frame]))
  split
  · exact h.evaluate n
  · exact h

theorem setPulse (n : PulseCh) (f : PulseFields) : (s.setPulse n f).SafePairs := by
  unfold State.setPulse
  dsimp only
  split
  · refine judgeProofOf ?_ n
    exact h.beside rfl
  · exact h.beside rfl

/-! ### Standings and answers -/

theorem setCount (b : BusSeat) (n : Nat) : (s.setCount b n).SafePairs := by
  by_cases hn : standingOf n = s.standing (seatOf b)
  · rw [s.setCount_same b n (hn.trans (s.standing_seatOf b))]
    exact h.beside rfl
  · have hcount : (s.countRaised b n).SafePairs := h.beside rfl
    by_cases hb : standingOf n = .barred
    · rw [s.setCount_barred b n hn hb]
      exact (hcount.removeDemands ..).beside rfl
    · rw [s.setCount_moved b n hn hb]
      exact hcount.withRecords _

theorem applyOutcome (seat : Seat) (c : Code) : (s.applyOutcome seat c).SafePairs := by
  unfold State.applyOutcome
  split
  · split
    · exact h
    · exact h.setCount ..
  · exact h

theorem answer {seat : Seat} {r : Request} {c : Code} {p : List Word} : (s.answer seat r c p).SafePairs :=
  (h.applyOutcome seat c).beside (by simp [State.answer])

/-- A change beside the pairs, answered. -/
theorem answerBeside {t : State} {seat : Seat} {r : Request} {c : Code} {p : List Word}
    (hp : t.odu.pairs = s.odu.pairs) : (t.answer seat r c p).SafePairs := (h.beside hp).answer

theorem orphanBegins : s.orphanBegins.SafePairs := by
  have hholds : State.SafePairs { s with lbi := { s.lbi with orphan := { s.lbi.orphan with holds := true } } } :=
    h.beside rfl
  exact ((hholds.causeBegins .orphan fun _ => true).removeDemands ..).raiseAll .orphan

/-! ### Frames and translated requests -/

theorem refuseAtArrival (seat : Seat) (r : Request) (c : Code) : (s.refuseAtArrival seat r c).SafePairs := by
  refine applyOutcome ?_ seat c
  split
  · exact h.beside
  · exact h

theorem enter (seat : Seat) (r : Request) : (s.enter seat r).SafePairs := by
  unfold State.enter
  dsimp only
  split
  · exact h.refuseAtArrival ..
  · split
    · exact h.refuseAtArrival ..
    · split
      · exact h.beside
      · exact h.refuseAtArrival ..

theorem finishAccess (a : Access) (seat : Seat) (r : Request) (t : Translation) :
    (s.finishAccess a seat r t).SafePairs := by
  cases a with
  | set =>
    simp only [State.finishAccess, State.finishSet]
    split
    · exact h.answer
    · split
      · exact h.answer
      · exact (h.withRecords _).answer
  | release =>
    simp only [State.finishAccess, State.finishRelease]
    split
    · exact h.answer
    · exact (h.removeDemands ..).answer
  | read => exact h.answer

theorem resolve (a : Access) (seat : Seat) (r : Request) : (s.resolve a seat r).SafePairs := by
  have hhit : State.SafePairs { s with pcache := s.pcache.hit (wordPoint (r.word 0)) } := h.beside rfl
  unfold State.resolve
  dsimp only
  split
  · split
    · exact h.answer
    · exact h.finishAccess ..
  · split
    · split
      · split
        · exact hhit.answer
        · split
          · exact hhit.beside
          · exact hhit.finishAccess ..
      · exact h.beside
    · exact h.answer

theorem endWalk (w : Walk) (o : WalkOutcome) : (s.endWalk w o).SafePairs := by
  have hdeliver : ∀ t : State, t.SafePairs → (t.deliver w o).SafePairs := fun t ht => by
    unfold State.deliver
    split
    · exact ht
    · split
      · exact ht.finishAccess ..
      all_goals exact ht.answer
  refine settleArbiter (hdeliver _ ?_)
  exact h.beside (by simp)

theorem walkOn (w : Walk) (next : WalkNext) : (s.walkOn w next).SafePairs := by
  cases next with
  | toGroup base | toPoint base | toLink base => exact h.beside rfl
  | finish o => exact h.endWalk w o

theorem walkRead (w : Walk) (level : DirLevel) (addr : DirAddr) : (s.walkRead w level addr).SafePairs := by
  unfold State.walkRead
  dsimp only
  split
  · exact walkOn (s := s.grantWalker) (h.beside rfl) ..
  · exact h.beside rfl

/-! ### Pairs and shutoff records written, channels returned to drive -/

theorem onPair {k : PairNo} {due : PairRun → Bool} {f : Pair → PairRun → PairRun}
    (hf : ∀ q p, due p = true → p.Safe → (f q p).Safe) : (s.onPair k due f).SafePairs := by
  unfold State.onPair
  dsimp only
  split
  · next hany =>
    refine h.write rfl ((h.pair k).change fun p hp hsafe => hf _ p ?_ hsafe)
    simpa [hp] using hany
  · exact h

theorem setPair (k : PairNo) (f : PairFields) : (s.setPair k f).SafePairs := h.write rfl (h.pair k)

theorem formPair (k : PairNo) (f : PairFields) : (s.formPair k f).SafePairs := h.write rfl fun p hp => by
  obtain rfl := Option.some.inj hp
  exact .formedRun ..

theorem dissolvePair (k : PairNo) (f : PairFields) : (s.dissolvePair k f).SafePairs := by
  have hpart : (s.partPair k f).SafePairs := h.write (s.partPair_pairs k f) (Pair.safe_of_none rfl)
  unfold State.dissolvePair
  dsimp only
  split
  · exact (hpart.forceOutputs (ofPair k)).beside rfl
  · exact hpart.shutOffWhere _

theorem rearmChannel (c : OutCh) : (s.rearmChannel c).SafePairs := h.each fun k hk => by
  simp only [State.rearmChannel, Bank.read_fill]
  split
  · exact hk.change fun p _ hp => hp.rearm _
  · exact hk

theorem setShutoff (c : OutCh) (f : ShutoffFields) : (s.setShutoff c f).SafePairs := by
  unfold State.setShutoff
  dsimp only
  split
  · split
    · refine forceOutputs ?_ _
      exact h.beside rfl
    · exact h.beside rfl
  · refine shutOffWhere ?_ _
    exact h.beside rfl

/-! ### Time and restarts -/

theorem tick : s.tick.SafePairs := by
  refine State.SafePairs.beside (s := s.timeBases) (h.each fun k hk => ?_) (by rw [State.tick_eq]; rfl)
  simp only [State.timeBases, Odu.tick, Bank.read_fill]
  exact hk.change fun p _ hp => hp.tick

theorem warmRestart : s.warmRestart.SafePairs := by
  have hblocks : s.restartBlocks.SafePairs := h.beside rfl
  have hcircuits : s.restartBlocks.evaluateAll.SafePairs := foldl (fun s n h => h.evaluate n) _ hblocks
  have hsettled : s.restartBlocks.evaluateAll.settleAll.SafePairs := hcircuits.withRecords _
  unfold State.warmRestart State.shutOffHeld
  exact hsettled.shutOffWhere _

end

/-- R131: no pair is formed at the power-on reset. -/
theorem powerOn (st : Straps) (emergencyIn : Bool) (l : List Instr) (m : Nat) :
    (State.powerOn st emergencyIn l m).SafePairs := by
  refine ⟨fun k => Pair.safe_of_none ?_⟩
  simp only [State.powerOn, Odu.powerOn, Bank.read_fill]

end State.SafePairs
end Sys2Proof.Machine
end

section
/-! SUPPORT. Every command, the tick and the restarts keep every pair safe. -/

namespace Sys2Proof.Machine

/-! ### Requests of forms, whatever they are asked to keep -/

section
variable {P : State → Prop} {s : State} {seat : Seat} {form : Nat} (h0 : P s) (ha : ∀ r c, P (s.answer seat r c []))
include h0 ha

/-- A FLUSH step of one form answers a refusal, acts on its request, or leaves the state. -/
theorem State.onFlush_of {f : Request → State} (h : ∀ r, P (f r)) : P (s.onFlush seat form f) := by
  refine State.onRequest_of h0 fun r => ?_
  split
  · exact h r
  · split
    · exact ha r _
    · exact h0

/-- A SCAN step of one form answers a refusal, acts on its request, or leaves the state. -/
theorem State.onScan_of {f : Request → State} (h : ∀ r, P (f r)) : P (s.onScan seat form f) := by
  refine State.onRequest_of h0 fun r => ?_
  dsimp only
  split
  · split
    · exact ha r _
    · split
      · exact h r
      · exact ha r _
  · exact h0

/-- A CIRCUIT step of one form answers a refusal, acts on its request and its circuit, or leaves the state. -/
theorem State.onCircuit_of {f : Request → CircuitNo → State} (h : ∀ r n, P (f r n)) :
    P (s.onCircuit seat form f) := by
  refine State.onRequest_of h0 fun r => ?_
  dsimp only
  split
  · split
    · exact ha r _
    · split
      · exact ha r _
      · split
        · exact h r _
        · exact ha r _
  · exact h0

omit h0 in
/-- A FLUSH that names a seat answers a refusal, or what the flush of that seat leaves. -/
theorem State.flushNamed_of {r : Request} {f : Seat → State} (h : ∀ q, P ((f q).answer seat r .done [])) :
    P (s.flushNamed seat r f) := by
  unfold State.flushNamed
  split
  · exact ha r _
  · split
    · exact ha r _
    · exact h _

/-- A write of a pair item answers a refusal, or the state that an accepted write leaves. -/
theorem State.onPairWrite_of {sort : PairChange} {f : PairNo → PairFields → Verdict}
    (h : ∀ r k x, (f k x).Leaves fun t => P (t.answer seat r .done [])) : P (s.onPairWrite seat sort f) := by
  refine State.onWrite_of h0 ha fun i r v hv => ?_
  split at hv
  · split at hv <;> cases hv
    exact .asEditor (.fields fun x => h r _ x)
  · cases hv

end

namespace State.SafePairs

/-! ### Requests and writes -/

section
variable {s : State} (hs : s.SafePairs) {seat : Seat}
include hs

theorem onRequest {k : Kind} {f : Request → State} (h : ∀ r, (f r).SafePairs) : (s.onRequest seat k f).SafePairs :=
  State.onRequest_of hs h

theorem onWrite {pick : Item → Request → Option Verdict}
    (h : ∀ i r v, pick i r = some v → v.Leaves State.SafePairs) : (s.onWrite seat pick).SafePairs :=
  State.onWrite_of hs (fun _ _ => hs.answer) fun i r v hv t ht => (h i r v hv t ht).answer

theorem onPairWrite {sort : PairChange} {f : PairNo → PairFields → Verdict}
    (h : ∀ k x, (f k x).Leaves State.SafePairs) : (s.onPairWrite seat sort f).SafePairs :=
  State.onPairWrite_of hs (fun _ _ => hs.answer) fun _ k x t ht => (h k x t ht).answer

theorem onFlush {form : Nat} {f : Request → State} (h : ∀ r, (f r).SafePairs) : (s.onFlush seat form f).SafePairs :=
  State.onFlush_of hs (fun _ _ => hs.answer) h

theorem flushNamed {r : Request} {f : Seat → State} (h : ∀ q, (f q).SafePairs) :
    (s.flushNamed seat r f).SafePairs :=
  State.flushNamed_of (fun _ _ => hs.answer) fun q => (h q).answer

theorem onScan {form : Nat} {f : Request → State} (h : ∀ r, (f r).SafePairs) : (s.onScan seat form f).SafePairs :=
  State.onScan_of hs (fun _ _ => hs.answer) h

theorem onCircuit {form : Nat} {f : Request → CircuitNo → State} (h : ∀ r n, (f r n).SafePairs) :
    (s.onCircuit seat form f).SafePairs :=
  State.onCircuit_of hs (fun _ _ => hs.answer) h

/-! ### The commands -/

variable {t : State}

theorem configWriteRosterEntry (h : execConfigWriteRosterEntry seat s = .next t) : t.SafePairs := by
  cases h
  refine hs.onWrite fun i r v hv => ?_
  split at hv <;> cases hv
  exact .asService (.fields fun e => .ite .refused (.ite .refused (.accepted (hs.beside rfl))))

theorem configWriteShutoff (h : execConfigWriteShutoff seat s = .next t) : t.SafePairs := by
  cases h
  refine hs.onWrite fun i r v hv => ?_
  split at hv <;> cases hv
  refine .asEditor (.fields fun f => ?_)
  unfold State.shutoffWrite
  split
  · exact .refused
  · exact .ite .refused (.ite .refused (.ite .refused (.accepted (hs.setShutoff ..))))

theorem configWriteOrphanLimit (h : execConfigWriteOrphanLimit seat s = .next t) : t.SafePairs := by
  cases h
  refine hs.onWrite fun i r v hv => ?_
  split at hv <;> cases hv
  refine .asService (.fields fun limit => .accepted ?_)
  have hset : State.SafePairs { s with lbi := { s.lbi with orphan := { s.lbi.orphan with limit := limit } } } :=
    hs.beside rfl
  unfold State.setOrphanLimit
  dsimp only
  split
  · exact hset.orphanBegins
  · exact hset

theorem directoryAccess (r : Request) (data : Option DirWord) : (s.directoryAccess seat r data).SafePairs := by
  unfold State.directoryAccess
  split
  · exact hs.answer
  · split
    · exact hs.answer
    · dsimp only
      split
      · exact hs.beside rfl
      · exact hs.beside rfl

theorem dirPortGrant (h : execDirPortGrant s = .next t) : t.SafePairs := by
  cases h
  split
  · split
    · exact hs
    · split
      · exact hs
      · dsimp only
        split
        · exact hs.answerBeside rfl
        · exact hs.answerBeside rfl
  · exact hs

theorem walkGrant (h : execWalkGrant s = .next t) : t.SafePairs := by
  cases h
  split
  · exact hs
  · split
    · exact hs
    · next seat _ =>
      have hgrant : (s.granted seat).SafePairs := hs.beside rfl
      dsimp only
      split
      · exact hgrant.settleArbiter
      · split
        · split
          · split
            · exact hs.beside rfl
            · exact hgrant.endWalk ..
          · exact hgrant.answer.settleArbiter
        all_goals exact hgrant.settleArbiter

theorem busFrameReceive {frame : Frame} (h : execBusFrameReceive frame s = .next t) : t.SafePairs := by
  cases h
  split
  · exact hs
  · split
    · exact hs
    · split
      · exact hs
      · refine enter ?_ _ _
        split
        · exact hs
        · exact hs.beside

theorem rearm (h : execRearm seat s = .next t) : t.SafePairs := by
  cases h
  refine hs.onRequest fun r => ?_
  split
  · exact hs.answer
  · split
    · exact hs.answer
    · split
      · exact hs.answer
      · split
        · exact hs.answer
        · split
          · exact hs.answer
          · split
            · exact hs.answer
            · exact (hs.rearmChannel _).answer

theorem releaseLockout (h : execReleaseLockout seat s = .next t) : t.SafePairs := by
  cases h
  refine hs.onRequest fun r => ?_
  split
  · exact hs.answer
  · split
    · exact hs.answer
    · dsimp only
      split
      · split
        · exact (hs.changeCircuit ..).answer
        · exact hs.answer
      · exact hs.answer

end

end State.SafePairs

/-- R122, R123: every command keeps every pair safe. -/
theorem exec_safePairs {i : Instr} {s t : State} (hs : s.SafePairs) (h : exec i s = .next t) : t.SafePairs := by
  cases i with
  | powerOnReset st => rw [← Host.Outcome.next.inj h]; exact .powerOn ..
  | restartIn => rw [← Host.Outcome.next.inj h]; exact hs.warmRestart
  | restartTake =>
    rw [← Host.Outcome.next.inj h]
    split
    · exact hs.warmRestart
    · exact hs
  | pairPermilleStep => cases h; exact hs.onPair fun q p hdue hp => hp.permilleStep q hdue
  | overdriveEnd => cases h; exact hs.onPair fun q p _ hp => hp.endOverdrive q
  | syncEnd => cases h; exact hs.onPair fun q p _ _ => p.endSync_safe q
  | deadTimeExpiry => cases h; exact hs.onPair fun q p _ hp => hp.endDeadTime q
  | safeEndExpiry | unsyncedSafeDriveEnd => cases h; exact hs.onPair fun q p _ hp => hp.endSafe q
  | configWritePair => cases h; exact hs.onPairWrite fun k x => .ite .refused (.accepted (hs.setPair k x))
  | pairForm => cases h; exact hs.onPairWrite fun k x => .ite .refused (.ite .refused (.accepted (hs.formPair k x)))
  | pairDissolve => cases h; exact hs.onPairWrite fun k x => .ite .refused (.accepted (hs.dissolvePair k x))
  | rearm => exact hs.rearm h
  | emergencyInAssert =>
    cases h
    split
    · exact hs
    · refine State.SafePairs.causeBegins ?_ .emergency fun _ => true
      exact hs.beside rfl
  | orphanTimerExpiry =>
    cases h
    split
    · exact hs.orphanBegins
    · exact hs
  | demandHoldExpiry =>
    cases h
    split
    · exact hs.removeDemands ..
    · exact hs
  | set | release | read => cases h; exact hs.onRequest fun r => hs.resolve ..
  | busFrameReceive => exact hs.busFrameReceive h
  | serviceFrameReceive =>
    cases h
    split
    · exact hs
    · exact hs.enter ..
  | reinstate =>
    cases h
    refine hs.onRequest fun r => ?_
    split
    · exact hs.answer
    · split
      · exact hs.answer
      · refine State.SafePairs.answer ?_
        split
        · exact hs.setCount ..
        · exact hs
  | configWriteRankTable =>
    cases h
    refine hs.onWrite fun i r v hv => ?_
    split at hv <;> cases hv
    refine .asService (.fields fun ranks => .accepted (State.SafePairs.withRecords ?_ _))
    exact hs.beside rfl
  | configWriteRosterEntry => exact hs.configWriteRosterEntry h
  | configWriteOrphanLimit => exact hs.configWriteOrphanLimit h
  | configWriteShutoff => exact hs.configWriteShutoff h
  | configWriteRoot | configWriteWindow =>
    cases h
    refine hs.onWrite fun i r v hv => ?_
    split at hv <;> cases hv
    exact .asService (.fields fun _ => .accepted (hs.beside rfl))
  | configWriteEventMask =>
    cases h
    refine hs.onWrite fun i r v hv => ?_
    split at hv <;> cases hv
    exact .ite .refused (.fields fun _ => .accepted (hs.beside rfl))
  | configWriteStaticLimits | configWriteFallback | configWriteDefaultHold =>
    cases h
    refine hs.onWrite fun i r v hv => ?_
    split at hv <;> cases hv
    exact .asEditor (.fields fun _ => .settingsWrite (hs.withRecords _))
  | configWriteOutputPolarity | configWriteMinimumTimes =>
    cases h
    refine hs.onWrite fun i r v hv => ?_
    split at hv
    · obtain ⟨_, -, rfl⟩ := Option.map_eq_some_iff.1 hv
      exact .asEditor (.fields fun _ => .settingsWrite (hs.beside rfl))
    · cases hv
  | configWritePeriod | configWriteSensorSettings | configWriteReference | configWriteScanRange | configWriteScanMode =>
    cases h
    refine hs.onWrite fun i r v hv => ?_
    split at hv <;> cases hv
    exact .asEditor (.fields fun _ => .accepted (hs.beside rfl))
  | configWriteBreakpoint =>
    cases h
    refine hs.onWrite fun i r v hv => ?_
    split at hv <;> cases hv
    exact .asEditor (.fields fun _ => .ite .refused (.accepted (hs.beside rfl)))
  | configWritePulseSettings =>
    cases h
    refine hs.onWrite fun i r v hv => ?_
    split at hv <;> cases hv
    exact .asEditor (.fields fun f => .accepted (hs.setPulse ..))
  | configWriteCircuitSensors | configWriteCircuitThresholds | configWriteCircuitTimes =>
    cases h
    refine hs.onWrite fun i r v hv => ?_
    split at hv <;> cases hv
    exact .circuitWrite (.fields fun _ => .accepted (hs.beside rfl))
  | configWriteCircuitOutputs =>
    cases h
    refine hs.onWrite fun i r v hv => ?_
    split at hv <;> cases hv
    refine .circuitWrite (.fields fun f => .accepted (State.SafePairs.withRecords ?_ _))
    exact hs.beside rfl
  | configWriteCircuitFlow =>
    cases h
    refine hs.onWrite fun i r v hv => ?_
    split at hv <;> cases hv
    refine .circuitWrite (.fields fun f => .accepted (State.SafePairs.judgeProof ?_ _))
    exact hs.beside rfl
  | circuitEnable =>
    cases h
    refine hs.onCircuit fun r n => ?_
    dsimp only
    split
    · exact hs.answer
    · split
      · exact hs.answer
      · exact (hs.changeCircuit ..).answer
  | circuitDisable =>
    cases h
    refine hs.onCircuit fun r n => ?_
    dsimp only
    split
    · split
      · exact hs.answer
      · exact (hs.changeCircuit ..).answer
    · exact hs.answer
  | releaseLockout => exact hs.releaseLockout h
  | flushPoint | flushSeat => cases h; exact hs.onFlush fun r => hs.flushNamed fun q => hs.beside rfl
  | flushAll =>
    cases h
    refine hs.onFlush fun r => ?_
    split
    · exact hs.answer
    · exact hs.answerBeside rfl
  | scanStart | scanSingle =>
    cases h
    refine hs.onScan fun r => ?_
    unfold State.startScan
    split
    · exact hs.answer
    · exact hs.answerBeside rfl
  | scanStop => cases h; exact hs.onScan fun r => hs.answerBeside rfl
  | events | clear => cases h; exact hs.onRequest fun r => hs.answerBeside rfl
  | openDirectory | closeDirectory =>
    cases h
    refine hs.onRequest fun r => ?_
    unfold State.setDirectory
    split
    · exact hs.answer
    · exact hs.answerBeside rfl
  | hello => cases h; exact hs.onRequest fun r => hs.answer
  | dirRead | dirWrite => cases h; exact hs.onRequest fun r => hs.directoryAccess ..
  | dirPortGrant => exact hs.dirPortGrant h
  | configRead =>
    cases h
    refine hs.onRequest fun r => ?_
    split
    · exact hs.answer
    · split
      · exact hs.answer
      · exact hs.answer
  | configWriteOther =>
    cases h
    refine hs.onRequest fun r => ?_
    split
    · exact hs.answer
    · split
      · exact hs.answer
      · exact hs
  | restart =>
    cases h
    refine hs.onRequest fun r => ?_
    split
    · exact hs.answer
    · exact hs.beside
  | flowGraceExpiry =>
    cases h
    dsimp only
    split
    · refine State.SafePairs.evaluate ?_ _
      exact hs.beside rfl
    · exact hs
  | tripDwellExpiry =>
    cases h
    dsimp only
    split
    · exact ((hs.changeCircuit ..).raiseAll _).evaluate _
    · exact hs
  | pulseRisingEdge =>
    cases h
    dsimp only
    split
    · split
      · refine State.SafePairs.judgeProofOf ?_ _
        exact hs.beside rfl
      · exact hs.beside rfl
    · exact hs
  | pulseTimeoutExpiry =>
    cases h
    dsimp only
    split
    · refine State.SafePairs.judgeProofOf ?_ _
      exact hs.beside rfl
    · exact hs
  | referencePhaseEnd =>
    cases h
    split
    · split
      · split
        · exact hs.completeConversion ..
        · exact hs.beside rfl
      · exact hs
    · exact hs
  | sensorPhaseEnd =>
    cases h
    split
    · split
      · exact hs.completeConversion ..
      · exact hs
    · exact hs
  | walkGrant => exact hs.walkGrant h
  | walkZoneRead | walkLinkTargetRead =>
    cases h
    split
    · split
      · split
        · exact hs.walkRead ..
        · exact hs
      all_goals exact hs
    · exact hs
  | walkGroupRead | walkPointRead =>
    cases h
    split
    · split
      · split
        · exact hs.endWalk ..
        · split
          · exact hs.walkRead ..
          · exact hs
      all_goals exact hs
    · exact hs
  | walkMarkWrite =>
    cases h
    split
    · split
      · split
        · refine State.SafePairs.walkOn ?_ _ _
          exact hs.beside rfl
        · exact hs
      all_goals exact hs
    · exact hs
  | handlerTakeHead =>
    cases h
    split
    · dsimp only
      split
      · exact hs.beside rfl
      · exact hs.beside
    · exact hs
    · exact hs
  | discreteMinimumReached =>
    cases h
    split
    · exact hs.beside rfl
    · exact hs
  | replySentWhole link => cases h; cases link <;> exact hs.beside rfl
  | periodEnd | emergencyInDeassert | replyTransmit | replyReadbackAbandon | serviceReplyTransmit |
    frameReceptionCutShort =>
    cases h
    exact hs.beside rfl

/-- Settles O57: each command, the tick and each restart keeps every pair safe. -/
theorem pairsStaySafe : Obligations.PairsStaySafe := by
  intro s t hs h
  rw [State.pairsSafe_iff] at hs ⊢
  unfold step at h
  split at h
  · next rest _ =>
    have hrest : State.SafePairs { s with pending := rest } := hs.beside rfl
    exact exec_safePairs hrest h
  · unfold State.idle at h
    split at h
    · exact exec_safePairs hs h
    · cases h
      exact hs.tick

end Sys2Proof.Machine
end

section
/-! SUPPORT. The pins of modulated channels and of formed pairs, period ends, and discrete channels. -/

namespace Sys2Proof.Machine

/-! ### Pins (R117, R118, R122) -/

/-- R118: a pin stands at its active level exactly while it is active. -/
theorem levelAt_eq_active (pol : Polarity) (x : Bool) : levelAt pol x = levelAt pol true ↔ x = true := by
  cases pol <;> simp [levelAt]

/-- R118: the level of a pin that is active or not. -/
theorem levelAt_eq_true (pol : Polarity) (x : Bool) : levelAt pol x = true ↔ (x = true ↔ pol = .activeHigh) := by
  cases pol <;> simp [levelAt]

/-- R122: a pin of a formed pair is its drive's. -/
theorem State.pinLevel_formed {s : State} {m : ModCh} {p : PairRun}
    (h : (s.odu.pairs.read (pairOfMod m)).run = some p) : s.pinLevel m = levelAt (s.odu.mods.read m).polarity
      (p.state.drive == some (if m.val % 2 = 0 then Dir.opening else .closing)) := by
  simp only [State.pinLevel, h]

/-- Settles O50: each pin is active while its own drive is asserted, and a state asserts one drive at most. -/
theorem pairDrivesNeverTogether : Obligations.PairDrivesNeverTogether := by
  intro s k p a b hrun ha hb active
  have hak : a.val = 2 * k.val := congrArg Fin.val ha
  have hbk : b.val = 2 * k.val + 1 := congrArg Fin.val hb
  have hactive : ∀ (m : ModCh), pairOfMod m = k →
      (active m ↔ p.state.drive = some (if m.val % 2 = 0 then Dir.opening else .closing)) := fun m hm => by
    change s.pinLevel m = _ ↔ _
    rw [State.pinLevel_formed (hm ▸ hrun), levelAt_eq_active, beq_iff_eq]
  have hopens : active a ↔ p.state.drive = some .opening := by
    rw [hactive a (Fin.ext (by simp only [pairOfMod]; omega)), if_pos (by omega)]
  have hcloses : active b ↔ p.state.drive = some .closing := by
    rw [hactive b (Fin.ext (by simp only [pairOfMod]; omega)), if_neg (by omega)]
  refine ⟨fun ⟨hboth, hboth'⟩ => ?_, hopens, hcloses⟩
  exact Dir.noConfusion (Option.some.inj ((hopens.1 hboth).symm.trans (hcloses.1 hboth')))

/-! ### Period ends (R116, R117, R118) -/

section
variable (s : State) (g : GroupNo)

/-- R116: the period end loads the buffered period of its group. -/
theorem State.endPeriod_groups (o : GroupNo) : (s.endPeriod g).odu.groups.read o =
    if g = o then (s.odu.groups.read g).atPeriodEnd else s.odu.groups.read o := by
  simp only [State.endPeriod, Bank.read_write]

/-- R117, R118: the period end gives the driving channels of its group, outside formed pairs, their compares. -/
theorem State.endPeriod_mods (m : ModCh) : (s.endPeriod g).odu.mods.read m =
    if groupOf m = g ∧ s.shutOff (modCh m) = false ∧ s.odu.member (modCh m) = false then
      (s.odu.mods.read m).atPeriodEnd (s.odu.groups.read g).atPeriodEnd.period
    else s.odu.mods.read m := by
  simp only [State.endPeriod, Bank.read_fill]

end

theorem groupOf_eq_iff {m : ModCh} {g : GroupNo} : groupOf m = g ↔ m.val / 8 = g.val := Fin.ext_iff

/-- Settles O48: the group's own channels that drive outside a pair take the period end, and no other unit does. -/
theorem periodEndLoadsCompares : Obligations.PeriodEndLoadsCompares := by
  intro s g gr period
  refine ⟨s.endPeriod g, rfl, rfl, ?group, fun o ho => ?others, fun m hg hoff hmem => ?driving, fun m h => ?kept, rfl,
    rfl⟩
  case group => rw [State.endPeriod_groups, if_pos rfl]; rfl
  case others => rw [State.endPeriod_groups, if_neg ho.symm]
  case driving =>
    have hmod : (s.endPeriod g).odu.mods.read m = (s.odu.mods.read m).atPeriodEnd period := by
      rw [State.endPeriod_mods, if_pos ⟨groupOf_eq_iff.2 hg, hoff, hmem⟩]
      rfl
    have hcount : ((s.endPeriod g).odu.groups.read (groupOf m)).counter = 0 := by
      rw [State.endPeriod_groups, if_pos (groupOf_eq_iff.2 hg).symm]
      rfl
    refine ⟨hmod, by rw [hmod]; rfl, by rw [hmod]; rfl, ?_⟩
    rw [State.pinLevel_alone (s := s.endPeriod g) hmem, hmod, hcount]
    exact (levelAt_eq_true _ _).trans (iff_congr decide_eq_true_iff .rfl)
  case kept =>
    rw [State.endPeriod_mods, if_neg]
    rintro ⟨hg, hoff, hmem⟩
    rcases h with h | h | h
    · exact h (groupOf_eq_iff.1 hg)
    · exact Bool.noConfusion (hoff.symm.trans h)
    · exact Bool.noConfusion (hmem.symm.trans h)

/-! ### Discrete channels (R130, R138) -/

/-- R130, R138: a request for the state the channel has removes a held change; another is followed at once where the
channel drives and the minimum is met, and held where not. -/
theorem Discrete.request_eq (d : Discrete) (want off : Bool) : d.request off want =
    if want = d.on then { d with held := none }
    else if off = false ∧ d.minimum ≤ d.time then { d with on := want, time := 0, held := none }
    else { d with held := some want } := by
  unfold Discrete.request
  split
  · rfl
  · next hne =>
    cases off with
    | true => rfl
    | false => simp [Discrete.change, hne]

/-- Settles O51: a request as its equation gives it, and a minimum that is due applies the held change. -/
theorem discreteRequestsWaitForMinimums : Obligations.DiscreteRequestsWaitForMinimums := by
  refine ⟨fun d want off => d.request_eq want off, ?_⟩
  intro s d want c hheld hne hmet
  refine ⟨fun hdrives => ?_, fun hoff => ?_⟩
  · have hdue : s.minimumDue d = true := (s.minimumDue_iff d).2 ⟨hdrives, ne_of_eq_of_ne hheld nofun, hmet⟩
    have hnow : c.applyHeld = { c with on := want, time := 0, held := none } := Discrete.applyHeld_met hheld hne hmet
    rw [← hnow]
    exact congrArg Host.Outcome.next (if_pos hdue)
  · have hnot : ¬s.minimumDue d = true := fun hdue => by
      obtain ⟨hdrives, -, -⟩ := (s.minimumDue_iff d).1 hdue
      exact Bool.noConfusion (hdrives.symm.trans hoff)
    exact congrArg Host.Outcome.next (if_neg hnot)

end Sys2Proof.Machine
end

section
/-! SUPPORT. The timed events of a floating pair, each where its time has run out, and the targets handed to it. -/

namespace Sys2Proof.Machine

section
variable {q : Pair} {p : PairRun} {d : Dir}

/-! ### Moves and safe drives (R123, R125, R139) -/

theorem PairRun.endMove_limit (h : p.target = d.limit) : p.endMove q d =
    { p with state := .overdrive d, left := 10 * q.stroke, stroke := q.stroke, accumulator := 0 } := by
  rw [PairRun.endMove, if_pos h, Nat.mul_comm]

theorem PairRun.endMove_short (hs : p.state = .moving d) (h : p.target ≠ d.limit) :
    p.endMove q d = { p.afterRelease q d with state := .idle } := by
  rw [PairRun.endMove, if_neg h, PairRun.release_eq (d := d) (hs ▸ rfl)]

/-- R123, R125: a permille of a move: before its target, at a target short of the end of its travel, and at one that is
that end. -/
theorem PairRun.permilleStep_ofMove (q : Pair) (hs : p.state = .moving d) :
    let e := stepEstimate d p.estimate
    (p.target ≠ e → p.permilleStep q = p.stepped d) ∧
      (p.target = e → e ≠ d.limit →
        p.permilleStep q = { p.afterRelease q d with state := .idle, estimate := e }) ∧
      (p.target = e → e = d.limit → p.permilleStep q = { p with
        state := .overdrive d, estimate := e, left := 10 * q.stroke, stroke := q.stroke, accumulator := 0 }) := by
  intro e
  rw [PairRun.permilleStep_moving hs]
  refine ⟨fun hne => if_neg (Ne.symm hne), fun heq hshort => ?_, fun heq hend => ?_⟩
  · exact (if_pos heq.symm).trans (PairRun.endMove_short (p := p.stepped d) hs (ne_of_eq_of_ne heq hshort))
  · exact (if_pos heq.symm).trans (PairRun.endMove_limit (p := p.stepped d) (heq.trans hend))

/-- R139: a permille of a synced pair's safe drive, short of its end and at it. -/
theorem PairRun.permilleStep_ofSafeDrive (q : Pair) (hs : p.state = .safeDriving d) :
    let e := stepEstimate d p.estimate
    (e ≠ d.limit → p.permilleStep q = p.stepped d) ∧
      (e = d.limit → p.permilleStep q = { p with
        state := .safeEnd d, estimate := e, left := 10 * q.stroke, stroke := q.stroke, accumulator := 0 }) := by
  intro e
  rw [PairRun.permilleStep_safeDriving hs, Nat.mul_comm 10]
  exact ⟨fun hne => if_neg hne, fun hend => if_pos hend⟩

/-! ### Times that run out (R122, R125, R128, R139) -/

theorem PairRun.overdriveDone_of (hs : p.state = .overdrive d) (hl : p.left ≤ 1) : p.overdriveDone = true := by
  simp [PairRun.overdriveDone, PairRun.timeUp, PairRun.timed, hs, hl]

theorem PairRun.syncDone_of (hs : p.state = .syncing) (hl : p.left ≤ 1) : p.syncDone = true := by
  simp [PairRun.syncDone, PairRun.timeUp, PairRun.timed, hs, hl]

theorem PairRun.safeEndDone_of (hs : p.state = .safeEnd d) (hl : p.left ≤ 1) : p.safeEndDone = true := by
  simp [PairRun.safeEndDone, PairRun.timeUp, PairRun.timed, hs, hl]

theorem PairRun.unsyncedDriveDone_of (hs : p.state = .safeDriving d) (hu : p.unsynced = true) (hl : p.left ≤ 1) :
    p.unsyncedDriveDone = true := by
  simp [PairRun.unsyncedDriveDone, PairRun.timeUp, PairRun.timed, hs, hu, hl]

theorem PairRun.deadUp_of {n : Nat} (hn : p.deadLeft = some n) (hl : n ≤ 1) : p.deadUp = true := by
  simp [PairRun.deadUp, hn, hl]

/-- R128: a sync ends with the pair at 0, its drive released and its target judged. -/
theorem PairRun.endSync_judgedAs (q : Pair) (hs : p.state = .syncing) : PairRun.judgedAs q
    { p.afterRelease q .closing with state := .idle, estimate := 0, unsynced := false } (p.endSync q) := by
  rw [PairRun.endSync, PairRun.release_eq (d := .closing) (hs ▸ rfl)]
  exact PairRun.judge_judgedAs ..

/-- R122, R124, R139: the end of the dead time, in each state. -/
theorem PairRun.endDeadTime_waiting (q : Pair) (hs : p.state = .waiting) :
    PairRun.judgedAs q { p with deadLeft := none } (p.endDeadTime q) := by
  simp only [PairRun.endDeadTime, hs]
  exact PairRun.judge_judgedAs ..

theorem PairRun.endDeadTime_safeWaiting (q : Pair) (hs : p.state = .safeWaiting d) :
    PairRun.safeAsserted q d { p with deadLeft := none } (p.endDeadTime q) := by
  simp only [PairRun.endDeadTime, hs]
  exact PairRun.assertSafe_spec ..

theorem PairRun.endDeadTime_other (q : Pair) (hs : p.state = .idle ∨ p.state = .safeRest ∨ p.state.drive ≠ none) :
    p.endDeadTime q = { p with deadLeft := none } := by
  unfold PairRun.endDeadTime
  cases h : p.state with
  | waiting | safeWaiting => simp [h, PairState.drive] at hs
  | idle | moving | overdrive | syncing | safeDriving | safeEnd | safeRest => rfl

/-! ### Targets (R124, R126, R127, R139) -/

theorem PairRun.takeTarget_idle (q : Pair) (t : Nat) (hs : p.state = .idle) :
    PairRun.judgedAs q { p with target := t } (p.takeTarget q false t) := by
  simp only [PairRun.takeTarget, hs, Bool.false_eq_true, if_false]
  exact PairRun.judge_judgedAs ..

/-- R126: a target handed in a move ends it, is led to, or is waited for with the drive released. -/
theorem PairRun.takeTarget_moving (q : Pair) (t : Nat) (hs : p.state = .moving d) : p.takeTarget q false t =
    if t = p.estimate then PairRun.endMove q d { p with target := t }
    else if d.towards p.estimate t = true then { p with target := t }
    else { p.afterRelease q d with state := .waiting, target := t } := by
  have hrelease : PairRun.release q { p with target := t } = PairRun.afterRelease q d { p with target := t } :=
    PairRun.release_eq (hs ▸ rfl)
  simp only [PairRun.takeTarget, Bool.false_eq_true, if_false, hrelease]
  rw [hs]
  rfl

/-- R127: a target handed in an overdrive is its end, or ends it and is judged. -/
theorem PairRun.takeTarget_overdrive (q : Pair) (t : Nat) (hs : p.state = .overdrive d) :
    (t = d.limit → p.takeTarget q false t = { p with target := t }) ∧
      (t ≠ d.limit → PairRun.judgedAs q { p.afterRelease q d with state := .idle, target := t }
        (p.takeTarget q false t)) := by
  have hrelease : PairRun.release q { p with target := t } = PairRun.afterRelease q d { p with target := t } :=
    PairRun.release_eq (hs ▸ rfl)
  have htake : p.takeTarget q false t = if t = d.limit then { p with target := t }
      else PairRun.judge q { p.afterRelease q d with state := .idle, target := t } := by
    simp only [PairRun.takeTarget, Bool.false_eq_true, if_false, hrelease]
    rw [hs]
    rfl
  rw [htake]
  refine ⟨fun h => if_pos h, fun h => ?_⟩
  rw [if_neg h]
  exact PairRun.judge_judgedAs ..

/-- R126, R139: in the other states a target is taken alone. -/
theorem PairRun.takeTarget_kept (q : Pair) (t : Nat) (hs : p.state = .waiting ∨ p.state = .syncing ∨
    p.state = .safeRest ∨ ∃ d, p.state = .safeWaiting d ∨ p.state = .safeDriving d ∨ p.state = .safeEnd d) :
    p.takeTarget q false t = { p with target := t } := by
  unfold PairRun.takeTarget
  dsimp only
  rw [if_neg Bool.false_ne_true]
  cases h : p.state with
  | idle | moving | overdrive => simp [h] at hs
  | waiting | syncing | safeWaiting | safeDriving | safeEnd | safeRest => rfl

theorem Dir.towards_opening (e t : Nat) : Dir.opening.towards e t = true ↔ e < t := decide_eq_true_iff

theorem Dir.towards_closing (e t : Nat) : Dir.closing.towards e t = true ↔ t < e := decide_eq_true_iff

/-- R126: an opening drive does not lead to a target below the estimate, nor a closing drive to one that is not. -/
theorem Dir.not_towards {d : Dir} {e t : Nat} (hdir : d = .opening ↔ t < e) : ¬d.towards e t = true := by
  cases d with
  | opening =>
    have hlt : t < e := hdir.1 rfl
    rw [Dir.towards_opening]
    omega
  | closing =>
    have hle : ¬t < e := fun h => Dir.noConfusion (hdir.2 h)
    rwa [Dir.towards_closing]

end

/-! ### Events of a pair in its run -/

/-- An event of a formed pair that is due changes the pair's run. -/
theorem State.onPair_due {s : State} {k : PairNo} {p : PairRun} {due : PairRun → Bool}
    (hrun : (s.odu.pairs.read k).run = some p) (hdue : due p = true) (f : Pair → PairRun → PairRun) :
    s.onPair k due f = { s with odu := { s.odu with pairs := (s.odu.pairs.write k
      { s.odu.pairs.read k with run := some (f (s.odu.pairs.read k) p) }) } } := by
  simp only [State.onPair, Pair.change, hrun, Option.any_some, hdue, if_true, Option.map_some]

/-- Settles O49: an event that is due makes of the pair's run what that event's own lemma says, and so does a target. -/
theorem pairTimersAndTargetsAct : Obligations.PairTimersAndTargetsAct := by
  unfold Obligations.PairTimersAndTargetsAct
  intro limit
  have hlimit : ∀ d, limit d = d.limit := fun d => by cases d <;> rfl
  refine ⟨?events, ?targets⟩
  case events =>
    intro s k p hrun q becomes
    have event {due : PairRun → Bool} {f : Pair → PairRun → PairRun} {p' : PairRun} (hdue : due p = true)
        (hp' : f q p = p') : (Host.Outcome.next (s.onPair k due f) : Outcome) =
          .next { s with odu := { s.odu with pairs := (s.odu.pairs.write k { q with run := some p' }) } } := by
      subst hp'
      exact congrArg Host.Outcome.next (State.onPair_due hrun hdue f)
    refine ⟨fun d => ?permille, fun d hleft => ?ends, fun hs hleft => ?sync, fun n hn hle => ?dead⟩
    case permille =>
      intro e hacc
      have he : e = stepEstimate d p.estimate := by cases d <;> rfl
      have hmoves (hs : p.state = .moving d) : p.permilleDue = true := p.permilleDue_iff.2 ⟨hacc, d, .inl hs⟩
      have hdrives (hs : p.state = .safeDriving d) (hu : p.unsynced = false) : p.permilleDue = true :=
        p.permilleDue_iff.2 ⟨hacc, d, .inr ⟨hs, hu⟩⟩
      rw [he, hlimit]
      refine ⟨fun hs hne => ?on, fun hs heq hne => ?short, fun hs heq hend => ?overdrives, fun hs hu hne => ?safe,
        fun hs hu hend => ?safeEnd⟩
      case on =>
        obtain ⟨hon, -, -⟩ := PairRun.permilleStep_ofMove q hs
        exact event (hmoves hs) (hon hne)
      case short =>
        obtain ⟨-, hshort, -⟩ := PairRun.permilleStep_ofMove q hs
        exact event (hmoves hs) (hshort heq hne)
      case overdrives =>
        obtain ⟨-, -, hover⟩ := PairRun.permilleStep_ofMove q hs
        exact event (hmoves hs) (hover heq hend)
      case safe => exact event (hdrives hs hu) ((PairRun.permilleStep_ofSafeDrive q hs).1 hne)
      case safeEnd => exact event (hdrives hs hu) ((PairRun.permilleStep_ofSafeDrive q hs).2 hend)
    case ends =>
      refine ⟨fun hs => event (PairRun.overdriveDone_of hs hleft) ?_,
        fun hs => event (PairRun.safeEndDone_of hs hleft) ?_,
        fun hs hu => event (PairRun.unsyncedDriveDone_of hs hu hleft) ?_⟩
      all_goals
        have hdrive : p.state.drive = some d := hs ▸ rfl
        rw [← PairRun.release_eq hdrive]
        rfl
    case sync => exact ⟨_, event (PairRun.syncDone_of hs hleft) rfl, PairRun.endSync_judgedAs q hs⟩
    case dead =>
      have hup : p.deadUp = true := PairRun.deadUp_of hn hle
      refine ⟨fun hs => ⟨_, event hup rfl, PairRun.endDeadTime_waiting q hs⟩, fun d hs => ?_, fun hs => ?_⟩
      · obtain ⟨hunsynced, hend, hshort⟩ := PairRun.endDeadTime_safeWaiting q hs
        exact ⟨fun hu => event hup (hunsynced hu), fun hu hne => event hup (hshort hu hne),
          fun hu heq => event hup (hend hu heq)⟩
      · exact event hup (PairRun.endDeadTime_other q hs)
  case targets =>
    intro q p t p'
    have hmove {d : Dir} (hs : p.state = .moving d) := PairRun.takeTarget_moving q t hs
    refine ⟨rfl, PairRun.takeTarget_idle q t, fun hs hlt => ?opens, fun hs hlt => ?closes, fun d hs heq hne => ?ends,
      fun d hs heq hend => ?overdrives, fun d hs hne hdir => ?waits,
      fun d hs hend => (PairRun.takeTarget_overdrive q t hs).1 (hlimit d ▸ hend),
      fun d hs hne => (PairRun.takeTarget_overdrive q t hs).2 (hlimit d ▸ hne), PairRun.takeTarget_kept q t⟩
    case opens => exact (hmove hs).trans ((if_neg (Nat.ne_of_gt hlt)).trans (if_pos ((Dir.towards_opening ..).2 hlt)))
    case closes => exact (hmove hs).trans ((if_neg (Nat.ne_of_lt hlt)).trans (if_pos ((Dir.towards_closing ..).2 hlt)))
    case ends =>
      exact (hmove hs).trans ((if_pos heq).trans
        (PairRun.endMove_short (p := { p with target := t }) hs (hlimit d ▸ hne)))
    case overdrives =>
      exact (hmove hs).trans ((if_pos heq).trans
        (PairRun.endMove_limit (p := { p with target := t }) (hlimit d ▸ hend)))
    case waits => exact (hmove hs).trans ((if_neg hne).trans (if_neg (Dir.not_towards hdir)))

end Sys2Proof.Machine
end

section
/-! SUPPORT. EMERGENCY_IN: the channels whose masks name it are shut off where it goes asserted. -/

namespace Sys2Proof.Machine

/-- R135: the part with EMERGENCY_IN asserted, before the channels that it concerns are shut off. -/
def State.emergencyHeld (s : State) : State := { s with shu := { s.shu with emergencyIn := true } }

/-- R136: the channels whose masks name EMERGENCY. -/
def State.emergencyNames (s : State) (c : OutCh) : Bool := (s.shutoff c).mask.emergency

theorem exec_emergencyInAssert_first {s : State} (h : s.shu.emergencyIn = false) :
    exec .emergencyInAssert s = .next (s.emergencyHeld.shutOffWhere s.emergencyNames) :=
  congrArg Host.Outcome.next (if_neg (by simp [h]))

/-- Settles O52: the assertion shuts off exactly the driving channels whose masks name EMERGENCY. -/
theorem emergencyShutsOff : Obligations.EmergencyShutsOff := by
  intro s
  refine ⟨fun h => ?asserts, fun h => congrArg Host.Outcome.next (if_pos h), rfl⟩
  let u := s.emergencyHeld
  have hlatch (c : OutCh) : (u.shutOffWhere s.emergencyNames).shutOff c =
      (s.shutOff c || ((s.shutoff c).mask.emergency && !s.odu.oddMember c)) := u.shutOffWhere_shutOff _ c
  have hdown : shutDown u (u.shutOffWhere s.emergencyNames) fun c =>
      s.shutOff c = false ∧ (s.shutoff c).mask.emergency = true ∧ s.odu.oddMember c = false := by
    convert u.shutOffWhere_shutDown s.emergencyNames using 2 with c
    exact and_left_comm
  refine ⟨_, exec_emergencyInAssert_first h, u.shutOffWhere_emergencyIn _, hlatch, fun c hdrove hoff q => ?raised,
    fun hsame => ?kept, hdown, u.shutOffWhere_cmdt _, u.shutOffWhere_circuits _, u.shutOffWhere_lbi _⟩
  case raised =>
    obtain ⟨-, hflags⟩ := u.shutOffWhere_flags s.emergencyNames
    exact (hflags q .shutoff).1 ⟨rfl, c, fun e => Bool.noConfusion (hdrove.symm.trans (e.symm.trans hoff))⟩
  case kept =>
    have hnone : u.shutOffWhere s.emergencyNames = u := hdown.1 fun c ⟨hdrives, hnamed, hown⟩ => by
      have hoff := hlatch c
      rw [hsame c, hdrives, hnamed, hown] at hoff
      cases hoff
    rw [hnone]
    exact ⟨rfl, rfl⟩

end Sys2Proof.Machine
end

section
/-! SUPPORT. The write of a shutoff item: the fields its words give, the checks of R134, and what replacing them does
to the channel's latch and output. -/

namespace Sys2Proof.Machine

/-! ### The fields and the checks (R134) -/

theorem lineAction?_ofNat (a : LineAction) : lineAction? (BitVec.ofNat 16 a.number) = some a := by
  cases a <;> rfl

theorem pairAction?_ofNat (a : PairAction) : pairAction? (BitVec.ofNat 16 a.number) = some a := by
  rcases a with _ | d
  · rfl
  · cases d <;> rfl

theorem shutoffFields_of_words {r : Request} {a : LineAction} {pa : PairAction} (hl : 4 ≤ r.payload.length)
    (ha : r.word 2 = BitVec.ofNat 16 a.number) (hpa : r.word 3 = BitVec.ofNat 16 pa.number) :
    shutoffFields r = some { mask := wordMask (r.word 1), line := a, pair := pa } := by
  simp only [shutoffFields, Request.has_of_le hl, if_true, Request.field, Option.bind_eq_bind, ha, hpa,
    lineAction?_ofNat, pairAction?_ofNat, Option.bind_some]

theorem State.isFan_iff (s : State) (c : OutCh) : s.isFan c = true ↔ ∃ n, c ∈ (s.circuit n).fans := by
  simp [State.isFan]

section
variable {s : State} {ch : Fin 64} {c : OutCh} {f : ShutoffFields} (hch : ch.val = c.val)
  (hodd : s.odu.oddMember c = false) (hpair : f.pair ≠ .stop → c.val < 24 ∧ c.val % 2 = 0)
include hch hpair

theorem State.shutoffWrite_eq : s.shutoffWrite ch f =
    if (s.isFan c && !f.mask.frostTrip) = true then .refused .badValue
    else if s.odu.oddMember c = true then .refused .badTarget else .accepted (s.setShutoff c f) := by
  have hpaired : ¬(!evenPairChannel c && f.pair != .stop) = true := fun h => by
    obtain ⟨hnot, hdrive⟩ := Bool.and_eq_true_iff.1 h
    obtain ⟨hlt, heven⟩ := hpair (by simpa using hdrive)
    simp [evenPairChannel, hlt, heven] at hnot
  simp only [State.shutoffWrite, hch, index?_val, if_neg hpaired]

/-- R134: a fan keeps FROST_TRIP in its mask. -/
theorem State.shutoffWrite_fan (hfan : ∃ n, c ∈ (s.circuit n).fans) (hfrost : f.mask.frostTrip = false) :
    s.shutoffWrite ch f = .refused .badValue := by
  rw [State.shutoffWrite_eq hch hpair, if_pos (by simp [(s.isFan_iff c).2 hfan, hfrost])]

include hodd in
theorem State.shutoffWrite_taken (h : (∀ n, c ∉ (s.circuit n).fans) ∨ f.mask.frostTrip = true) :
    s.shutoffWrite ch f = .accepted (s.setShutoff c f) := by
  have hkept : ¬(s.isFan c && !f.mask.frostTrip) = true := by
    rw [Bool.and_eq_true, State.isFan_iff]
    rintro ⟨⟨n, hn⟩, hfrost⟩
    exact h.elim (fun hfan => hfan n hn) fun hf => by simp [hf] at hfrost
  rw [State.shutoffWrite_eq hch hpair, if_neg hkept, hodd]
  rfl

end

/-- R134: an editor's write of a shutoff item. -/
theorem State.exec_configWriteShutoff {s : State} {seat : Seat} {r : Request} {ch : Fin 64} {f : ShutoffFields}
    (he : s.editor seat = true) (h : s.servesWrite seat (.shutoff ch) r) (hf : shutoffFields r = some f) :
    exec (.configWriteShutoff seat) s = .next (s.conclude seat r (s.shutoffWrite ch f)) := by
  refine congrArg Host.Outcome.next (State.onWrite_of_servesWrite h ?_)
  simp only [State.asEditor_of_editor he, hf, Verdict.fields]

/-! ### The fields replaced (R134, R136) -/

/-- R134: a shutoff record with its three fields replaced. -/
def Shutoff.withFields (x : Shutoff) (f : ShutoffFields) : Shutoff :=
  { x with mask := f.mask, line := f.line, pair := f.pair }

/-- R134: the part with the three fields of a channel replaced, its latch and its output as they were. -/
def State.shutoffReplaced (s : State) (c : OutCh) (f : ShutoffFields) : State :=
  { s with shu := { s.shu with records := s.shu.records.write c ((s.shutoff c).withFields f) } }

theorem State.shutoffReplaced_shutoff (s : State) (c : OutCh) (f : ShutoffFields) (c' : OutCh) :
    (s.shutoffReplaced c f).shutoff c' = if c = c' then (s.shutoff c).withFields f else s.shutoff c' :=
  Bank.read_write ..

theorem State.shutoffReplaced_shutOff (s : State) (c : OutCh) (f : ShutoffFields) (c' : OutCh) :
    (s.shutoffReplaced c f).shutOff c' = s.shutOff c' := by
  rw [State.shutOff, State.shutoffReplaced_shutoff]
  split
  · next h => rw [← h]; rfl
  · rfl

section
variable {s : State} {c : OutCh} {f : ShutoffFields}

theorem State.setShutoff_off_unchanged (hoff : s.shutOff c = true) (ha : s.actionChanged c f = false) :
    s.setShutoff c f = s.shutoffReplaced c f := (if_pos hoff).trans (if_neg (by simp [ha]))

theorem State.setShutoff_off_changed (hoff : s.shutOff c = true) (ha : s.actionChanged c f = true) :
    s.setShutoff c f = (s.shutoffReplaced c f).forceOutputs fun c' => c' == c := (if_pos hoff).trans (if_pos ha)

theorem State.setShutoff_driving (hon : s.shutOff c = false) : s.setShutoff c f =
    (s.shutoffReplaced c f).shutOffWhere fun c' => c' == c && (s.heldCauses c f.mask).any :=
  if_neg (by simp [hon])

/-- R136: the new mask judged: the latch of the channel is set where a cause that it names holds. -/
theorem State.setShutoff_shutOff (c' : OutCh) : (s.setShutoff c f).shutOff c' =
    (s.shutOff c' || (c' == c && (s.heldCauses c f.mask).any && !s.odu.oddMember c')) := by
  cases hc : s.shutOff c with
  | false =>
    rw [State.setShutoff_driving hc, State.shutOffWhere_shutOff, State.shutoffReplaced_shutOff]
    rfl
  | true =>
    have hkept : (s.setShutoff c f).shutOff c' = s.shutOff c' := by
      cases ha : s.actionChanged c f with
      | false => rw [State.setShutoff_off_unchanged hc ha, State.shutoffReplaced_shutOff]
      | true =>
        rw [State.setShutoff_off_changed hc ha, State.shutOff, State.shutoff, State.forceOutputs_shu]
        exact s.shutoffReplaced_shutOff c f c'
    rw [hkept]
    by_cases h : c' = c
    · rw [h, hc, Bool.true_or]
    · rw [beq_false_of_ne h, Bool.false_and, Bool.false_and, Bool.or_false]

/-- R134, R136: beside the latch, the three fields alone are replaced, and no other channel's. -/
theorem State.setShutoff_shutoff (c' : OutCh) : (s.setShutoff c f).shutoff c' =
    { (s.shutoffReplaced c f).shutoff c' with latched := (s.setShutoff c f).shutOff c' } := by
  cases hc : s.shutOff c with
  | false => rw [State.setShutoff_driving hc, State.shutOffWhere_shutoff]
  | true =>
    cases ha : s.actionChanged c f with
    | false => rw [State.setShutoff_off_unchanged hc ha]; rfl
    | true => rw [State.setShutoff_off_changed hc ha, State.shutOff, State.shutoff, State.forceOutputs_shu]; rfl

theorem State.setShutoff_shutoff_same : (s.setShutoff c f).shutoff c =
    { (s.shutoff c).withFields f with latched := (s.setShutoff c f).shutOff c } := by
  rw [State.setShutoff_shutoff, State.shutoffReplaced_shutoff, if_pos rfl]

theorem State.setShutoff_shutoff_other {c' : OutCh} (h : c' ≠ c) :
    (s.setShutoff c f).shutoff c' = s.shutoff c' := by
  rw [State.setShutoff_shutoff, State.shutoffReplaced_shutoff, if_neg h.symm, State.setShutoff_shutOff,
    beq_false_of_ne h, Bool.false_and, Bool.false_and, Bool.or_false]
  rfl

/-- R136: a driving channel is shut off, by the new actions, where the new mask names a cause that holds. -/
theorem State.setShutoff_shutDown (hodd : s.odu.oddMember c = false) (hon : s.shutOff c = false) :
    shutDown (s.shutoffReplaced c f) (s.setShutoff c f) fun c' => c' = c ∧ (s.heldCauses c f.mask).any = true := by
  rw [State.setShutoff_driving hon]
  convert (s.shutoffReplaced c f).shutOffWhere_shutDown _ using 2 with c'
  rw [State.shutoffReplaced_shutOff, Bool.and_eq_true, beq_iff_eq]
  refine ⟨fun h => ⟨h, ?_⟩, fun h => h.1⟩
  rw [h.1]
  exact ⟨hon, hodd⟩

/-- R137 to R139: a shut-off channel takes its changed safe action at once. -/
theorem State.setShutoff_struck (hoff : s.shutOff c = true) (ha : s.actionChanged c f = true) :
    outputsStruck (s.shutoffReplaced c f) (s.setShutoff c f).odu (fun c' => c' = c) ∧ s.setShutoff c f =
      { s.shutoffReplaced c f with odu := (s.setShutoff c f).odu, moment := (s.setShutoff c f).moment } := by
  rw [State.setShutoff_off_changed hoff ha]
  refine ⟨?_, rfl⟩
  simpa only [beq_iff_eq] using (s.shutoffReplaced c f).forceOutputs_struck fun c' => c' == c

end

/-! ### The safe action in use (R134, R139) -/

/-- Of a formed pair's members the even one alone is a pair's even channel. -/
theorem Odu.evenPair_isSome {o : Odu} {c : OutCh} (h : o.oddMember c = false) :
    (o.evenPair c).isSome = o.member c := by
  unfold Odu.oddMember at h
  unfold Odu.evenPair
  split
  · unfold Odu.member
    cases pairOf c with
    | none => rfl
    | some k => cases hk : o.formed k <;> simp [Option.filter, hk]
  · next hodd =>
    have hone : (c.val % 2 == 1) = true := by simp; omega
    rw [hone, Bool.and_true] at h
    rw [h]
    rfl

/-- R134: the safe action in use: of a formed pair its pair action, of any other channel its line action. -/
def Odu.actionInUse (o : Odu) (c : OutCh) (x : Shutoff) : LineAction × Option PairAction :=
  if o.member c = true then (.low, some x.pair) else (x.line, none)

theorem State.actionChanged_eq_false_iff {s : State} {c : OutCh} {f : ShutoffFields} (h : s.odu.oddMember c = false) :
    s.actionChanged c f = false ↔
      s.odu.actionInUse c ((s.shutoff c).withFields f) = s.odu.actionInUse c (s.shutoff c) := by
  unfold State.actionChanged Odu.actionInUse
  rw [Odu.evenPair_isSome h]
  split
  · rw [bne_eq_false_iff_eq, Prod.mk.injEq, Option.some.injEq, and_iff_right rfl]
    exact eq_comm
  · rw [bne_eq_false_iff_eq, Prod.mk.injEq, and_iff_left rfl]
    exact eq_comm

/-- Settles O35: the checks leave the write to `State.setShutoff`, and its lemmas say what that does. -/
theorem shutoffWriteJudgesTheMask : Obligations.ShutoffWriteJudgesTheMask := by
  intro s seat r ch c a pa he h hch hodd hl ha hpa hpair
  let f : ShutoffFields := { mask := wordMask (r.word 1), line := a, pair := pa }
  rw [State.exec_configWriteShutoff he h (shutoffFields_of_words hl ha hpa)]
  refine ⟨fun hfan hfrost => ?refused, fun htaken => ⟨s.setShutoff c f, ?accepted, ?_⟩⟩
  case refused => rw [State.shutoffWrite_fan hch hpair hfan hfrost]; rfl
  case accepted => rw [State.shutoffWrite_taken hch hodd hpair htaken]; rfl
  have hlatch : (s.setShutoff c f).shutOff c = (s.shutOff c || (s.heldCauses c f.mask).any) := by
    rw [State.setShutoff_shutOff, beq_self_eq_true, Bool.true_and, hodd, Bool.not_false, Bool.and_true]
  have hitem := State.setShutoff_shutoff_same (s := s) (c := c) (f := f)
  have hmask : ((s.setShutoff c f).shutoff c).mask = f.mask := by rw [hitem]; rfl
  have hchanged := State.actionChanged_eq_false_iff (f := f) hodd
  rw [hmask]
  refine ⟨rfl, by rw [hitem]; rfl, by rw [hitem]; rfl, ⟨hlatch, fun hon => State.setShutoff_shutDown hodd hon,
    fun hoff hsame => State.setShutoff_off_unchanged hoff (hchanged.2 hsame),
    fun hoff hne => State.setShutoff_struck hoff (Bool.eq_true_of_not_eq_false fun e => hne (hchanged.1 e)),
    fun hon hcaught q => ?raised, fun hon hfree => ?kept⟩, fun c' hc' => State.setShutoff_shutoff_other hc',
    s.setShutoff_cmdt c f, s.setShutoff_circuits c f, s.setShutoff_lbi c f⟩
  case raised =>
    obtain ⟨-, hsome⟩ := State.setShutoff_shutDown (f := f) hodd hon
    obtain ⟨-, -, hframe⟩ := hsome ⟨c, rfl, hcaught⟩
    rw [State.flag_raiseAll (s := s) (congrArg State.evu hframe), if_pos rfl]
  case kept =>
    obtain ⟨hnone, -⟩ := State.setShutoff_shutDown (f := f) hodd hon
    rw [hnone fun c' ⟨_, hcaught⟩ => Bool.noConfusion (hfree.symm.trans hcaught)]
    exact ⟨rfl, rfl⟩

end Sys2Proof.Machine
end

section
/-! SUPPORT. REARM: the rows of its table, and what a return to drive makes of a channel's latch and output. -/

namespace Sys2Proof.Machine

/-! ### One output returned to drive (R142) -/

/-- R130: a held change that equals the output goes, once its minimum is met. -/
theorem Discrete.applyHeld_same {d : Discrete} (h : d.held = some d.on) (hle : d.minimum ≤ d.time) :
    d.applyHeld = { d with held := none } := by
  simp only [Discrete.applyHeld, h, if_pos hle, Discrete.change, if_true]

section
variable {p : PairRun} (q : Pair)

theorem PairRun.rearm_waiting {d : Dir} (hs : p.state = .safeWaiting d) :
    p.rearm q = { p with state := .waiting } := by simp only [PairRun.rearm, hs]

theorem PairRun.rearm_judged (hs : ∀ d, p.state ≠ .safeWaiting d) :
    p.rearm q = PairRun.judge q { p.release q with state := .idle } := by
  unfold PairRun.rearm
  split
  · next d h => exact absurd h (hs d)
  all_goals rfl

theorem PairRun.rearm_rest (hs : p.state = .safeRest) : PairRun.judgedAs q { p with state := .idle } (p.rearm q) := by
  have hrelease : p.release q = p := by simp only [PairRun.release, hs, PairState.drive]
  rw [PairRun.rearm_judged q fun d => by rw [hs]; exact PairState.noConfusion, hrelease]
  exact PairRun.judge_judgedAs ..

/-- R142: a safe drive is released, and the target judged. -/
theorem PairRun.rearm_driving {d : Dir} (hs : p.state = .safeDriving d ∨ p.state = .safeEnd d) :
    PairRun.judgedAs q { p.afterRelease q d with state := .idle } (p.rearm q) := by
  have hdrive : p.state.drive = some d := by rcases hs with hs | hs <;> rw [hs] <;> rfl
  rw [PairRun.rearm_judged q fun d' hw => by simp [hw] at hs, PairRun.release_eq hdrive]
  exact PairRun.judge_judgedAs ..

end

/-! ### The channel returned to drive (R141, R142) -/

section
variable (s : State) (c : OutCh)

theorem State.rearmChannel_shutoff (c' : OutCh) : (s.rearmChannel c).shutoff c' =
    if c' = c then { s.shutoff c with latched := false } else s.shutoff c' := by
  simp only [State.rearmChannel, State.shutoff]
  split
  · next h => rw [h, Bank.read_update_same]
  · next h => rw [Bank.read_update_ne _ _ (Ne.symm h)]

theorem State.rearmChannel_shutOff (c' : OutCh) :
    (s.rearmChannel c).shutOff c' = (s.shutOff c' && decide (c' ≠ c)) := by
  rw [State.shutOff, State.rearmChannel_shutoff]
  split
  · next h => simp [h]
  · next h => simp [h, State.shutOff]

theorem State.rearmChannel_pairs (k : PairNo) : (s.rearmChannel c).odu.pairs.read k =
    if evenCh k = c then (s.odu.pairs.read k).change (PairRun.rearm (s.odu.pairs.read k))
    else s.odu.pairs.read k := by
  simp only [State.rearmChannel, Bank.read_fill]

theorem State.rearmChannel_discretes (d : DiscCh) : (s.rearmChannel c).odu.discretes.read d =
    if discCh d = c then (s.odu.discretes.read d).applyHeld else s.odu.discretes.read d := by
  simp only [State.rearmChannel, Bank.read_fill]

end

/-! ### The rows of REARM (R141) -/

/-- R141: every cause of a channel's mask is gone. -/
def State.causesGone (s : State) (c : OutCh) : Prop :=
  ∀ cause, (s.shutoff c).mask.names cause = true → s.causeHolds c cause = false

theorem State.causesGone_iff (s : State) (c : OutCh) :
    s.causesGone c ↔ (s.heldCauses c (s.shutoff c).mask).any = false := by
  rw [← Bool.not_eq_true, State.heldCauses_any, not_exists]
  refine forall_congr' fun cause => ?_
  rw [not_and, Bool.not_eq_true]

/-- R141: the part after an editor seat's REARM of output channel `c`. -/
def State.rearmed (s : State) (seat : Seat) (r : Request) (c : OutCh) : State :=
  if s.odu.oddMember c = true then s.answer seat r .badTarget []
  else if s.shutOff c = false then s.answer seat r .done []
  else if (s.heldCauses c (s.shutoff c).mask).any = true then s.answer seat r .causeActive []
  else (s.rearmChannel c).answer seat r .done []

section
variable {s : State} {seat : Seat} {r : Request} (h : s.serves seat .rearm r)
include h

theorem exec_rearm_notEditor (he : s.editor seat = false) :
    exec (.rearm seat) s = .next (s.answer seat r .notEditor []) :=
  congrArg Host.Outcome.next ((State.onRequest_of_serves h _).trans (if_pos he))

variable (he : s.editor seat = true)
include he

theorem exec_rearm_unnamed (hn : 64 ≤ (r.word 0).toNat) :
    exec (.rearm seat) s = .next (s.answer seat r .badValue []) :=
  congrArg Host.Outcome.next ((State.onRequest_of_serves h _).trans ((if_neg (by simp [he])).trans (if_pos hn)))

theorem exec_rearm_input (hlo : 32 ≤ (r.word 0).toNat) (hhi : (r.word 0).toNat ≤ 63) :
    exec (.rearm seat) s = .next (s.answer seat r .badTarget []) := by
  refine congrArg Host.Outcome.next ((State.onRequest_of_serves h _).trans
    ((if_neg (by simp [he])).trans ((if_neg (Nat.not_lt.2 hhi)).trans ?_)))
  rw [index?_none hlo]

theorem exec_rearm_output {c : OutCh} (hc : (r.word 0).toNat = c.val) :
    exec (.rearm seat) s = .next (s.rearmed seat r c) := by
  refine congrArg Host.Outcome.next ((State.onRequest_of_serves h _).trans
    ((if_neg (by simp [he])).trans ((if_neg (by omega)).trans ?_)))
  rw [hc, index?_val]
  rfl

end

/-- R142: what an accepted REARM leaves of the part, the output of its channel returned to drive. -/
theorem State.rearmChannel_returned (s : State) (c : OutCh) :
    let t := s.rearmChannel c
    t.shutOff c = false ∧ (∀ c', c' ≠ c → t.shutoff c' = s.shutoff c') ∧
      t.shutoff c = { s.shutoff c with latched := false } ∧
      t = { s with
        odu := { s.odu with pairs := t.odu.pairs, discretes := t.odu.discretes }
        shu := { s.shu with records := t.shu.records } } ∧
      t.odu.mods = s.odu.mods ∧ (∀ k, evenCh k ≠ c → t.odu.pairs.read k = s.odu.pairs.read k) ∧
      ∀ d, discCh d ≠ c → t.odu.discretes.read d = s.odu.discretes.read d := by
  refine ⟨?_, fun c' hc' => ?_, ?_, rfl, rfl, fun k hk => ?_, fun d hd => ?_⟩
  · rw [State.rearmChannel_shutOff]
    simp
  · rw [State.rearmChannel_shutoff, if_neg hc']
  · rw [State.rearmChannel_shutoff, if_pos rfl]
  · rw [State.rearmChannel_pairs, if_neg hk]
  · rw [State.rearmChannel_discretes, if_neg hd]

end Sys2Proof.Machine
end

section
/-! SUPPORT. What the commands do to a latch at SHUT_OFF: none but a REARM, a forming and the power-on reset takes it
back to DRIVING. -/

namespace Sys2Proof.Machine

/-! ### Latches kept -/

/-- R136: the channels that `s` has shut off are shut off in `t`. -/
def State.KeepsLatches (s t : State) : Prop := ∀ c, s.shutOff c = true → t.shutOff c = true

namespace State.KeepsLatches

/-- An operation beside the shutoff records. -/
theorem same {s t : State} (h : t.shu.records = s.shu.records := by simp) : s.KeepsLatches t := fun c hc => by
  rwa [State.shutOff, State.shutoff, h]

theorem refl (s : State) : s.KeepsLatches s := fun _ hc => hc

theorem trans {s t u : State} (h : s.KeepsLatches t) (h' : t.KeepsLatches u) : s.KeepsLatches u :=
  fun c hc => h' c (h c hc)

/-- A change of latches, followed by an operation beside the shutoff unit. -/
theorem andThen {s t u : State} (h : s.KeepsLatches t) (hu : u.shu.records = t.shu.records := by simp) :
    s.KeepsLatches u := h.trans (.same hu)

theorem foldl {β : Type} {f : State → β → State} (h : ∀ (s : State) b, s.KeepsLatches (f s b)) (l : List β)
    (s : State) : s.KeepsLatches (l.foldl f s) := by
  induction l generalizing s with
  | nil => exact .refl s
  | cons b l ih => exact (h s b).trans (ih _)

/-! ### Causes, circuits and shutoff items -/

section
variable (s : State)

theorem shutOffWhere (p : OutCh → Bool) : s.KeepsLatches (s.shutOffWhere p) := fun c hc => by
  rw [State.shutOffWhere_shutOff, hc, Bool.true_or]

theorem causeBegins (cause : Cause) (f : OutCh → Bool) : s.KeepsLatches (s.causeBegins cause f) := shutOffWhere s _

theorem changeCircuit (n : CircuitNo) (now : Circuit) : s.KeepsLatches (s.changeCircuit n now) := fun c hc => by
  rw [State.changeCircuit_shutOff, hc, Bool.true_or]

theorem evaluate (n : CircuitNo) : s.KeepsLatches (s.evaluate n) := by
  unfold State.evaluate
  split
  · exact changeCircuit s n _
  · exact .refl s

theorem judgeProof (n : CircuitNo) : s.KeepsLatches (s.judgeProof n) := by
  by_cases h : proofOf s.piu.channels (s.circuit n) = s.piu.proven.read n
  · rw [State.judgeProof_stays h]
    exact .refl s
  · rw [State.judgeProof_changes rfl h]
    refine .trans ?_ (evaluate _ n)
    exact .same rfl

theorem judgeProofOf (ch : PulseCh) : s.KeepsLatches (s.judgeProofOf ch) := by
  refine foldl (fun s n => ?_) _ s
  split
  · exact judgeProof s n
  · exact .refl s

theorem completeConversion (v : Conversion) (o : ConversionOutcome) : s.KeepsLatches (s.completeConversion v o) := by
  rw [State.completeConversion_eq]
  refine .trans (.same (by rw [s.conversionRecorded_frame])) (foldl (fun s n => ?_) _ _)
  split
  · exact evaluate s n
  · exact .refl s

theorem setPulse (n : PulseCh) (f : PulseFields) : s.KeepsLatches (s.setPulse n f) := by
  unfold State.setPulse
  dsimp only
  split
  · refine .trans ?_ (judgeProofOf _ n)
    exact .same rfl
  · exact .same rfl

theorem setFlow (n : CircuitNo) (f : Option (PulseCh × Nat)) : s.KeepsLatches (s.setFlow n f) := by
  rw [State.setFlow_eq]
  exact .trans .same (judgeProof _ n)

theorem orphanBegins : s.KeepsLatches s.orphanBegins := by
  have hholds : s.KeepsLatches { s with lbi := { s.lbi with orphan := { s.lbi.orphan with holds := true } } } :=
    .same rfl
  exact (hholds.trans (causeBegins _ .orphan fun _ => true)).andThen (by simp [State.orphanBegins])

theorem setOrphanLimit (limit : Nat) : s.KeepsLatches (s.setOrphanLimit limit) := by
  unfold State.setOrphanLimit
  dsimp only
  split
  · refine .trans ?_ (orphanBegins _)
    exact .same rfl
  · exact .same rfl

theorem setShutoff (c : OutCh) (f : ShutoffFields) : s.KeepsLatches (s.setShutoff c f) := fun c' hc' => by
  rw [State.setShutoff_shutOff, hc', Bool.true_or]

/-- R140: a pair that parts leaves no channel of it driving that was shut off. -/
theorem dissolvePair (k : PairNo) (f : PairFields) : s.KeepsLatches (s.dissolvePair k f) := by
  have hpart : s.KeepsLatches (s.partPair k f) := .same
  unfold State.dissolvePair
  dsimp only
  split
  · refine fun c hc => ?_
    have hkept := hpart c hc
    rw [State.shutOff, State.shutoff] at hkept ⊢
    rw [Bank.read_fill, State.forceOutputs_shu, hkept, Bool.true_or]
  · exact hpart.trans (shutOffWhere _ _)

theorem warmRestart : s.KeepsLatches s.warmRestart := fun c hc => (s.warmRestart_shutOff_iff c).2 (.inl hc)

theorem tick : s.KeepsLatches s.tick := by
  rw [State.tick_eq]
  exact .andThen (t := s.timeBases) (.same rfl)

end

/-! ### Requests and writes -/

section
variable {s t : State} {seat : Seat}

theorem answer {r : Request} {c : Code} {p : List Word} (h : s.KeepsLatches t) : s.KeepsLatches (t.answer seat r c p) :=
  h.andThen

theorem onRequest {k : Kind} {f : Request → State} (h : ∀ r, s.KeepsLatches (f r)) :
    s.KeepsLatches (s.onRequest seat k f) := State.onRequest_of (.refl s) h

theorem onWrite {pick : Item → Request → Option Verdict}
    (h : ∀ i r v, pick i r = some v → v.Leaves s.KeepsLatches) : s.KeepsLatches (s.onWrite seat pick) :=
  State.onWrite_of (.refl s) (fun _ _ => .same) fun i r v hv t ht => (h i r v hv t ht).answer

theorem onPairWrite {sort : PairChange} {f : PairNo → PairFields → Verdict}
    (h : ∀ k x, (f k x).Leaves s.KeepsLatches) : s.KeepsLatches (s.onPairWrite seat sort f) :=
  State.onPairWrite_of (.refl s) (fun _ _ => .same) fun _ k x t ht => (h k x t ht).answer

theorem onFlush {form : Nat} {f : Request → State} (h : ∀ r, s.KeepsLatches (f r)) :
    s.KeepsLatches (s.onFlush seat form f) := State.onFlush_of (.refl s) (fun _ _ => .same) h

theorem flushNamed {r : Request} {f : Seat → State} (h : ∀ q, s.KeepsLatches (f q)) :
    s.KeepsLatches (s.flushNamed seat r f) := State.flushNamed_of (fun _ _ => .same) fun q => (h q).answer

theorem onScan {form : Nat} {f : Request → State} (h : ∀ r, s.KeepsLatches (f r)) :
    s.KeepsLatches (s.onScan seat form f) := State.onScan_of (.refl s) (fun _ _ => .same) h

theorem onCircuit {form : Nat} {f : Request → CircuitNo → State} (h : ∀ r n, s.KeepsLatches (f r n)) :
    s.KeepsLatches (s.onCircuit seat form f) := State.onCircuit_of (.refl s) (fun _ _ => .same) h

end

end State.KeepsLatches

/-! ### Operations beside the shutoff unit -/

section
variable (s : State)

@[simp] theorem State.setRanks_shu (ranks : Bank Seat 4) : (s.setRanks ranks).shu = s.shu := by simp [State.setRanks]

@[simp] theorem State.setLimits_shu (c : OutCh) (lo hi : Nat) : (s.setLimits c lo hi).shu = s.shu := by
  simp [State.setLimits]

@[simp] theorem State.setFallback_shu (c : OutCh) (mode : FallbackMode) (v : Nat) :
    (s.setFallback c mode v).shu = s.shu := by simp [State.setFallback]

@[simp] theorem State.setDefaultHold_shu (c : OutCh) (hold : Nat) : (s.setDefaultHold c hold).shu = s.shu := by
  simp [State.setDefaultHold]

@[simp] theorem State.setOutputs_shu (n : CircuitNo) (f : OutputFields) : (s.setOutputs n f).shu = s.shu := by
  simp [State.setOutputs]

@[simp] theorem State.finishAccess_shu (a : Access) (seat : Seat) (r : Request) (t : Translation) :
    (s.finishAccess a seat r t).shu = s.shu := by
  cases a with
  | set => simp only [State.finishAccess, State.finishSet]; (repeat' split) <;> simp
  | release => simp only [State.finishAccess, State.finishRelease]; split <;> simp
  | read => simp [State.finishAccess, State.finishRead]

@[simp] theorem State.resolve_shu (a : Access) (seat : Seat) (r : Request) : (s.resolve a seat r).shu = s.shu := by
  unfold State.resolve
  dsimp only
  (repeat' split) <;> simp

@[simp] theorem State.deliver_shu (w : Walk) (o : WalkOutcome) : (s.deliver w o).shu = s.shu := by
  unfold State.deliver
  (repeat' split) <;> simp

@[simp] theorem State.endWalk_shu (w : Walk) (o : WalkOutcome) : (s.endWalk w o).shu = s.shu := by
  simp [State.endWalk]

@[simp] theorem State.walkOn_shu (w : Walk) (next : WalkNext) : (s.walkOn w next).shu = s.shu := by
  cases next with
  | toGroup base | toPoint base | toLink base => rfl
  | finish o => exact s.endWalk_shu w o

@[simp] theorem State.walkRead_shu (w : Walk) (level : DirLevel) (addr : DirAddr) :
    (s.walkRead w level addr).shu = s.shu := by
  unfold State.walkRead
  dsimp only
  split <;> simp

@[simp] theorem State.directoryAccess_shu (seat : Seat) (r : Request) (data : Option DirWord) :
    (s.directoryAccess seat r data).shu = s.shu := by
  unfold State.directoryAccess
  dsimp only
  (repeat' split) <;> simp

@[simp] theorem State.setDirectory_shu (seat : Seat) (r : Request) (isOpen : Bool) :
    (s.setDirectory seat r isOpen).shu = s.shu := by
  unfold State.setDirectory
  split <;> simp

@[simp] theorem State.startScan_shu (seat : Seat) (mode : ScanMode) (r : Request) :
    (s.startScan seat mode r).shu = s.shu := by
  unfold State.startScan
  split <;> simp

end

/-! ### Every command -/

/-- R141, R140: the commands that may take a latch from SHUT_OFF. -/
def mayRearm : Instr → Prop
  | .rearm _ | .pairForm _ | .powerOnReset _ => True
  | _ => False

section
variable {s t : State}

theorem State.KeepsLatches.configWriteShutoff {seat : Seat} (h : execConfigWriteShutoff seat s = .next t) :
    s.KeepsLatches t := by
  cases h
  refine .onWrite fun i r v hv => ?_
  split at hv <;> cases hv
  refine .asEditor (.fields fun f => ?_)
  unfold State.shutoffWrite
  split
  · exact .refused
  · exact .ite .refused (.ite .refused (.ite .refused (.accepted (.setShutoff s _ f))))

theorem State.KeepsLatches.walkGrant (h : execWalkGrant s = .next t) : s.KeepsLatches t := by
  cases h
  split
  · exact .refl s
  · split
    · exact .refl s
    · dsimp only
      split
      · exact .same
      · split
        · split
          · split
            · exact .same
            · exact .same
          · exact .same
        all_goals exact .same

theorem State.KeepsLatches.tripDwellExpiry {n : CircuitNo} (h : execTripDwellExpiry n s = .next t) :
    s.KeepsLatches t := by
  have hlocked : s.KeepsLatches (s.lockedOut n) :=
    .andThen (.changeCircuit s n ((s.circuit n).withStage .lockout)) (by rw [State.lockedOut, State.raiseAll_shu])
  cases h
  dsimp only
  split
  · exact hlocked.trans (.evaluate (s.lockedOut n) n)
  · exact .refl s

theorem State.KeepsLatches.releaseLockout {seat : Seat} (h : execReleaseLockout seat s = .next t) :
    s.KeepsLatches t := by
  cases h
  refine .onRequest fun r => ?_
  split
  · exact .same
  · split
    · exact .same
    · dsimp only
      split
      · split
        · exact .answer (.changeCircuit s _ _)
        · exact .same
      · exact .same

end

/-- R141: no command takes a latch from SHUT_OFF but REARM, PAIR_FORM and the power-on reset. -/
theorem exec_keepsLatches {i : Instr} {s t : State} (h : exec i s = .next t) (hi : ¬mayRearm i) :
    s.KeepsLatches t := by
  cases i with
  | rearm | pairForm | powerOnReset => exact absurd trivial hi
  | restartIn => rw [← Host.Outcome.next.inj h]; exact .warmRestart s
  | restartTake =>
    rw [← Host.Outcome.next.inj h]
    split
    · exact .warmRestart s
    · exact .refl s
  | emergencyInAssert =>
    cases h
    split
    · exact .refl s
    · refine .trans ?_ (.causeBegins _ .emergency fun _ => true)
      exact .same rfl
  | orphanTimerExpiry =>
    cases h
    split
    · exact .orphanBegins s
    · exact .refl s
  | flowGraceExpiry n =>
    cases h
    dsimp only
    split
    · refine .trans ?_ (.evaluate (s.graceOver n) n)
      exact .same rfl
    · exact .refl s
  | tripDwellExpiry => exact .tripDwellExpiry h
  | pulseRisingEdge =>
    cases h
    dsimp only
    split
    · split
      · refine .trans ?_ (.judgeProofOf _ _)
        exact .same rfl
      · exact .same rfl
    · exact .refl s
  | pulseTimeoutExpiry =>
    cases h
    dsimp only
    split
    · refine .trans ?_ (.judgeProofOf _ _)
      exact .same rfl
    · exact .refl s
  | referencePhaseEnd =>
    cases h
    split
    · split
      · split
        · exact .completeConversion s _ _
        · exact .same
      · exact .refl s
    · exact .refl s
  | sensorPhaseEnd =>
    cases h
    split
    · split
      · exact .completeConversion s _ _
      · exact .refl s
    · exact .refl s
  | circuitEnable =>
    cases h
    refine .onCircuit fun r n => ?_
    dsimp only
    split
    · exact .same
    · split
      · exact .same
      · exact .answer (.changeCircuit s n _)
  | circuitDisable =>
    cases h
    refine .onCircuit fun r n => ?_
    dsimp only
    split
    · split
      · exact .same
      · exact .answer (.changeCircuit s n _)
    · exact .same
  | releaseLockout => exact .releaseLockout h
  | configWriteShutoff => exact .configWriteShutoff h
  | configWriteOrphanLimit =>
    cases h
    refine .onWrite fun i r v hv => ?_
    split at hv <;> cases hv
    exact .asService (.fields fun limit => .accepted (.setOrphanLimit s limit))
  | configWriteRankTable | configWriteRoot | configWriteWindow =>
    cases h
    refine .onWrite fun i r v hv => ?_
    split at hv <;> cases hv
    exact .asService (.fields fun _ => .accepted .same)
  | configWriteRosterEntry =>
    cases h
    refine .onWrite fun i r v hv => ?_
    split at hv <;> cases hv
    exact .asService (.fields fun e => .ite .refused (.ite .refused (.accepted .same)))
  | configWriteEventMask =>
    cases h
    refine .onWrite fun i r v hv => ?_
    split at hv <;> cases hv
    exact .ite .refused (.fields fun _ => .accepted .same)
  | configWriteStaticLimits | configWriteFallback | configWriteDefaultHold =>
    cases h
    refine .onWrite fun i r v hv => ?_
    split at hv <;> cases hv
    exact .asEditor (.fields fun _ => .settingsWrite .same)
  | configWriteOutputPolarity | configWriteMinimumTimes =>
    cases h
    refine .onWrite fun i r v hv => ?_
    split at hv
    · obtain ⟨_, -, rfl⟩ := Option.map_eq_some_iff.1 hv
      exact .asEditor (.fields fun _ => .settingsWrite .same)
    · cases hv
  | configWritePeriod | configWriteSensorSettings | configWriteReference | configWriteScanRange | configWriteScanMode =>
    cases h
    refine .onWrite fun i r v hv => ?_
    split at hv <;> cases hv
    exact .asEditor (.fields fun _ => .accepted .same)
  | configWriteBreakpoint =>
    cases h
    refine .onWrite fun i r v hv => ?_
    split at hv <;> cases hv
    exact .asEditor (.fields fun _ => .ite .refused (.accepted .same))
  | configWritePulseSettings =>
    cases h
    refine .onWrite fun i r v hv => ?_
    split at hv <;> cases hv
    exact .asEditor (.fields fun f => .accepted (.setPulse s _ f))
  | configWriteCircuitSensors | configWriteCircuitOutputs | configWriteCircuitThresholds | configWriteCircuitTimes =>
    cases h
    refine .onWrite fun i r v hv => ?_
    split at hv <;> cases hv
    exact .circuitWrite (.fields fun _ => .accepted .same)
  | configWriteCircuitFlow =>
    cases h
    refine .onWrite fun i r v hv => ?_
    split at hv <;> cases hv
    exact .circuitWrite (.fields fun f => .accepted (.setFlow s _ f))
  | configWritePair => cases h; exact .onPairWrite fun k x => .ite .refused (.accepted .same)
  | pairDissolve => cases h; exact .onPairWrite fun k x => .ite .refused (.accepted (.dissolvePair s k x))
  | flushPoint | flushSeat => cases h; exact .onFlush fun r => .flushNamed fun q => .same
  | flushAll =>
    cases h
    refine .onFlush fun r => ?_
    split
    · exact .same
    · exact .same
  | scanStart | scanSingle | scanStop => cases h; exact .onScan fun r => .same
  | hello | set | release | read | dirRead | dirWrite | openDirectory | closeDirectory | events | clear =>
    cases h
    exact .onRequest fun r => .same
  | configRead | configWriteOther | reinstate | restart =>
    cases h
    refine .onRequest fun r => ?_
    repeat' split
    all_goals exact .same
  | walkGrant => exact .walkGrant h
  | busFrameReceive | serviceFrameReceive | handlerTakeHead | demandHoldExpiry | discreteMinimumReached |
    replySentWhole | dirPortGrant | walkZoneRead | walkGroupRead | walkPointRead | walkLinkTargetRead |
    walkMarkWrite =>
    cases h
    repeat' split
    all_goals exact .same
  | periodEnd | pairPermilleStep | overdriveEnd | syncEnd | deadTimeExpiry | safeEndExpiry | unsyncedSafeDriveEnd |
    emergencyInDeassert | replyTransmit | replyReadbackAbandon | serviceReplyTransmit | frameReceptionCutShort =>
    cases h
    exact .same

end Sys2Proof.Machine
end

section
/-! SUPPORT. Which step takes a latch from SHUT_OFF: an accepted REARM of the channel, a forming that leaves it unused,
and the power-on reset. -/

namespace Sys2Proof.Machine

/-- A CONFIG_WRITE step concludes the write in service that its row takes, or leaves the state. -/
theorem State.onWrite_cases (s : State) (seat : Seat) (pick : Item → Request → Option Verdict) :
    s.onWrite seat pick = s ∨ ∃ i r v, s.servesWrite seat i r ∧ pick i r = some v ∧
      s.onWrite seat pick = s.conclude seat r v := by
  rcases s.onRequest_cases seat .configWrite _ with hnot | ⟨r, hr⟩
  · exact .inl hnot
  · rw [State.onWrite, State.onRequest_of_serves hr]
    split
    · next v hv =>
      obtain ⟨i, hitem, hpick⟩ := Option.bind_eq_some_iff.1 hv
      exact .inr ⟨i, r, v, ⟨hr, hitem⟩, hpick, rfl⟩
    · exact .inl rfl

/-- R119: only a pair that is not formed is formed by a write. -/
theorem pairChange_eq_form {q : Pair} {r : Request} (h : pairChange q r = .form) : q.run = none := by
  unfold pairChange at h
  split at h
  · next hformed => exact Pair.isFormed_eq_false.1 hformed
  all_goals cases h

section
variable {s t : State} {c : OutCh}

/-- R136: a channel's latch goes from SHUT_OFF to DRIVING. -/
def State.LeavesShutOff (s t : State) (c : OutCh) : Prop := s.shutOff c = true ∧ t.shutOff c = false

theorem State.KeepsLatches.not_leaves (h : s.KeepsLatches t) : ¬s.LeavesShutOff t c := fun ⟨hc, hnot⟩ =>
  Bool.noConfusion ((h c hc).symm.trans hnot)

/-- R141: the REARM that takes a latch from SHUT_OFF names its channel, and finds every cause of its mask gone. -/
theorem State.rearmed_leaves {seat : Seat} {r : Request} {c' : OutCh} (hl : s.LeavesShutOff (s.rearmed seat r c') c) :
    c' = c ∧ s.causesGone c := by
  have hkeep (code : Code) : s.KeepsLatches (s.answer seat r code []) := .same
  unfold State.rearmed at hl
  split at hl
  · exact absurd hl (hkeep _).not_leaves
  · split at hl
    · exact absurd hl (hkeep _).not_leaves
    · split at hl
      · exact absurd hl (hkeep _).not_leaves
      · next hgone =>
        obtain ⟨hoff, hdrives⟩ := hl
        rw [State.shutOff, State.shutoff, State.answer_shu, ← State.shutoff, ← State.shutOff,
          State.rearmChannel_shutOff, hoff, Bool.true_and, decide_eq_false_iff_not, not_not] at hdrives
        subst hdrives
        exact ⟨rfl, (s.causesGone_iff c).2 (Bool.eq_false_of_not_eq_true hgone)⟩

theorem exec_rearm_leaves {seat : Seat} (h : exec (.rearm seat) s = .next t) (hl : s.LeavesShutOff t c) :
    ∃ r, s.serves seat .rearm r ∧ s.editor seat = true ∧ (r.word 0).toNat = c.val ∧ s.causesGone c := by
  have hkeep (r : Request) (code : Code) : ¬s.LeavesShutOff (s.answer seat r code []) c :=
    State.KeepsLatches.not_leaves .same
  rcases s.onRequest_cases seat .rearm _ with hnot | ⟨r, hr⟩
  · obtain rfl : s = t := hnot.symm.trans (Host.Outcome.next.inj h)
    exact absurd hl (State.KeepsLatches.refl s).not_leaves
  · cases he : s.editor seat with
    | false =>
      rw [exec_rearm_notEditor hr he] at h
      cases h
      exact absurd hl (hkeep r _)
    | true =>
      rcases Nat.lt_or_ge (r.word 0).toNat 32 with hlt | hge
      · rw [exec_rearm_output (c := ⟨_, hlt⟩) hr he rfl] at h
        cases h
        obtain ⟨rfl, hgone⟩ := State.rearmed_leaves hl
        exact ⟨r, hr, rfl, rfl, hgone⟩
      · rcases Nat.lt_or_ge 63 (r.word 0).toNat with hhi | hle
        · rw [exec_rearm_unnamed hr he hhi] at h
          cases h
          exact absurd hl (hkeep r _)
        · rw [exec_rearm_input hr he hge hle] at h
          cases h
          exact absurd hl (hkeep r _)

/-- R140: a forming leaves every latch at SHUT_OFF but its odd channel's. -/
theorem State.formPair_keeps {k : PairNo} (f : PairFields) (hc : s.shutOff c = true) (hne : c ≠ oddCh k) :
    (s.formPair k f).shutOff c = true := by
  rw [State.shutOff, State.formPair_shutoff]
  split
  · next he => subst he; exact Bool.or_eq_true_iff.2 (.inl hc)
  · exact hc

/-- A channel stays shut off that every state an accepted write leaves has shut off. -/
theorem Verdict.Leaves.conclude_shutOff {seat : Seat} {r : Request} {v : Verdict}
    (hv : v.Leaves fun t => t.shutOff c = true) (hc : s.shutOff c = true) :
    (s.conclude seat r v).shutOff c = true := by
  cases v with
  | refused code => exact State.KeepsLatches.same (s := s) (s.answer_shu .. ▸ rfl) c hc
  | accepted t => exact State.KeepsLatches.same (s := t) (t.answer_shu .. ▸ rfl) c (hv t rfl)

/-- R140: the forming that takes a latch from SHUT_OFF is of the pair whose odd channel it is. -/
theorem exec_pairForm_leaves {seat : Seat} (h : exec (.pairForm seat) s = .next t) (hl : s.LeavesShutOff t c) :
    ∃ r k, s.servesWrite seat (.pair k) r ∧ s.editor seat = true ∧ (s.odu.pairs.read k).run = none ∧ oddCh k = c := by
  obtain ⟨hoff, hdrives⟩ := hl
  rcases s.onWrite_cases seat _ with hnot | ⟨i, r, v, hr, hpick, hwrite⟩
  · obtain rfl : s = t := hnot.symm.trans (Host.Outcome.next.inj h)
    exact Bool.noConfusion (hoff.symm.trans hdrives)
  · obtain rfl := hwrite.symm.trans (Host.Outcome.next.inj h)
    split at hpick
    · next k =>
      split at hpick <;> cases hpick
      next hform =>
      refine ⟨r, k, hr, ?editor, pairChange_eq_form hform, ?odd⟩
      case editor =>
        by_contra hnot
        rw [State.asEditor_of_not (Bool.eq_false_of_not_eq_true hnot)] at hdrives
        exact (State.KeepsLatches.same (by simp [State.conclude])).not_leaves ⟨hoff, hdrives⟩
      case odd =>
        by_contra hne
        refine Bool.noConfusion (hdrives.symm.trans (Verdict.Leaves.conclude_shutOff ?_ hoff))
        exact .asEditor (.fields fun f => .ite .refused (.ite .refused (.accepted
          (State.formPair_keeps f hoff (Ne.symm hne)))))
    · cases hpick

/-- What time brings is none of the commands that may take a latch from SHUT_OFF. -/
theorem State.expires_not_mayRearm {i : Instr} (h : s.expires i) : ¬mayRearm i := by
  unfold State.expires at h
  rcases h with ⟨_, _, _, rfl, _⟩ | ⟨_, _, rfl, _⟩ | ⟨_, rfl, _⟩ | ⟨_, rfl, _⟩ | ⟨_, rfl, _⟩ | ⟨_, rfl, _⟩ |
    ⟨_, rfl, _⟩ | ⟨_, rfl, _⟩ | ⟨_, rfl, _⟩ | ⟨_, rfl, _⟩ | ⟨_, rfl, _⟩ | ⟨rfl, _⟩
  all_goals exact id

theorem State.idle_keepsLatches (h : s.idle = .next t) : s.KeepsLatches t := by
  unfold State.idle at h
  split at h
  · next i hi => exact exec_keepsLatches h (State.expires_not_mayRearm (State.expires_of_dueExpiry hi))
  · cases h
    exact .tick s

/-- R141, R140: the steps that take a latch from SHUT_OFF. -/
theorem step_leavesShutOff (h : step s = .next t) (hl : s.LeavesShutOff t c) : ∃ i rest, s.pending = i :: rest ∧
    ((∃ st, i = .powerOnReset st) ∨
      (∃ seat r, i = .rearm seat ∧ s.serves seat .rearm r ∧ s.editor seat = true ∧ (r.word 0).toNat = c.val ∧
        s.causesGone c) ∨
      ∃ seat r k, i = .pairForm seat ∧ s.servesWrite seat (.pair k) r ∧ s.editor seat = true ∧
        (s.odu.pairs.read k).run = none ∧ oddCh k = c) := by
  cases hp : s.pending with
  | nil =>
    rw [step_of_none hp] at h
    exact absurd hl (State.idle_keepsLatches h).not_leaves
  | cons i rest =>
    rw [step_of_command hp] at h
    refine ⟨i, rest, rfl, ?_⟩
    by_cases hi : mayRearm i
    · cases i with
      | powerOnReset st => exact .inl ⟨st, rfl⟩
      | rearm seat =>
        obtain ⟨r, hr⟩ := exec_rearm_leaves h hl
        exact .inr (.inl ⟨seat, r, rfl, hr⟩)
      | pairForm seat =>
        obtain ⟨r, k, hr⟩ := exec_pairForm_leaves h hl
        exact .inr (.inr ⟨seat, r, k, rfl, hr⟩)
      | _ => exact hi.elim
    · exact absurd hl (exec_keepsLatches h hi).not_leaves

end

/-- Settles O53: the rows of REARM in their order, the return to drive output by output, and the step rule. -/
theorem rearmNeedsEveryCauseGone : Obligations.RearmNeedsEveryCauseGone := by
  refine ⟨fun s seat r h he => ⟨exec_rearm_unnamed h he, exec_rearm_input h he, fun c hc => ?rows⟩,
    fun s t c h hoff hdrives => step_leavesShutOff h ⟨hoff, hdrives⟩⟩
  rw [exec_rearm_output h he hc]
  refine ⟨fun hodd => ?odd, fun hodd => ⟨fun hon => ?driving, fun hoff cause hnamed hholds => ?held,
    fun hoff hgone => ?accepted⟩⟩
  case odd => rw [State.rearmed, if_pos hodd]
  case driving => rw [State.rearmed, hodd, if_neg Bool.false_ne_true, if_pos hon]
  case held =>
    rw [State.rearmed, hodd, hoff, if_neg Bool.false_ne_true, if_neg nofun,
      if_pos ((s.heldCauses_any c _).2 ⟨cause, hnamed, hholds⟩)]
  case accepted =>
    have hnone : (s.heldCauses c (s.shutoff c).mask).any = false := (s.causesGone_iff c).1 hgone
    obtain ⟨hlatch, hothers, hitem, hframe, hmods, hpairs, hdiscretes⟩ := s.rearmChannel_returned c
    refine ⟨s.rearmChannel c, ?_, hlatch, hothers, hitem, hframe, hmods, hpairs, hdiscretes, fun d hd => ?discrete,
      fun k p hk hrun => ?pair, s.rearmChannel_cmdt c, s.rearmChannel_evu c, s.rearmChannel_lbi c⟩
    · rw [State.rearmed, hodd, hoff, hnone, if_neg Bool.false_ne_true, if_neg nofun,
        if_neg Bool.false_ne_true]
    case discrete =>
      intro x due
      rw [State.rearmChannel_discretes, if_pos hd]
      refine ⟨fun want hheld hne hdue => Discrete.applyHeld_met hheld hne hdue,
        fun hheld hdue => Discrete.applyHeld_same hheld hdue, fun hwaits => Discrete.applyHeld_waits ?_⟩
      exact hwaits.imp_right Nat.lt_of_not_le
    case pair =>
      intro q
      refine ⟨p.rearm q, ?_, fun d hs => PairRun.rearm_waiting q hs, PairRun.rearm_rest q,
        fun d hs => PairRun.rearm_driving q hs⟩
      rw [State.rearmChannel_pairs, if_pos hk, Pair.change, hrun, Option.map_some]

end Sys2Proof.Machine
end

section
/-! SUPPORT. Selectors and the fields of the configuration items: which words name an item, the numbers that sets of
channels and ranks are sent as, and how many fields an item has. -/

namespace Sys2Proof.Machine

/-! ### What a selector names (R169) -/

theorem selectorItem_ofNat {code part index : Nat} (hcode : code < 256) (hpart : part < 4) (hindex : index < 64) :
    selectorItem (BitVec.ofNat 16 (256 * code + 64 * part + index)) = itemOf code part index := by
  have hword : (BitVec.ofNat 16 (256 * code + 64 * part + index)).toNat = 256 * code + 64 * part + index := by
    rw [BitVec.toNat_ofNat]
    omega
  unfold selectorItem
  simp only [BitVec.extractLsb'_toNat, hword, Nat.shiftRight_eq_div_pow]
  congr 1 <;> omega

theorem index?_isSome (n i : Nat) : (index? n i).isSome = true ↔ i < n := by
  unfold index?
  split <;> simp_all

theorem ofPart0_isSome (part : Nat) (o : Option Item) :
    (ofPart0 part o).isSome = true ↔ part = 0 ∧ o.isSome = true := by
  unfold ofPart0
  split <;> simp_all

theorem ofIndex0_isSome (index : Nat) (i : Item) : (ofIndex0 index i).isSome = true ↔ index = 0 := by
  unfold ofIndex0
  split <;> simp_all

/-- Two indices that are looked up one after the other name an item where both are in range. -/
theorem index?_bind_isSome (n i n' i' : Nat) (f : Fin n → Fin n' → Item) :
    ((index? n i).bind fun a => (index? n' i').map (f a)).isSome = true ↔ i < n ∧ i' < n' := by
  rw [← index?_isSome n i, ← index?_isSome n' i']
  cases index? n i <;> simp

/-- R169: the codes, parts and indices of the table of 11.5. -/
theorem itemOf_isSome {code part index : Nat} (hindex : index < 64) : (itemOf code part index).isSome = true ↔
    part = 0 ∧ (code ∈ [1, 5, 17, 18, 19] ∧ index = 0 ∨ code ∈ [3, 15] ∧ index < 2 ∨ code = 4 ∧ index < 3 ∨
      code ∈ [2, 6, 22, 23, 24, 25, 26] ∧ index < 4 ∨ code = 21 ∧ index < 8 ∨ code = 11 ∧ index < 12 ∨
      code = 14 ∧ index < 24 ∨ code ∈ [7, 8, 9, 10, 12] ∧ index < 32 ∨ code = 16 ∧ index % 32 < 17 ∨ code = 13) ∨
    code = 20 ∧ part < 2 ∧ index < 24 ∨ code = 27 ∧ part < 3 ∧ index < 4 := by
  by_cases hcode : code < 28
  · have htable : index / 32 < 2 := by omega
    interval_cases code <;>
      simp [itemOf, ofPart0_isSome, ofIndex0_isSome, index?_isSome, index?_bind_isSome, hindex, htable, and_comm]
  · obtain ⟨k, rfl⟩ : ∃ k, code = k + 28 := ⟨code - 28, by omega⟩
    have hnone : itemOf (k + 28) part index = none := rfl
    simp [hnone]

theorem itemOf_resultDetail (n : SensorCh) (p : Fin 2) : itemOf 20 p.val n.val = some (.resultDetail n p) := by
  simp only [itemOf, index?_val, Option.bind_some, Option.map_some]

theorem itemOf_circuitStatus (n : CircuitNo) (p : Fin 3) : itemOf 27 p.val n.val = some (.circuitStatus n p) := by
  simp only [itemOf, index?_val, Option.bind_some, Option.map_some]

/-- R169: a breakpoint's index holds its table above its number. -/
theorem itemOf_breakpoint (n : Fin 2) (k : Fin 17) : itemOf 16 0 (32 * n.val + k.val) = some (.breakpoint n k) := by
  have htable : (32 * n.val + k.val) / 32 = n.val := by omega
  have hnumber : (32 * n.val + k.val) % 32 = k.val := by omega
  simp only [itemOf, ofPart0, htable, hnumber, index?_val, Option.bind_some, Option.map_some, if_true]

/-! ### The numbers of sets and of ranks -/

theorem setNat_eq_sum (p : Nat → Bool) (n : Nat) :
    setNat p n = ((List.range n).map fun i => if p i then 2 ^ i else 0).sum := by
  induction n with
  | zero => rfl
  | succ n ih =>
    rw [setNat, List.range_succ, List.foldl_append, ← setNat, ih, List.map_append, List.sum_append]
    simp only [List.foldl_cons, List.foldl_nil, List.map_cons, List.map_nil, List.sum_cons, List.sum_nil]
    split <;> rfl

theorem setNat_lt (p : Nat → Bool) (n : Nat) : setNat p n < 2 ^ n := by
  induction n with
  | zero => exact Nat.zero_lt_one
  | succ n ih =>
    rw [setNat, List.range_succ, List.foldl_append, ← setNat, Nat.pow_succ]
    simp only [List.foldl_cons, List.foldl_nil]
    split <;> omega

/-- A set's number in two parts, the members from `n` on counted from there. -/
theorem setNat_add (p : Nat → Bool) (n m : Nat) :
    setNat p (n + m) = setNat p n + 2 ^ n * setNat (fun i => p (n + i)) m := by
  simp only [setNat_eq_sum, List.range_add, List.map_append, List.sum_append, List.map_map, ← List.sum_map_mul_left]
  congr 3
  funext i
  simp [Nat.pow_add]

/-- Beyond the members there is nothing to count. -/
theorem setNat_beyond {p : Nat → Bool} {n : Nat} (h : ∀ i, n ≤ i → p i = false) (m : Nat) :
    setNat p (n + m) = setNat p n := by
  have hzero : setNat (fun i => p (n + i)) m = 0 := by
    simp [setNat_eq_sum, h]
  rw [setNat_add, hzero, Nat.mul_zero, Nat.add_zero]

/-- A set of 32 as its two words. -/
theorem natWords_setNat (p : Nat → Bool) : natWords (setNat p 32) =
    [natWord (setNat (fun i => p (16 + i)) 16), natWord (setNat p 16)] := by
  have hlo := setNat_lt p 16
  have hsplit : setNat p 32 = setNat p 16 + 65536 * setNat (fun i => p (16 + i)) 16 := setNat_add p 16 16
  have hdiv : setNat p 32 / 65536 = setNat (fun i => p (16 + i)) 16 := by omega
  have hmod : natWord (setNat p 32) = natWord (setNat p 16) := by
    apply BitVec.eq_of_toNat_eq
    simp only [natWord, BitVec.toNat_ofNat]
    omega
  rw [natWords, hdiv, hmod]

/-- A set of members below 32 as its two words. -/
theorem natWords_listNat {n : Nat} (hn : n ≤ 32) (l : List (Fin n)) : natWords (listNat l) =
    [natWord (setNat (fun i => l.any fun x => x.val == 16 + i) 16),
      natWord (setNat (fun i => l.any fun x => x.val == i) 16)] := by
  have hbeyond : listNat l = setNat (fun i => l.any fun x => x.val == i) 32 := by
    have h := setNat_beyond (p := fun i => l.any fun x => x.val == i) (n := n)
      (fun i hi => List.any_eq_false.2 fun x _ => by simp; omega) (32 - n)
    rw [Nat.add_sub_cancel' hn] at h
    exact h.symm
  rw [hbeyond, natWords_setNat]

/-- R7: the rank table's word, digit by digit. -/
theorem Cmdt.rankWord_eq (c : Cmdt) : c.rankWord = natWord (4096 * (c.ranks.read 0).val + 256 * (c.ranks.read 1).val +
    16 * (c.ranks.read 2).val + (c.ranks.read 3).val) := by
  have h1 := (c.ranks.read 1).isLt
  have h2 := (c.ranks.read 2).isLt
  have h3 := (c.ranks.read 3).isLt
  rw [Cmdt.rankWord, field_eq, field_eq, field_eq, natWord_or_below 12 ⟨_, Nat.mul_comm ..⟩ (by omega),
    natWord_or_below 8 (by omega) (by omega), natWord_or_below 4 (by omega) (by omega)]
  congr 1
  omega

/-- R134: a mask's number, cause by cause. -/
theorem Mask.number_eq (m : Mask) : m.number =
    (if m.frostTrip then 1 else 0) + (if m.orphan then 2 else 0) + if m.emergency then 4 else 0 := by
  simp only [Mask.number, markNat, mul_ite, Nat.mul_one, Nat.mul_zero]

theorem markWord_eq (b : Bool) : markWord b = if b then 1 else 0 := by cases b <;> rfl

/-! ### The fields of an item -/

theorem State.itemFields_length {s : State} {i : Item} {fields : List Word} (h : s.itemFields i = some fields) :
    fields.length ≤ 6 := by
  cases i with
  | output c => cases h; unfold State.outputItem; split <;> simp
  | driveStatus c =>
    cases h
    unfold State.driveStatus
    split
    · simp
    · split <;> simp
  | shutoff ch =>
    obtain ⟨c, -, rfl⟩ := Option.map_eq_some_iff.1 h
    simp [State.shutoffItem]
  | resultDetail n part => cases h; unfold SensorResult.detail; split <;> simp [natWords]
  | circuitFlow n => cases h; unfold Circuit.flowItem; split <;> simp [natWords]
  | circuitStatus n part =>
    cases h
    unfold Circuit.status
    split
    · simp
    · split <;> simp [natWords]
  | circuitOutputs n => cases h; simp [Circuit.outputsItem, natWords]
  | scanStatus => cases h; simp [Smu.status]
  | circuitSensors n => cases h; simp [natWords]
  | rankTable | root | window | rosterEntry | orphanLimit | eventMask | staticLimits | fallback | defaultHold | pair |
    sensorSettings | reference | breakpoint | scanRange | scanMode | pulseSettings | circuitThresholds | circuitTimes |
    period => cases h; simp

end Sys2Proof.Machine
end

section
/-! SUPPORT. CONFIG_READ, and the CONFIG_WRITE that names nothing it may write: judged on the selector. -/

namespace Sys2Proof.Machine

section
variable {s : State} {seat : Seat} {r : Request}

theorem exec_configRead_fields {i : Item} {fields : List Word} (h : s.serves seat .configRead r)
    (hi : r.item = some i) (hf : s.itemFields i = some fields) :
    exec (.configRead seat) s = .next (s.answer seat r .done fields) := by
  refine congrArg Host.Outcome.next ((State.onRequest_of_serves h _).trans ?_)
  rw [hi]
  dsimp only
  rw [hf]

/-- R134: an item without fields, as an input channel's shutoff item. -/
theorem exec_configRead_noFields {i : Item} (h : s.serves seat .configRead r) (hi : r.item = some i)
    (hf : s.itemFields i = none) : exec (.configRead seat) s = .next (s.answer seat r .badTarget []) := by
  refine congrArg Host.Outcome.next ((State.onRequest_of_serves h _).trans ?_)
  rw [hi]
  dsimp only
  rw [hf]

theorem exec_configRead_none (h : s.serves seat .configRead r) (hi : r.item = none) :
    exec (.configRead seat) s = .next (s.answer seat r .badValue []) := by
  refine congrArg Host.Outcome.next ((State.onRequest_of_serves h _).trans ?_)
  rw [hi]

/-- R169: a write that names nothing, or an item that is read alone. -/
theorem exec_configWriteOther_refused (h : s.serves seat .configWrite r)
    (hi : r.item = none ∨ ∃ i, r.item = some i ∧ i.readOnly = true) :
    exec (.configWriteOther seat) s = .next (s.answer seat r .badValue []) := by
  refine congrArg Host.Outcome.next ((State.onRequest_of_serves h _).trans ?_)
  rcases hi with hi | ⟨i, hi, hread⟩
  · rw [hi]
  · rw [hi]
    exact if_pos hread

/-- R116, R169: a request that names a period names no other item. -/
theorem Request.item_period {g : BitVec 6} (h : r.period = some g) : r.item = (index? 3 g.toNat).map .period := by
  rw [Request.item, h]

theorem Request.item_selector (h : r.period = none) : r.item = selectorItem (r.word 0) := by
  rw [Request.item, h]

end

/-! ### The drive status and the output item (R118, R129, R133) -/

section
variable {s : State} {c : OutCh}

theorem State.driveStatus_pair {k : PairNo} {p : PairRun} (hc : c = evenCh k ∨ c = oddCh k)
    (hrun : (s.odu.pairs.read k).run = some p) : s.driveStatus c =
      [natWord p.state.number, natWord p.target, natWord p.estimate, markWord p.unsynced,
        natWord (lastReleasedNumber p.lastReleased), optWord p.deadLeft] := by
  rw [State.driveStatus, pairOf_eq_some.2 hc, Option.bind_some, hrun]

theorem State.driveStatus_mod {m : ModCh} (hrun : (s.odu.pairs.read (pairOfMod m)).run = none) :
    s.driveStatus (modCh m) = [natWord (s.odu.mods.read m).held, natWord (s.odu.mods.read m).compare,
      natWord (s.odu.groups.read (groupOf m)).period] := by
  have hpair : pairOf (modCh m) = some (pairOfMod m) := pairOf_eq_some.2 (ofPair_iff.1 (ofPair_modCh.2 rfl))
  rw [State.driveStatus, hpair, Option.bind_some, hrun, modOf_modCh]

theorem pairOf_discCh (d : DiscCh) : pairOf (discCh d) = none :=
  index?_none (show 12 ≤ (24 + d.val) / 2 by omega)

theorem modOf_discCh (d : DiscCh) : modOf (discCh d) = none := index?_none (Nat.le_add_right 24 d.val)

theorem State.driveStatus_disc (d : DiscCh) : s.driveStatus (discCh d) =
    [markWord (s.odu.discretes.read d).on, optWord ((s.odu.discretes.read d).held.map markNat),
      natWord (s.odu.discretes.read d).time] := by
  rw [State.driveStatus, pairOf_discCh, Option.bind_none, modOf_discCh, discOf_discCh]

theorem State.outputItem_mod (m : ModCh) : s.outputItem (modCh m) = [natWord (s.odu.mods.read m).polarity.number] := by
  rw [State.outputItem, modOf_modCh]

theorem State.outputItem_disc (d : DiscCh) : s.outputItem (discCh d) =
    [natWord (s.odu.discretes.read d).minOn, natWord (s.odu.discretes.read d).minOff] := by
  rw [State.outputItem, modOf_discCh, discOf_discCh]

end

theorem State.itemFields_shutoff (s : State) {ch : Fin 64} {c : OutCh} (h : ch.val = c.val) :
    s.itemFields (.shutoff ch) = some (s.shutoffItem c) := by
  simp only [State.itemFields, h, index?_val, Option.map_some]

theorem State.itemFields_shutoff_input (s : State) {ch : Fin 64} (h : 32 ≤ ch.val) :
    s.itemFields (.shutoff ch) = none := by
  simp only [State.itemFields, index?_none h, Option.map_none]

/-! ### Marks in place of codes -/

theorem FallbackMode.natWord_number (m : FallbackMode) : natWord m.number = markWord (m == .holdLast) := by
  cases m <;> rfl

theorem Polarity.natWord_number (p : Polarity) : natWord p.number = markWord (p == .activeLow) := by cases p <;> rfl

theorem ScanMode.natWord_number (m : ScanMode) : natWord m.number = markWord (m == .single) := by cases m <;> rfl

/-- R76, R168: the mode of a scan, sent as 0 while it is STOPPED. -/
theorem ScanMode.natWord_running (o : Option ScanMode) :
    natWord ((o.map ScanMode.number).getD 0) = markWord (o == some .single) := by
  rcases o with _ | m
  · rfl
  · cases m <;> rfl

/-- Settles O29: the selector is judged first; the table of 11.5 row by row; and each item's fields. -/
theorem selectorsAreJudgedFirst : Obligations.SelectorsAreJudgedFirst := by
  refine ⟨fun s seat r => ⟨fun i fields h hi hf => ⟨exec_configRead_fields h hi hf, State.itemFields_length hf⟩,
      fun i h hi hf => exec_configRead_noFields h hi hf, exec_configRead_none,
      fun h hi => exec_configWriteOther_refused h (hi.imp_right ?readOnly)⟩,
    fun r => ⟨Request.item_selector, fun g hg => ⟨fun n hn => ?period, fun hn => ?noPeriod⟩⟩,
    fun code part index hcode hpart hindex => ?selectors, ?names, ?fields⟩
  case readOnly =>
    rintro ⟨i, hi, ⟨c, rfl⟩ | rfl | ⟨n, p, rfl⟩ | ⟨n, p, rfl⟩⟩
    all_goals exact ⟨_, hi, rfl⟩
  case period => rw [Request.item_period hg, hn, index?_val]; rfl
  case noPeriod => rw [Request.item_period hg, index?_none hn]; rfl
  case selectors =>
    rw [selectorItem_ofNat hcode hpart hindex]
    exact itemOf_isSome hindex
  case names =>
    intro names
    have named {code part index : Nat} {i : Item} (hcode : code < 256) (hpart : part < 4) (hindex : index < 64)
        (hi : itemOf code part index = some i) : names code part index i :=
      (selectorItem_ofNat hcode hpart hindex).trans hi
    have single {code : Nat} {i : Item} (hi : itemOf code 0 0 = some i) (hcode : code < 256 := by decide) :
        names code 0 0 i := named hcode (by decide) (by decide) hi
    have indexed {n code : Nat} {f : Fin n → Item} (h : ∀ i : Fin n, itemOf code 0 i.val = (index? n i.val).map f)
        (hn : n ≤ 64 := by decide) (hcode : code < 256 := by decide) (i : Fin n) : names code 0 i.val (f i) :=
      named hcode (by decide) (by omega) ((h i).trans (by rw [index?_val, Option.map_some]))
    refine ⟨single rfl, indexed fun _ => rfl, indexed fun _ => rfl, indexed fun _ => rfl, single rfl,
      indexed fun _ => rfl, fun c => ⟨indexed (fun _ => rfl) (i := c), indexed (fun _ => rfl) (i := c),
        indexed (fun _ => rfl) (i := c), indexed (fun _ => rfl) (i := c), indexed (fun _ => rfl) (i := c)⟩,
      indexed fun _ => rfl, indexed fun _ => rfl, fun n => ⟨indexed (fun _ => rfl) (i := n), fun p => ?detail⟩,
      fun n => ⟨indexed (fun _ => rfl) (i := n), fun k => ?breakpoint⟩, single rfl, single rfl, single rfl,
      indexed fun _ => rfl, fun n => ⟨indexed (fun _ => rfl) (i := n), indexed (fun _ => rfl) (i := n),
        indexed (fun _ => rfl) (i := n), indexed (fun _ => rfl) (i := n), indexed (fun _ => rfl) (i := n),
        fun p => ?status⟩⟩
    case detail => exact named (by decide) (by omega) (by omega) (itemOf_resultDetail n p)
    case breakpoint => exact named (by decide) (by decide) (by omega) (itemOf_breakpoint n k)
    case status => exact named (by decide) (by omega) (by omega) (itemOf_circuitStatus n p)
  case fields =>
    intro s w mark opt zero members
    have hmark (b : Bool) : markWord b = mark b := markWord_eq b
    have hopt (o : Option Nat) : optWord o = opt o := by cases o <;> rfl
    have hmembers {n : Nat} (hn : n ≤ 32) (l : List (Fin n)) :
        natWords (listNat l) = members fun i => l.any fun x => x.val == i := by
      rw [natWords_listNat hn, setNat_eq_sum, setNat_eq_sum]
      rfl
    refine ⟨?ranks, fun q => ⟨?root, ?eventMask⟩, fun b => ?roster, fun c => ⟨rfl, rfl⟩, fun k => ?pair,
      fun k p hrun c hc => ?pairStatus, fun ch c hch => ?shutoff, fun ch hch => s.itemFields_shutoff_input hch,
      fun n => ⟨rfl, rfl⟩, fun n => ?window, rfl, fun c => ?fallback, fun c m k g hc hk hg => ?modulated,
      fun c d hc => ?discrete, fun n => ?sensor, fun n => rfl, fun n k => rfl, rfl, ?scanMode, ?scanStatus,
      fun n => ?pulse, fun n => ⟨rfl, rfl⟩, fun g => rfl, rfl, fun l => rfl, rfl, rfl, rfl, rfl, rfl, rfl, rfl,
      fun d => ⟨rfl, rfl⟩, fun n => ?circuit⟩
    case ranks => exact congrArg (fun x => some [x]) s.cmdt.rankWord_eq
    case root | eventMask | roster | pair | window | sensor | pulse =>
      simp only [← hmark]
      rfl
    case pairStatus =>
      simp only [← hmark, ← hopt]
      refine (congrArg some (State.driveStatus_pair hc hrun)).trans ?_
      cases p.lastReleased with
      | none => rfl
      | some d => cases d <;> rfl
    case shutoff =>
      intro h bits
      have hbits (m : Mask) : m.number = bits m := m.number_eq
      simp only [← hmark, ← hbits]
      exact s.itemFields_shutoff hch
    case fallback =>
      simp only [← hmark, ← FallbackMode.natWord_number]
      rfl
    case modulated =>
      obtain rfl : c = modCh m := Fin.ext hc
      obtain rfl : k = pairOfMod m := Fin.ext hk
      obtain rfl : g = groupOf m := Fin.ext hg
      intro x
      simp only [← hmark, ← Polarity.natWord_number]
      exact ⟨congrArg some (State.outputItem_mod m), fun hrun => congrArg some (State.driveStatus_mod hrun)⟩
    case discrete =>
      obtain rfl : c = discCh d := Fin.ext hc
      intro x
      refine ⟨congrArg some (State.outputItem_disc d), (congrArg some (State.driveStatus_disc d)).trans ?_⟩
      simp only [← hmark]
      change some [markWord x.on, optWord (x.held.map markNat), natWord x.time] = _
      cases x.held with
      | none => rfl
      | some b => rfl
    case scanMode =>
      simp only [← hmark, ← ScanMode.natWord_number]
      rfl
    case scanStatus =>
      simp only [← hmark, ← hopt, ← ScanMode.natWord_running]
      rfl
    case circuit =>
      intro c
      refine ⟨congrArg some (hmembers (by decide) c.guardSet), ?outputs, ?flow, rfl, ?causes, rfl⟩
      case outputs =>
        rw [← hmembers (by decide) c.fans, ← hmembers (by decide) c.pumps, ← hopt]
        rfl
      case flow =>
        change some c.flowItem = _
        unfold Circuit.flowItem
        cases c.flow with
        | none => rfl
        | some f => rfl
      case causes =>
        simp only [← hmark]
        rfl

end Sys2Proof.Machine
end

section
/-! SUPPORT. The bounds of fault counts and intake lines: what each operation on the whole state leaves of the two. -/

namespace Sys2Proof.Machine

/-! ### Operations beside the lines and the counts -/

section
variable (s : State)

@[simp] theorem State.setRanks_lbi (ranks : Bank Seat 4) : (s.setRanks ranks).lbi = s.lbi := by simp [State.setRanks]

@[simp] theorem State.setLimits_lbi (c : OutCh) (lo hi : Nat) : (s.setLimits c lo hi).lbi = s.lbi := by
  simp [State.setLimits]

@[simp] theorem State.setFallback_lbi (c : OutCh) (mode : FallbackMode) (v : Nat) :
    (s.setFallback c mode v).lbi = s.lbi := by simp [State.setFallback]

@[simp] theorem State.setDefaultHold_lbi (c : OutCh) (hold : Nat) : (s.setDefaultHold c hold).lbi = s.lbi := by
  simp [State.setDefaultHold]

@[simp] theorem State.setOutputs_lbi (n : CircuitNo) (f : OutputFields) : (s.setOutputs n f).lbi = s.lbi := by
  simp [State.setOutputs]

@[simp] theorem State.setFlow_lbi (n : CircuitNo) (f : Option (PulseCh × Nat)) : (s.setFlow n f).lbi = s.lbi := by
  simp [State.setFlow_eq]

@[simp] theorem State.setPulse_lbi (n : PulseCh) (f : PulseFields) : (s.setPulse n f).lbi = s.lbi := by
  unfold State.setPulse
  dsimp only
  split <;> simp

@[simp] theorem State.evaluateGuarding_lbi (c : SensorCh) : (s.evaluateGuarding c).lbi = s.lbi := by
  refine List.foldlRecOn (motive := fun t : State => t.lbi = s.lbi) _ _ rfl fun t ht n _ => ?_
  split
  · exact (t.evaluate_lbi n).trans ht
  · exact ht

@[simp] theorem State.completeConversion_lbi (v : Conversion) (o : ConversionOutcome) :
    (s.completeConversion v o).lbi = s.lbi := by
  rw [State.completeConversion_eq, State.evaluateGuarding_lbi, State.conversionRecorded_frame]

@[simp] theorem State.settleArbiter_lbi_lines : s.settleArbiter.lbi.lines = s.lbi.lines := by
  obtain ⟨chosen, hlbi⟩ := s.settleArbiter_lbi
  rw [hlbi]

@[simp] theorem State.settleArbiter_lbi_faults : s.settleArbiter.lbi.faults = s.lbi.faults := by
  obtain ⟨chosen, hlbi⟩ := s.settleArbiter_lbi
  rw [hlbi]

@[simp] theorem State.awaitWalk_lbi_lines (seat : Seat) (r : Request) (rewalk : Bool) :
    (s.awaitWalk seat r rewalk).lbi.lines = s.lbi.lines := by simp [State.awaitWalk]

@[simp] theorem State.awaitWalk_lbi_faults (seat : Seat) (r : Request) (rewalk : Bool) :
    (s.awaitWalk seat r rewalk).lbi.faults = s.lbi.faults := by simp [State.awaitWalk]

/-- R155: the cause begins in one field of the links. -/
@[simp] theorem State.orphanBegins_lbi :
    s.orphanBegins.lbi = { s.lbi with orphan := { s.lbi.orphan with holds := true } } := by
  simp [State.orphanBegins]

/-- R154: the timer restarts, and the cause ends, in one field of the links. -/
@[simp] theorem State.orphanHeard_lbi :
    s.orphanHeard.lbi = { s.lbi with orphan := { s.lbi.orphan with count := 0, holds := false } } := by
  simp [State.orphanHeard]

/-- R154: a write of the limit changes the orphan timer alone of the links. -/
theorem State.setOrphanLimit_lbi (limit : Nat) :
    ∃ orphan, (s.setOrphanLimit limit).lbi = { s.lbi with orphan := orphan } := by
  unfold State.setOrphanLimit
  dsimp only
  split
  · exact ⟨_, State.orphanBegins_lbi _⟩
  · exact ⟨_, rfl⟩

end

/-! ### Counts and lines in bounds -/

/-- R151: the top of the fault counts is kept by every outcome. -/
theorem countAfter_le {n : Nat} (h : n ≤ 511) (c : Code) : countAfter n c ≤ 511 := by
  cases c with
  | badForm | busy | guarded | maintOnly => exact Nat.min_le_left ..
  | done | clamped => exact (Nat.sub_le n 1).trans h
  | _ => exact h

/-- R152: a line of a seat that has become BARRED holds no request. -/
theorem IntakeEntry.filter_map_bar (l : List IntakeEntry) :
    (l.map IntakeEntry.bar).filter IntakeEntry.isRequest = [] := by
  refine List.filter_eq_nil_iff.2 fun e he => ?_
  obtain ⟨x, -, rfl⟩ := List.mem_map.1 he
  cases x <;> exact Bool.false_ne_true

namespace State.linesBounded

section
variable {s : State} (hs : s.linesBounded)
include hs

/-- An operation beside the lines and the counts. -/
theorem beside {t : State} (h : t.lbi.lines = s.lbi.lines ∧ t.lbi.faults = s.lbi.faults) : t.linesBounded := by
  obtain ⟨hlines, hfaults⟩ := h
  unfold State.linesBounded
  rw [hlines, hfaults]
  exact hs

theorem settleArbiter : s.settleArbiter.linesBounded := hs.beside (by simp)

/-- One line replaced by a line within the bound. -/
theorem writeLine {t : State} {seat : Seat} {l : List IntakeEntry} (hl : (l.filter IntakeEntry.isRequest).length ≤ 4)
    (hlines : t.lbi.lines = s.lbi.lines.write seat l) (hfaults : t.lbi.faults = s.lbi.faults) : t.linesBounded := by
  refine ⟨hfaults ▸ hs.1, fun q => ?_⟩
  rw [hlines, Bank.read_write]
  split
  · exact hl
  · exact hs.2 q

/-! ### Standings and answers -/

theorem setCount (b : BusSeat) {n : Nat} (hn : n ≤ 511) : (s.setCount b n).linesBounded := by
  refine ⟨fun b' => ?faults, fun q => ?lines⟩
  case faults =>
    rw [State.setCount_lbi_faults, Bank.read_write]
    split
    · exact hn
    · exact hs.1 b'
  case lines =>
    by_cases hsame : standingOf n = s.standing (seatOf b)
    · rw [s.setCount_same b n (hsame.trans (s.standing_seatOf b))]
      exact hs.2 q
    · by_cases hbarred : standingOf n = .barred
      · rw [s.setCount_lines b n hsame hbarred]
        split
        · rw [IntakeEntry.filter_map_bar]
          exact Nat.zero_le 4
        · exact hs.2 q
      · rw [s.setCount_moved b n hsame hbarred, State.withRecords_lbi]
        exact hs.2 q

theorem applyOutcome (seat : Seat) (c : Code) : (s.applyOutcome seat c).linesBounded := by
  unfold State.applyOutcome
  split
  · split
    · exact hs
    · exact hs.setCount _ (countAfter_le (hs.1 _) c)
  · exact hs

theorem answer {seat : Seat} {r : Request} {c : Code} {p : List Word} : (s.answer seat r c p).linesBounded :=
  (hs.applyOutcome seat c).beside (by simp [State.answer])

/-- A change beside the lines and the counts, answered. -/
theorem answerBeside {t : State} {seat : Seat} {r : Request} {c : Code} {p : List Word}
    (h : t.lbi.lines = s.lbi.lines ∧ t.lbi.faults = s.lbi.faults) : (t.answer seat r c p).linesBounded :=
  (hs.beside h).answer

/-! ### Frames -/

theorem append {seat : Seat} {e : IntakeEntry}
    (he : e.isRequest = true → ((s.lbi.lines.read seat).filter IntakeEntry.isRequest).length < 4) :
    (s.append seat e).linesBounded := by
  refine hs.writeLine (seat := seat) (l := s.lbi.lines.read seat ++ [e]) ?_ rfl rfl
  rw [List.filter_append, List.length_append]
  cases hreq : e.isRequest with
  | false => simpa [hreq] using hs.2 seat
  | true => simpa [hreq] using he hreq

theorem refuseAtArrival (seat : Seat) (r : Request) (c : Code) : (s.refuseAtArrival seat r c).linesBounded := by
  refine applyOutcome ?_ seat c
  split
  · exact hs.append fun h => absurd h Bool.false_ne_true
  · exact hs

theorem enter (seat : Seat) (r : Request) : (s.enter seat r).linesBounded := by
  unfold State.enter
  dsimp only
  split
  · exact hs.refuseAtArrival ..
  · split
    · exact hs.refuseAtArrival ..
    · split
      · next hfew => exact hs.append fun _ => hfew
      · exact hs.refuseAtArrival ..

theorem busFrameReceive {t : State} {frame : Frame} (h : execBusFrameReceive frame s = .next t) : t.linesBounded := by
  cases h
  split
  · exact hs
  · split
    · exact hs
    · split
      · exact hs
      · refine enter ?_ _ _
        split
        · exact hs
        · exact hs.beside (by simp)

theorem handlerTakeHead {t : State} {seat : Seat} (h : execHandlerTakeHead seat s = .next t) : t.linesBounded := by
  cases h
  split
  · next e rest _ hline =>
    have hrest : (rest.filter IntakeEntry.isRequest).length ≤ 4 := by
      have hall := hs.2 seat
      rw [hline] at hall
      exact (((List.sublist_cons_self e rest).filter _).length_le).trans hall
    dsimp only
    split
    · exact hs.writeLine hrest rfl rfl
    · exact hs.writeLine (seat := seat) hrest (by simp) (by simp)
  · exact hs
  · exact hs

/-! ### Translated requests and walks -/

theorem finishAccess (a : Access) (seat : Seat) (r : Request) (t : Translation) :
    (s.finishAccess a seat r t).linesBounded := by
  cases a with
  | set =>
    simp only [State.finishAccess, State.finishSet]
    split
    · exact hs.answer
    · split
      · exact hs.answer
      · exact hs.answerBeside (by simp)
  | release =>
    simp only [State.finishAccess, State.finishRelease]
    split
    · exact hs.answer
    · exact hs.answerBeside (by simp)
  | read => exact hs.answer

theorem resolve (a : Access) (seat : Seat) (r : Request) : (s.resolve a seat r).linesBounded := by
  have hhit : State.linesBounded { s with pcache := s.pcache.hit (wordPoint (r.word 0)) } := hs.beside (by simp)
  unfold State.resolve
  dsimp only
  split
  · split
    · exact hs.answer
    · exact hs.finishAccess ..
  · split
    · split
      · split
        · exact hhit.answer
        · split
          · exact hs.beside (by simp)
          · exact hhit.finishAccess ..
      · exact hs.beside (by simp)
    · exact hs.answer

theorem deliver (w : Walk) (o : WalkOutcome) : (s.deliver w o).linesBounded := by
  unfold State.deliver
  split
  · exact hs
  · split
    · exact hs.finishAccess ..
    all_goals exact hs.answer

theorem endWalk (w : Walk) (o : WalkOutcome) : (s.endWalk w o).linesBounded := by
  refine settleArbiter (deliver ?_ w o)
  exact hs.beside (by simp)

theorem walkOn (w : Walk) (next : WalkNext) : (s.walkOn w next).linesBounded := by
  cases next with
  | toGroup base | toPoint base | toLink base => exact hs.beside ⟨rfl, rfl⟩
  | finish o => exact hs.endWalk w o

theorem walkRead (w : Walk) (level : DirLevel) (addr : DirAddr) : (s.walkRead w level addr).linesBounded := by
  unfold State.walkRead
  dsimp only
  split
  · exact walkOn (s := s.grantWalker) (hs.beside (by simp)) ..
  · exact hs.beside (by simp)

theorem directoryAccess (seat : Seat) (r : Request) (data : Option DirWord) :
    (s.directoryAccess seat r data).linesBounded := by
  unfold State.directoryAccess
  split
  · exact hs.answer
  · split
    · exact hs.answer
    · dsimp only
      split
      · exact hs.beside (by simp)
      · exact hs.beside (by simp)

theorem dirPortGrant {t : State} (h : execDirPortGrant s = .next t) : t.linesBounded := by
  cases h
  split
  · split
    · exact hs
    · split
      · exact hs
      · dsimp only
        split
        · exact hs.answerBeside (by simp)
        · exact hs.answerBeside (by simp)
  · exact hs

theorem walkGrant {t : State} (h : execWalkGrant s = .next t) : t.linesBounded := by
  cases h
  split
  · exact hs
  · split
    · exact hs
    · next seat _ =>
      have hgrant : (s.granted seat).linesBounded := hs.beside ⟨rfl, rfl⟩
      dsimp only
      split
      · exact hgrant.settleArbiter
      · split
        · split
          · split
            · exact hs.beside (by simp)
            · exact hgrant.endWalk ..
          · exact hgrant.answer.settleArbiter
        all_goals exact hgrant.settleArbiter

/-! ### Time and restarts -/

theorem tick : s.tick.linesBounded := by
  rw [State.tick_eq]
  exact State.linesBounded.beside (s := s.timeBases) (hs.beside ⟨rfl, rfl⟩) (by simp)

theorem warmRestart : s.warmRestart.linesBounded := by
  obtain ⟨hlbi, -⟩ := s.warmRestart_frame
  refine ⟨fun b => ?_, fun q => ?_⟩
  · rw [hlbi]
    exact hs.1 b
  · rw [hlbi, (s.lbi.restart_links q).1]
    exact Nat.zero_le 4

end

/-- R151: the power-on reset leaves no count and no request waiting. -/
theorem powerOn (st : Straps) (emergencyIn : Bool) (l : List Instr) (m : Nat) :
    (State.powerOn st emergencyIn l m).linesBounded := by
  refine ⟨fun b => ?_, fun q => ?_⟩
  · simp [State.powerOn, Lbi.powerOn]
  · simp [State.powerOn, Lbi.powerOn]

end State.linesBounded
end Sys2Proof.Machine
end

section
/-! SUPPORT. Every command, the tick and the restarts keep the fault counts and the lines within their bounds. -/

namespace Sys2Proof.Machine
namespace State.linesBounded

/-! ### Requests and writes -/

section
variable {s : State} (hs : s.linesBounded) {seat : Seat}
include hs

theorem onRequest {k : Kind} {f : Request → State} (h : ∀ r, (f r).linesBounded) :
    (s.onRequest seat k f).linesBounded := State.onRequest_of hs h

theorem onWrite {pick : Item → Request → Option Verdict}
    (h : ∀ i r v, pick i r = some v → v.Leaves State.linesBounded) : (s.onWrite seat pick).linesBounded :=
  State.onWrite_of hs (fun _ _ => hs.answer) fun i r v hv t ht => (h i r v hv t ht).answer

theorem onPairWrite {sort : PairChange} {f : PairNo → PairFields → Verdict}
    (h : ∀ k x, (f k x).Leaves State.linesBounded) : (s.onPairWrite seat sort f).linesBounded :=
  State.onPairWrite_of hs (fun _ _ => hs.answer) fun _ k x t ht => (h k x t ht).answer

theorem onFlush {form : Nat} {f : Request → State} (h : ∀ r, (f r).linesBounded) :
    (s.onFlush seat form f).linesBounded := State.onFlush_of hs (fun _ _ => hs.answer) h

theorem flushNamed {r : Request} {f : Seat → State} (h : ∀ q, (f q).linesBounded) :
    (s.flushNamed seat r f).linesBounded := State.flushNamed_of (fun _ _ => hs.answer) fun q => (h q).answer

theorem onScan {form : Nat} {f : Request → State} (h : ∀ r, (f r).linesBounded) :
    (s.onScan seat form f).linesBounded := State.onScan_of hs (fun _ _ => hs.answer) h

theorem onCircuit {form : Nat} {f : Request → CircuitNo → State} (h : ∀ r n, (f r n).linesBounded) :
    (s.onCircuit seat form f).linesBounded := State.onCircuit_of hs (fun _ _ => hs.answer) h

variable {t : State}

theorem configWriteShutoff (h : execConfigWriteShutoff seat s = .next t) : t.linesBounded := by
  cases h
  refine hs.onWrite fun i r v hv => ?_
  split at hv <;> cases hv
  refine .asEditor (.fields fun f => ?_)
  unfold State.shutoffWrite
  split
  · exact .refused
  · exact .ite .refused (.ite .refused (.ite .refused (.accepted (hs.beside (by simp)))))

theorem configWriteOrphanLimit (h : execConfigWriteOrphanLimit seat s = .next t) : t.linesBounded := by
  cases h
  refine hs.onWrite fun i r v hv => ?_
  split at hv <;> cases hv
  refine .asService (.fields fun limit => .accepted ?_)
  obtain ⟨orphan, hlbi⟩ := s.setOrphanLimit_lbi limit
  exact hs.beside (by rw [hlbi]; exact ⟨rfl, rfl⟩)

/-- R153: a seat reinstated, if one is. -/
theorem reinstate (h : execReinstate seat s = .next t) : t.linesBounded := by
  cases h
  refine hs.onRequest fun r => ?_
  split
  · exact hs.answer
  · split
    · exact hs.answer
    · refine State.linesBounded.answer ?_
      split
      · exact hs.setCount _ (Nat.zero_le 511)
      · exact hs

end

end State.linesBounded

/-- R146, R151: every command keeps the counts and the lines within their bounds. -/
theorem exec_linesBounded {i : Instr} {s t : State} (hs : s.linesBounded) (h : exec i s = .next t) :
    t.linesBounded := by
  cases i with
  | powerOnReset st => rw [← Host.Outcome.next.inj h]; exact .powerOn ..
  | restartIn => rw [← Host.Outcome.next.inj h]; exact hs.warmRestart
  | restartTake =>
    rw [← Host.Outcome.next.inj h]
    split
    · exact hs.warmRestart
    · exact hs
  | busFrameReceive => exact hs.busFrameReceive h
  | serviceFrameReceive =>
    cases h
    split
    · exact hs
    · exact hs.enter ..
  | handlerTakeHead => exact hs.handlerTakeHead h
  | reinstate => exact hs.reinstate h
  | hello => cases h; exact hs.onRequest fun r => hs.answer
  | events | clear => cases h; exact hs.onRequest fun r => hs.answerBeside (by simp)
  | set | release | read => cases h; exact hs.onRequest fun r => hs.resolve ..
  | dirRead | dirWrite => cases h; exact hs.onRequest fun r => hs.directoryAccess ..
  | dirPortGrant => exact hs.dirPortGrant h
  | openDirectory | closeDirectory =>
    cases h
    refine hs.onRequest fun r => ?_
    unfold State.setDirectory
    split
    · exact hs.answer
    · exact hs.answerBeside (by simp)
  | restart =>
    cases h
    refine hs.onRequest fun r => ?_
    split
    · exact hs.answer
    · exact hs.beside (by simp)
  | rearm | configRead =>
    cases h
    refine hs.onRequest fun r => ?_
    repeat' split
    all_goals exact hs.answerBeside (by simp)
  | releaseLockout =>
    cases h
    refine hs.onRequest fun r => ?_
    split
    · exact hs.answer
    · split
      · exact hs.answer
      · dsimp only
        repeat' split
        all_goals exact hs.answerBeside (by simp)
  | configWriteOther =>
    cases h
    refine hs.onRequest fun r => ?_
    split
    · exact hs.answer
    · split
      · exact hs.answer
      · exact hs
  | configWriteRankTable | configWriteRoot | configWriteWindow =>
    cases h
    refine hs.onWrite fun i r v hv => ?_
    split at hv <;> cases hv
    exact .asService (.fields fun _ => .accepted (hs.beside (by simp)))
  | configWriteRosterEntry =>
    cases h
    refine hs.onWrite fun i r v hv => ?_
    split at hv <;> cases hv
    exact .asService (.fields fun e => .ite .refused (.ite .refused (.accepted (hs.beside ⟨rfl, rfl⟩))))
  | configWriteOrphanLimit => exact hs.configWriteOrphanLimit h
  | configWriteShutoff => exact hs.configWriteShutoff h
  | configWriteEventMask =>
    cases h
    refine hs.onWrite fun i r v hv => ?_
    split at hv <;> cases hv
    exact .ite .refused (.fields fun _ => .accepted (hs.beside (by simp)))
  | configWriteStaticLimits | configWriteFallback | configWriteDefaultHold =>
    cases h
    refine hs.onWrite fun i r v hv => ?_
    split at hv <;> cases hv
    exact .asEditor (.fields fun _ => .settingsWrite (hs.beside (by simp)))
  | configWriteOutputPolarity | configWriteMinimumTimes =>
    cases h
    refine hs.onWrite fun i r v hv => ?_
    split at hv
    · obtain ⟨_, -, rfl⟩ := Option.map_eq_some_iff.1 hv
      exact .asEditor (.fields fun _ => .settingsWrite (hs.beside (by simp)))
    · cases hv
  | configWritePeriod | configWriteSensorSettings | configWriteReference | configWriteScanRange | configWriteScanMode |
    configWritePulseSettings =>
    cases h
    refine hs.onWrite fun i r v hv => ?_
    split at hv <;> cases hv
    exact .asEditor (.fields fun _ => .accepted (hs.beside (by simp)))
  | configWriteBreakpoint =>
    cases h
    refine hs.onWrite fun i r v hv => ?_
    split at hv <;> cases hv
    exact .asEditor (.fields fun _ => .ite .refused (.accepted (hs.beside (by simp))))
  | configWriteCircuitSensors | configWriteCircuitOutputs | configWriteCircuitThresholds | configWriteCircuitTimes |
    configWriteCircuitFlow =>
    cases h
    refine hs.onWrite fun i r v hv => ?_
    split at hv <;> cases hv
    exact .circuitWrite (.fields fun _ => .accepted (hs.beside (by simp)))
  | configWritePair => cases h; exact hs.onPairWrite fun k x => .ite .refused (.accepted (hs.beside (by simp)))
  | pairForm => cases h; exact hs.onPairWrite fun k x => .ite .refused (.ite .refused (.accepted (hs.beside (by simp))))
  | pairDissolve => cases h; exact hs.onPairWrite fun k x => .ite .refused (.accepted (hs.beside (by simp)))
  | flushPoint | flushSeat => cases h; exact hs.onFlush fun r => hs.flushNamed fun q => hs.beside (by simp)
  | flushAll =>
    cases h
    refine hs.onFlush fun r => ?_
    split
    · exact hs.answer
    · exact hs.answerBeside (by simp)
  | scanStart | scanSingle =>
    cases h
    refine hs.onScan fun r => ?_
    unfold State.startScan
    split
    · exact hs.answer
    · exact hs.answerBeside (by simp)
  | scanStop => cases h; exact hs.onScan fun r => hs.answerBeside (by simp)
  | circuitEnable | circuitDisable =>
    cases h
    refine hs.onCircuit fun r n => ?_
    dsimp only
    repeat' split
    all_goals exact hs.answerBeside (by simp)
  | walkGrant => exact hs.walkGrant h
  | walkZoneRead | walkLinkTargetRead =>
    cases h
    split
    · split
      · split
        · exact hs.walkRead ..
        · exact hs
      all_goals exact hs
    · exact hs
  | walkGroupRead | walkPointRead =>
    cases h
    split
    · split
      · split
        · exact hs.endWalk ..
        · split
          · exact hs.walkRead ..
          · exact hs
      all_goals exact hs
    · exact hs
  | walkMarkWrite =>
    cases h
    split
    · split
      · split
        · exact State.linesBounded.walkOn (hs.beside (by simp)) _ _
        · exact hs
      all_goals exact hs
    · exact hs
  | replySentWhole link => cases h; cases link <;> exact hs.beside ⟨rfl, rfl⟩
  | flowGraceExpiry | tripDwellExpiry | pulseRisingEdge | pulseTimeoutExpiry =>
    cases h
    dsimp only
    repeat' split
    all_goals exact hs.beside (by simp)
  | referencePhaseEnd | sensorPhaseEnd | demandHoldExpiry | orphanTimerExpiry | emergencyInAssert |
    discreteMinimumReached =>
    cases h
    repeat' split
    all_goals exact hs.beside (by simp)
  | periodEnd | pairPermilleStep | overdriveEnd | syncEnd | deadTimeExpiry | safeEndExpiry | unsyncedSafeDriveEnd |
    emergencyInDeassert | replyTransmit | replyReadbackAbandon | serviceReplyTransmit | frameReceptionCutShort =>
    cases h
    exact hs.beside (by simp)

/-- Settles O58: each command, the tick and each restart keeps the counts and the lines within their bounds. -/
theorem countsAndLinesStayBounded : Obligations.CountsAndLinesStayBounded := by
  intro s t hs h
  unfold step at h
  split at h
  · next rest _ =>
    have hrest : State.linesBounded { s with pending := rest } := hs.beside (by simp)
    exact exec_linesBounded hrest h
  · unfold State.idle at h
    split at h
    · exact exec_linesBounded hs h
    · cases h
      exact hs.tick

end Sys2Proof.Machine
end

section
/-! SUPPORT. What answering a request and taking in a frame do to the links, and the obligations about the two links:
answers, frames, handlers and transmitters. -/

namespace Sys2Proof.Machine

/-! ### Bus seats and the service seat -/

theorem seatOf_ne_serviceSeat (b : BusSeat) : seatOf b ≠ serviceSeat := fun h =>
  absurd (congrArg Fin.val h) b.isLt.ne

theorem seatOf_injective {b b' : BusSeat} (h : seatOf b = seatOf b') : b = b' := by
  simpa using congrArg busSeat? h

/-- R144: a seat is the service seat or a bus seat. -/
theorem serviceSeat_or_seatOf (seat : Seat) : seat = serviceSeat ∨ ∃ b, seatOf b = seat := by
  by_cases h : seat.val < 3
  · exact .inr ⟨⟨seat.val, h⟩, rfl⟩
  · exact .inl (Fin.ext (by change seat.val = 3; omega))

theorem State.standing_serviceSeat (s : State) : s.standing serviceSeat = .good := rfl

/-! ### An outcome applied (R151) -/

section
variable {s : State} {seat : Seat} {c : Code}

/-- R151: an outcome that moves no count changes nothing. -/
theorem State.applyOutcome_unmoved (h : seat = serviceSeat ∨ s.standing seat = .barred) :
    s.applyOutcome seat c = s := by
  obtain rfl | h := h
  · exact s.applyOutcome_service c
  · exact s.applyOutcome_barred seat c h

theorem State.applyOutcome_fault (b : BusSeat) : (s.applyOutcome seat c).lbi.faults.read b =
    if seatOf b = seat ∧ s.standing seat ≠ .barred then countAfter (s.lbi.faults.read b) c
    else s.lbi.faults.read b := by
  by_cases h : seat = serviceSeat ∨ s.standing seat = .barred
  · rw [State.applyOutcome_unmoved h, if_neg]
    rintro ⟨rfl, hb⟩
    exact h.elim (seatOf_ne_serviceSeat b) hb
  · obtain ⟨hservice, hb⟩ := not_or.1 h
    obtain ⟨b', rfl⟩ := (serviceSeat_or_seatOf seat).resolve_left hservice
    rw [State.applyOutcome_bus s b' c hb, State.setCount_lbi_faults, Bank.read_write]
    by_cases hbb : b' = b
    · subst hbb
      simp [hb]
    · rw [if_neg hbb, if_neg fun h => hbb (seatOf_injective h.1).symm]

/-- R152: an outcome that leaves its seat's standing moves the count alone. -/
theorem State.applyOutcome_sameStanding (h : (s.applyOutcome seat c).standing seat = s.standing seat) :
    ∃ faults, s.applyOutcome seat c = { s with lbi := { s.lbi with faults := faults } } := by
  by_cases hu : seat = serviceSeat ∨ s.standing seat = .barred
  · exact ⟨s.lbi.faults, State.applyOutcome_unmoved hu⟩
  · obtain ⟨hservice, hb⟩ := not_or.1 hu
    obtain ⟨b, rfl⟩ := (serviceSeat_or_seatOf seat).resolve_left hservice
    rw [State.applyOutcome_bus s b c hb] at h ⊢
    rw [State.setCount_standing, if_pos rfl] at h
    exact ⟨_, s.setCount_same b _ (h.trans (s.standing_seatOf b))⟩

end

/-! ### A reply handed over (R150) -/

section
variable (s : State) (seat : Seat) (h : Word) (c : Code) (p : List Word) (b : Bool)

/-- R150: a reply changes the two transmitters alone. -/
theorem State.handReply_eq : s.handReply seat h c p b = { s with lbi := { s.lbi with
    bus := (s.handReply seat h c p b).lbi.bus, port := (s.handReply seat h c p b).lbi.port } } := by
  unfold State.handReply
  dsimp only
  split <;> rfl

theorem State.handReply_sending : (s.handReply seat h c p b).lbi.bus.sending = s.lbi.bus.sending ∧
    (s.handReply seat h c p b).lbi.port.sending = s.lbi.port.sending := by
  unfold State.handReply
  dsimp only
  split <;> exact ⟨rfl, rfl⟩

theorem State.handReply_serviceSeat_bus : (s.handReply serviceSeat h c p b).lbi.bus = s.lbi.bus := rfl

theorem State.handReply_port (hseat : seat ≠ serviceSeat) : (s.handReply seat h c p b).lbi.port = s.lbi.port := by
  simp only [State.handReply, if_neg hseat]

end

/-! ### A request answered (R147) -/

section
variable (s : State) (seat : Seat) (r : Request) (c : Code) (p : List Word)

theorem State.answer_faults : (s.answer seat r c p).lbi.faults = (s.applyOutcome seat c).lbi.faults := by
  simp [State.answer]

theorem State.answer_standing : (s.answer seat r c p).standing = (s.applyOutcome seat c).standing :=
  State.standing_of_faults (s.answer_faults seat r c p)

theorem State.answer_evu : (s.answer seat r c p).evu = (s.applyOutcome seat c).evu := by
  simp [State.answer, State.setService]

/-- R147: an answer is its outcome applied, with changes of the service and of the transmitters. -/
theorem State.answer_eq : s.answer seat r c p =
    { s.applyOutcome seat c with lbi := { (s.applyOutcome seat c).lbi with
      service := s.lbi.service.write seat none, bus := (s.answer seat r c p).lbi.bus,
      port := (s.answer seat r c p).lbi.port } } := by
  conv_lhs => rw [State.answer, State.handReply_eq]
  simp only [State.setService, State.applyOutcome_lbi_service]
  rfl

/-- R147, R162: the answer's reply stands behind those that waited, with the standing and the marker that the outcome
left. -/
theorem State.answer_replies : ((s.answer seat r c p).transmitterOf seat).replies =
    (s.transmitterOf seat).replies ++
      [{ words := replyHeaderA s.lbi.station r.header p.length ::
          replyHeaderB c ((s.answer seat r c p).evu.marker seat) ((s.answer seat r c p).standing seat) :: p,
         restart := false }] := by
  have hreplies := State.handReply_replies (s.applyOutcome seat c) seat r.header c p false
  have hwaiting : (s.applyOutcome seat c).transmitterOf seat = s.transmitterOf seat := by
    simp [State.transmitterOf]
  rw [hwaiting, State.applyOutcome_lbi_station] at hreplies
  rw [State.answer_standing, State.answer_evu]
  exact hreplies

theorem State.answer_sending : (s.answer seat r c p).lbi.bus.sending = s.lbi.bus.sending ∧
    (s.answer seat r c p).lbi.port.sending = s.lbi.port.sending := by
  have hsending := State.handReply_sending (s.applyOutcome seat c) seat r.header c p false
  rwa [State.applyOutcome_lbi_bus, State.applyOutcome_lbi_port] at hsending

end

/-- Settles O4: an answer is its outcome applied, its reply handed over and its request out of service. -/
theorem answerHandsTheReply : Obligations.AnswerHandsTheReply := by
  intro s seat r c p t
  obtain ⟨hbus, hport⟩ := s.answer_sending seat r c p
  refine ⟨fun q => ?service, s.answer_replies seat r c p, hbus, hport, ?serviceSeat, fun hseat => ?busSeat,
    fun b => ?faults, ?frame, ⟨s.applyOutcome seat c, State.applyOutcome_unmoved, ?moved, s.answer_eq seat r c p⟩,
    fun hsame => ?sameStanding⟩
  case service =>
    rw [State.answer_service]
    simp only [eq_comm]
  case serviceSeat =>
    rintro rfl
    exact ⟨rfl, rfl⟩
  case busSeat => exact (State.handReply_port _ seat _ _ _ _ hseat).trans (s.applyOutcome_lbi_port seat c)
  case faults => rw [s.answer_faults seat r c p, State.applyOutcome_fault]
  case frame => simp [t]
  case moved =>
    rintro b rfl hb
    exact s.applyOutcome_bus b c hb
  case sameStanding =>
    rw [State.answer_standing] at hsame
    obtain ⟨faults, hfaults⟩ := State.applyOutcome_sameStanding hsame
    have ht := s.answer_eq seat r c p
    rw [hfaults] at ht
    change t = _ at ht
    rw [ht]
    exact ⟨rfl, rfl, rfl, rfl⟩

/-! ### Frames received (R144) -/

/-- R144: a frame of a header, its payload and a last word is judged by that word. -/
theorem checkedFrame_of_length {a : Word} {p : List Word} (w : Word) (h : p.length = lengthField a) :
    checkedFrame (a :: p ++ [w]) = if crc16 (a :: p) = w then some { header := a, payload := p } else none := by
  simp [checkedFrame, ← h]

theorem exec_busFrameReceive {f : Frame} {s : State} {r : Request} {b : BusSeat} (hr : receivedFrame f = some r)
    (hdest : headerDest r.header = s.lbi.station) (hsource : s.lbi.seatOfStation (headerSource r.header) = some b) :
    exec (.busFrameReceive f) s =
      .next (State.enter (if r.malformed = true then s else s.orphanHeard) (seatOf b) r) := by
  show execBusFrameReceive f s = _
  simp [execBusFrameReceive, hr, hdest, hsource]

theorem exec_serviceFrameReceive {f : Frame} {s : State} {r : Request} (hr : receivedFrame f = some r) :
    exec (.serviceFrameReceive f) s = .next (s.enter serviceSeat r) := by
  show execServiceFrameReceive f s = _
  simp only [execServiceFrameReceive, hr]

theorem exec_busFrameReceive_foreign {f : Frame} {s : State} {r : Request} (hr : receivedFrame f = some r)
    (h : headerDest r.header ≠ s.lbi.station ∨ s.lbi.seatOfStation (headerSource r.header) = none) :
    exec (.busFrameReceive f) s = .next s := by
  show execBusFrameReceive f s = _
  by_cases hdest : headerDest r.header = s.lbi.station
  · simp [execBusFrameReceive, hr, h.resolve_left (not_not.2 hdest)]
  · simp [execBusFrameReceive, hr, hdest]

theorem exec_frameReceive_discarded {f : Frame} (s : State) (hr : receivedFrame f = none) :
    exec (.busFrameReceive f) s = .next s ∧ exec (.serviceFrameReceive f) s = .next s := by
  constructor
  · show execBusFrameReceive f s = _
    simp only [execBusFrameReceive, hr]
  · show execServiceFrameReceive f s = _
    simp only [execServiceFrameReceive, hr]

/-- Settles O9, by the checks in their order: the CRC, the destination, the source. -/
theorem onlyCheckedFramesArrive : Obligations.OnlyCheckedFramesArrive := by
  refine ⟨fun a p w g hlength => ?_, fun f s => ⟨rfl, exec_frameReceive_discarded s, fun r hr => ?_⟩⟩
  · rw [receivedFrame, checkedFrame_of_length w hlength]
    split <;> rfl
  · exact exec_busFrameReceive_foreign hr

/-! ### Frames entered into their lines (R146) -/

/-- R152: the kinds that are taken of a BARRED seat too. -/
def Request.takenOfBarred (r : Request) : Prop := r.kind = some .events ∨ r.kind = some .hello

/-- R146: a refusal in a seat's line, if fewer than sixteen wait there. -/
def State.withRefusal (s : State) (seat : Seat) (r : Request) (c : Code) : State :=
  if ((s.lbi.lines.read seat).filter fun e => !e.isRequest).length < 16 then s.append seat (.refusal r.header c) else s

section
variable {s : State} {seat : Seat} {r : Request}

theorem State.withRefusal_faults (c : Code) : (s.withRefusal seat r c).lbi.faults = s.lbi.faults := by
  unfold State.withRefusal
  split <;> rfl

theorem State.refuseAtArrival_eq (c : Code) :
    s.refuseAtArrival seat r c = (s.withRefusal seat r c).applyOutcome seat c := rfl

/-- R151: a refusal at arrival that moves no count. -/
theorem State.refuseAtArrival_unmoved {c : Code} (h : seat = serviceSeat ∨ s.standing seat = .barred) :
    s.refuseAtArrival seat r c = s.withRefusal seat r c := by
  rw [State.refuseAtArrival_eq, State.applyOutcome_unmoved]
  rwa [State.standing_of_faults (State.withRefusal_faults c)]

/-- R151: a refusal at arrival that moves its seat's count. -/
theorem State.refuseAtArrival_bus {b : BusSeat} {c : Code} (h : s.standing (seatOf b) ≠ .barred) :
    s.refuseAtArrival (seatOf b) r c =
      (s.withRefusal (seatOf b) r c).setCount b (countAfter (s.lbi.faults.read b) c) := by
  have hfaults : (s.withRefusal (seatOf b) r c).lbi.faults = s.lbi.faults := State.withRefusal_faults c
  rw [State.refuseAtArrival_eq, State.applyOutcome_bus, hfaults]
  rwa [State.standing_of_faults hfaults]

theorem State.enter_malformed (h : r.malformed = true) :
    s.enter seat r = s.refuseAtArrival seat r (if s.standing seat = .barred then .barred else .badForm) := by
  simp [State.enter, h]

theorem State.enter_barred (h : r.malformed = false) (hb : s.standing seat = .barred) (ht : ¬r.takenOfBarred) :
    s.enter seat r = s.refuseAtArrival seat r .barred := by
  obtain ⟨hevents, hhello⟩ := not_or.1 ht
  simp [State.enter, h, hb, hevents, hhello]

/-- R146: a well-formed request that its seat's standing does not refuse is judged by the room in the line. -/
theorem State.enter_judgedByRoom (h : r.malformed = false) (ht : s.standing seat ≠ .barred ∨ r.takenOfBarred) :
    s.enter seat r =
      if ((s.lbi.lines.read seat).filter IntakeEntry.isRequest).length < 4 then s.append seat (.request r)
      else s.refuseAtArrival seat r .busy := by
  obtain hb | hevents | hhello := ht
  · simp [State.enter, h, hb]
  · simp [State.enter, h, hevents]
  · simp [State.enter, h, hhello]

end

/-- R154, R155: a seat heard, field by field. -/
theorem State.orphanHeard_eq (s : State) : s.orphanHeard =
    { s with
      evu := if s.lbi.orphan.holds then s.evu.raiseAll .orphan else s.evu
      lbi := { s.lbi with orphan := { s.lbi.orphan with count := 0, holds := false } } } := by
  unfold State.orphanHeard State.raiseIf
  dsimp only
  split <;> rfl

theorem State.orphanHeard_standing (s : State) : s.orphanHeard.standing = s.standing := by
  rw [State.orphanHeard_eq]
  rfl

theorem State.orphanHeard_lines (s : State) : s.orphanHeard.lbi.lines = s.lbi.lines := by rw [State.orphanHeard_eq]

theorem State.orphanHeard_faults (s : State) : s.orphanHeard.lbi.faults = s.lbi.faults := by rw [State.orphanHeard_eq]

/-- Settles O6: the frame is judged by the room in its line alone, once its seat has been heard. -/
theorem framesJoinTheirLines : Obligations.FramesJoinTheirLines := by
  refine ⟨fun f s r b hr hdest hsource hform htaken hroom => ?bus, fun f s r hr hform hroom => ?service⟩
  case bus =>
    rw [exec_busFrameReceive hr hdest hsource, hform, if_neg Bool.false_ne_true, State.enter_judgedByRoom hform,
      State.orphanHeard_lines, if_pos hroom, State.orphanHeard_eq]
    · rfl
    · rwa [State.orphanHeard_standing]
  case service =>
    rw [exec_serviceFrameReceive hr, State.enter_judgedByRoom hform, if_pos hroom]
    · rfl
    · exact .inl (by simp [State.standing_serviceSeat])

/-- Settles O7, one refusal at a time: the form, the standing of the seat, the room in the line. -/
theorem framesRefusedAtArrival : Obligations.FramesRefusedAtArrival := by
  unfold Obligations.FramesRefusedAtArrival
  intro entered
  have hentered (s : State) (seat : Seat) (r : Request) (c : Code) : entered s seat r c = s.withRefusal seat r c := rfl
  refine ⟨?bus, fun f s r hr => ⟨fun hform => ?serviceForm, fun hform hfull => ?serviceBusy⟩⟩
  case bus =>
    intro f s r b hr hdest hsource barred taken full heard
    have hheard : heard = s.orphanHeard := s.orphanHeard_eq.symm
    have hstanding : s.orphanHeard.standing (seatOf b) = s.standing (seatOf b) := by rw [State.orphanHeard_standing]
    have hexec := exec_busFrameReceive hr hdest hsource
    simp only [hentered, hheard]
    refine ⟨fun hform hb => ?form, fun hform hb => ?formBarred, fun hform hb ht => ?barred,
      fun hform hb ht hfull => ?busyBarred, fun hform hb hfull => ?busy⟩
    all_goals rw [hexec, hform]
    case form => rw [if_pos rfl, State.enter_malformed hform, if_neg hb, State.refuseAtArrival_bus hb]; rfl
    case formBarred => rw [if_pos rfl, State.enter_malformed hform, if_pos hb, State.refuseAtArrival_unmoved (.inr hb)]
    all_goals rw [if_neg Bool.false_ne_true]
    case barred =>
      rw [State.enter_barred hform (hstanding.trans hb) ht, State.refuseAtArrival_unmoved (.inr (hstanding.trans hb))]
    case busyBarred =>
      rw [State.enter_judgedByRoom hform (.inr ht), State.orphanHeard_lines, if_neg (not_lt.2 hfull),
        State.refuseAtArrival_unmoved (.inr (hstanding.trans hb))]
    case busy =>
      have hb' : s.orphanHeard.standing (seatOf b) ≠ .barred := hstanding ▸ hb
      rw [State.enter_judgedByRoom hform (.inl hb'), State.orphanHeard_lines, if_neg (not_lt.2 hfull),
        State.refuseAtArrival_bus hb', State.orphanHeard_faults]
      rfl
  case serviceForm =>
    rw [exec_serviceFrameReceive hr, State.enter_malformed hform, State.refuseAtArrival_unmoved (.inl rfl)]
    rfl
  case serviceBusy =>
    rw [exec_serviceFrameReceive hr, State.enter_judgedByRoom hform, if_neg (not_lt.2 hfull),
      State.refuseAtArrival_unmoved (.inl rfl)]
    · rfl
    · exact .inl (by simp [State.standing_serviceSeat])

/-! ### Handlers (R147) -/

theorem exec_handlerTakeHead_request {s : State} {seat : Seat} {r : Request} {rest : List IntakeEntry}
    (hfree : s.lbi.service.read seat = none) (hline : s.lbi.lines.read seat = .request r :: rest) :
    exec (.handlerTakeHead seat) s = .next (State.setService
      { s with lbi := { s.lbi with lines := s.lbi.lines.write seat rest } } seat
      (some { request := r, progress := .taken })) := by
  show execHandlerTakeHead seat s = _
  simp only [execHandlerTakeHead, hfree, hline]

theorem exec_handlerTakeHead_refusal {s : State} {seat : Seat} {h : Word} {c : Code} {rest : List IntakeEntry}
    (hfree : s.lbi.service.read seat = none) (hline : s.lbi.lines.read seat = .refusal h c :: rest) :
    exec (.handlerTakeHead seat) s = .next (State.handReply
      { s with lbi := { s.lbi with lines := s.lbi.lines.write seat rest } } seat h c [] false) := by
  show execHandlerTakeHead seat s = _
  simp only [execHandlerTakeHead, hfree, hline]

/-- Settles O8, by the two kinds of head. -/
theorem handlerTakesTheHead : Obligations.HandlerTakesTheHead := by
  intro s seat rest hfree
  refine ⟨fun r hline => exec_handlerTakeHead_request hfree hline, fun h c hline => ?_⟩
  let lined : State := { s with lbi := { s.lbi with lines := s.lbi.lines.write seat rest } }
  obtain ⟨hbus, hport⟩ := lined.handReply_sending seat h c [] false
  refine ⟨_, exec_handlerTakeHead_refusal hfree hline, by simp, by simp, by simp,
    lined.handReply_replies seat h c [] false, ?serviceSeat, ?busSeat, lined.handReply_eq seat h c [] false, by simp,
    by simp, by simp⟩
  case serviceSeat =>
    rintro rfl
    exact ⟨lined.handReply_serviceSeat_bus h c [] false, hport⟩
  case busSeat => exact fun hseat => ⟨lined.handReply_port seat h c [] false hseat, hbus⟩

/-! ### Transmitters (R150) -/

section
variable (x : Reply) (rest : List Reply) (w : List Word)

theorem Transmitter.begin_idle : Transmitter.begin { replies := x :: rest, sending := none } =
    { replies := x :: rest, sending := some (x.words ++ [crc16 x.words]) } := rfl

theorem Transmitter.finish_sending : Transmitter.finish { replies := x :: rest, sending := some w } =
    { replies := rest, sending := none } := rfl

theorem Transmitter.sendsRestart_sending :
    Transmitter.sendsRestart { replies := x :: rest, sending := some w } = x.restart := rfl

end

/-- Settles O11: each transmitter step is one of the transmitter's own. -/
theorem transmittersSendInOrder : Obligations.TransmittersSendInOrder := by
  intro s x rest w
  refine ⟨fun hbus => ?transmit, fun hport => ?transmitService, fun hbus => ⟨?abandon, ?sent⟩,
    fun hport => ?sentService⟩
  case transmit =>
    show execReplyTransmit s = _
    rw [execReplyTransmit, hbus, Transmitter.begin_idle]
  case transmitService =>
    show execServiceReplyTransmit s = _
    rw [execServiceReplyTransmit, hport, Transmitter.begin_idle]
  case abandon =>
    show execReplyReadbackAbandon s = _
    rw [execReplyReadbackAbandon, hbus, Transmitter.finish_sending]
  case sent =>
    show execReplySentWhole .bus s = _
    simp only [execReplySentWhole, hbus, Transmitter.finish_sending]
  case sentService =>
    show execReplySentWhole .service s = _
    simp only [execReplySentWhole, hport, Transmitter.finish_sending, Transmitter.sendsRestart_sending]

end Sys2Proof.Machine
end

section
/-! SUPPORT. The orphan cause: what its beginning does to the demands of the bus seats, to the channels it concerns and
to the flags, and what begins it. -/

namespace Sys2Proof.Machine

/-! ### The demands of the bus seats (R19) -/

/-- R19: a record without the slots of the bus seats. -/
def Record.withoutBusSeats (r : Record) : Record :=
  { r with slots := Bank.fill fun q => if q = serviceSeat then r.slot q else none }

/-- R19: a record holds a slot of a bus seat. -/
def Record.HoldsBusSlot (r : Record) : Prop := ∃ q, q ≠ serviceSeat ∧ r.slot q ≠ none

theorem Record.remove_busSeats (r : Record) : r.remove (fun q => q != serviceSeat) = r.withoutBusSeats := by
  have hslots (q : Seat) : (if (q != serviceSeat) = true then none else r.slot q) =
      if q = serviceSeat then r.slot q else none := by
    by_cases h : q = serviceSeat <;> simp [h]
  simp only [Record.remove, Record.withoutBusSeats, hslots]

theorem Record.any_busSlot (r : Record) :
    (List.finRange 4).any (fun q => q != serviceSeat && (r.slot q).isSome) = true ↔ r.HoldsBusSlot := by
  simp [Record.HoldsBusSlot, Option.isSome_iff_ne_none]

/-- R19: the removal of the bus seats' demands, as the change of records it is. -/
theorem State.removeDemands_busSeats (s : State) : s.removeDemands (fun _ => true) (fun q => q != serviceSeat) =
    s.withRecords fun _ r => if ∃ q, q ≠ serviceSeat ∧ r.slot q ≠ none then
      s.judgeRecord { r with slots := Bank.fill fun q => if q = serviceSeat then r.slot q else none } else r := by
  refine State.withRecords_congr fun c _ => ?_
  rw [Record.remove_busSeats]
  by_cases h : (s.record c).HoldsBusSlot
  · exact (if_pos ((Record.any_busSlot _).2 h)).trans (if_pos h).symm
  · exact (if_neg (mt (Record.any_busSlot _).1 h)).trans (if_neg h).symm

/-! ### The cause begun (R155) -/

section
variable (s : State)

/-- R155: the part once the orphan cause holds, before what follows from it. -/
def State.orphanHeld : State := { s with lbi := { s.lbi with orphan := { s.lbi.orphan with holds := true } } }

/-- R136: the channels whose masks name ORPHAN. -/
def State.orphanNames (c : OutCh) : Bool := (s.shutoff c).mask.orphan

/-- R136: the channels that the cause concerns shut off. -/
def State.orphanShutOff : State := s.orphanHeld.shutOffWhere s.orphanNames

theorem State.orphanBegins_eq : s.orphanBegins =
    (s.orphanShutOff.removeDemands (fun _ => true) fun q => q != serviceSeat).raiseAll .orphan := rfl

theorem State.orphanShutOff_lbi : s.orphanShutOff.lbi = s.orphanHeld.lbi := s.orphanHeld.shutOffWhere_lbi _

theorem State.orphanShutOff_record (c : OutCh) : s.orphanShutOff.record c = s.record c := by
  simp only [State.record, State.orphanShutOff, State.shutOffWhere_cmdt]
  rfl

theorem State.orphanShutOff_oddMember (c : OutCh) : s.orphanShutOff.odu.oddMember c = s.odu.oddMember c :=
  s.orphanHeld.shutOffWhere_oddMember _ c

theorem State.orphanShutOff_judgeRecord (r : Record) : s.orphanShutOff.judgeRecord r = s.judgeRecord r := by
  have hstanding : s.orphanShutOff.standing = s.standing :=
    State.standing_of_faults (by rw [State.orphanShutOff_lbi]; rfl)
  have hcmdt : s.orphanShutOff.cmdt = s.cmdt := s.orphanHeld.shutOffWhere_cmdt _
  rw [State.judgeRecord, State.judgeRecord, hstanding, hcmdt]

theorem State.orphanShutOff_shutDown : shutDown s.orphanHeld s.orphanShutOff fun c =>
    s.shutOff c = false ∧ (s.shutoff c).mask.orphan = true ∧ s.odu.oddMember c = false := by
  have hdown := s.orphanHeld.shutOffWhere_shutDown s.orphanNames
  simp only [and_left_comm (a := s.orphanNames _ = true)] at hdown
  exact hdown

theorem State.orphanBegins_removes (c : OutCh) : s.orphanBegins.record c =
    (s.orphanShutOff.removeDemands (fun _ => true) fun q => q != serviceSeat).record c := by
  simp only [State.record, State.orphanBegins_eq, State.raiseAll_cmdt]

/-- R19: a record after the orphan cause has begun. -/
theorem State.orphanBegins_record (c : OutCh) : s.orphanBegins.record c =
    if s.odu.oddMember c = false ∧ ∃ q, q ≠ serviceSeat ∧ (s.record c).slot q ≠ none then
      s.judgeRecord (s.record c).withoutBusSeats
    else s.record c := by
  rw [State.orphanBegins_removes, State.removeDemands_record, State.orphanShutOff_record, State.orphanShutOff_oddMember,
    State.orphanShutOff_judgeRecord, Record.remove_busSeats]
  simp only [true_and, bne_iff_ne]

theorem State.orphanBegins_slot {c : OutCh} (h : s.odu.oddMember c = false) (q : Seat) :
    (s.orphanBegins.record c).slot q = if q = serviceSeat then (s.record c).slot q else none := by
  rw [State.orphanBegins_removes, State.removeDemands_slot, State.orphanShutOff_oddMember,
    State.orphanShutOff_record, h]
  by_cases hq : q = serviceSeat <;> simp [hq]

/-- R155: a slot of a bus seat gone, its record is judged by the slots that are left. -/
theorem State.orphanBegins_judged {c : OutCh} (h : s.odu.oddMember c = false)
    (hheld : ∃ q, q ≠ serviceSeat ∧ (s.record c).slot q ≠ none) :
    s.orphanBegins.record c = s.judgeRecord { s.record c with slots := (s.orphanBegins.record c).slots } := by
  have hrecord : s.orphanBegins.record c = s.judgeRecord (s.record c).withoutBusSeats := by
    rw [State.orphanBegins_record, if_pos ⟨h, hheld⟩]
  have hslots : (s.orphanBegins.record c).slots = (s.record c).withoutBusSeats.slots := by
    rw [hrecord, State.judgeRecord, Record.judge_slots]
  rw [hslots]
  exact hrecord

theorem State.orphanBegins_shu : s.orphanBegins.shu = s.orphanShutOff.shu := by
  simp [State.orphanBegins_eq]

/-- R136: the channels shut off once the orphan cause has begun. -/
theorem State.orphanBegins_shutOff (c : OutCh) : s.orphanBegins.shutOff c =
    (s.shutOff c || ((s.shutoff c).mask.orphan && !s.odu.oddMember c)) := by
  have h := s.orphanHeld.shutOffWhere_shutOff s.orphanNames c
  rw [State.shutOff, State.shutoff, State.orphanBegins_shu]
  exact h

theorem State.orphanBegins_shutoff (c : OutCh) :
    s.orphanBegins.shutoff c = { s.shutoff c with latched := s.orphanBegins.shutOff c } := by
  have h := s.orphanHeld.shutOffWhere_shutoff s.orphanNames c
  rw [State.shutOff, State.shutoff, State.orphanBegins_shu]
  exact h

theorem State.orphanBegins_evu : s.orphanBegins.evu = s.orphanShutOff.evu.raiseAll .orphan := by
  simp [State.orphanBegins_eq, State.raiseAll]

/-- R155, R136: the flags raised as the cause begins: ORPHAN, and SHUTOFF where a latch changes. -/
theorem State.orphanBegins_flags : s.evu.SameMasks s.orphanBegins.evu ∧ ∀ q f,
    ((f = .orphan ∨ f = .shutoff ∧ ∃ c, s.orphanBegins.shutOff c ≠ s.shutOff c) →
      s.orphanBegins.flag q f = .fresh) ∧
    (¬(f = .orphan ∨ f = .shutoff ∧ ∃ c, s.orphanBegins.shutOff c ≠ s.shutOff c) →
      s.orphanBegins.flag q f = s.flag q f) := by
  obtain ⟨hmasks, hflags⟩ := s.orphanHeld.shutOffWhere_flags s.orphanNames
  have hlatch (c : OutCh) : s.orphanBegins.shutOff c = s.orphanShutOff.shutOff c := by
    simp only [State.shutOff, State.shutoff, State.orphanBegins_shu]
  simp only [hlatch]
  refine ⟨?masks, fun q f => ?flags⟩
  case masks =>
    rw [State.orphanBegins_evu]
    exact hmasks
  case flags =>
    obtain ⟨hset, hkept⟩ := hflags q f
    rw [State.flag_raiseAll s.orphanBegins_evu]
    refine ⟨fun h => ?_, fun h => ?_⟩
    · split
      · rfl
      · next hne => exact hset (h.resolve_left hne)
    · obtain ⟨hne, hshutoff⟩ := not_or.1 h
      rw [if_neg hne]
      exact hkept hshutoff

end

/-! ### What begins the cause (R154) -/

section
variable {s : State}

theorem exec_orphanTimerExpiry_begins (hholds : s.lbi.orphan.holds = false)
    (hcount : 100 * s.lbi.orphan.limit ≤ s.lbi.orphan.count) :
    exec .orphanTimerExpiry s = .next s.orphanBegins :=
  congrArg Host.Outcome.next (if_pos ((Orphan.expired_iff _).2 ⟨hholds, hcount⟩))

theorem Orphan.not_expired {o : Orphan} (h : o.holds = true ∨ o.count < 100 * o.limit) : ¬o.expired = true := by
  rw [Orphan.expired_iff]
  rintro ⟨hholds, hcount⟩
  obtain h | h := h
  · exact Bool.noConfusion (h.symm.trans hholds)
  · exact absurd hcount (not_le.2 h)

theorem exec_orphanTimerExpiry_stays (h : s.lbi.orphan.holds = true ∨ s.lbi.orphan.count < 100 * s.lbi.orphan.limit) :
    exec .orphanTimerExpiry s = .next s := congrArg Host.Outcome.next (if_neg (Orphan.not_expired h))

/-- R154: the service seat's write of the limit. -/
theorem exec_configWriteOrphanLimit_answers {r : Request} (h : s.servesWrite serviceSeat .orphanLimit r)
    (hl : 2 ≤ r.payload.length) (h1 : 1 ≤ (r.word 1).toNat) (h600 : (r.word 1).toNat ≤ 600) :
    exec (.configWriteOrphanLimit serviceSeat) s =
      .next ((s.setOrphanLimit (r.word 1).toNat).answer serviceSeat r .done []) := by
  refine State.next_onWrite_accepted h ?_
  simp only [asService_serviceSeat, limitField_of_le hl h1 h600, Verdict.fields]

/-- R154: the part with another limit of the orphan timer. -/
def State.withOrphanLimit (s : State) (limit : Nat) : State :=
  { s with lbi := { s.lbi with orphan := { s.lbi.orphan with limit := limit } } }

theorem State.setOrphanLimit_begins {limit : Nat} (hholds : s.lbi.orphan.holds = false)
    (hcount : 100 * limit ≤ s.lbi.orphan.count) : s.setOrphanLimit limit = (s.withOrphanLimit limit).orphanBegins :=
  if_pos ((Orphan.expired_iff (s.withOrphanLimit limit).lbi.orphan).2 ⟨hholds, hcount⟩)

theorem State.setOrphanLimit_stays {limit : Nat} (h : s.lbi.orphan.holds = true ∨ s.lbi.orphan.count < 100 * limit) :
    s.setOrphanLimit limit = s.withOrphanLimit limit :=
  if_neg (Orphan.not_expired (o := (s.withOrphanLimit limit).lbi.orphan) h)

end

/-- Settles O12: the expiry and the write come to the same beginning of the cause, told block by block above. -/
theorem orphanTimerAndLimitBeginTheCause : Obligations.OrphanTimerAndLimitBeginTheCause := by
  unfold Obligations.OrphanTimerAndLimitBeginTheCause
  intro begun
  have hbegun (s : State) : begun s s.orphanBegins := by
    obtain ⟨⟨hmasks, hattention⟩, hflags⟩ := s.orphanBegins_flags
    refine ⟨⟨s.orphanShutOff, _, s.orphanShutOff_shutDown, s.orphanShutOff.removeDemands_busSeats, s.orphanBegins_eq⟩,
      s.orphanBegins_lbi, fun c hc => ⟨s.orphanBegins_slot hc, s.orphanBegins_judged hc, fun hnone => ?kept⟩,
      fun c hc => ?odd, fun c => ⟨s.orphanBegins_shutOff c, s.orphanBegins_shutoff c⟩, hflags, ?ranks, ?emergencyIn,
      hmasks, hattention, by simp, by simp, by simp, by simp, by simp⟩
    case kept =>
      rw [State.orphanBegins_record, if_neg]
      rintro ⟨-, q, hbus, hslot⟩
      exact hslot (hnone q hbus)
    case odd =>
      rw [State.orphanBegins_record, if_neg]
      rintro ⟨hown, -⟩
      exact Bool.noConfusion (hown.symm.trans hc)
    case ranks => simp [State.orphanBegins]
    case emergencyIn =>
      rw [State.orphanBegins_shu]
      exact s.orphanHeld.shutOffWhere_emergencyIn s.orphanNames
  refine ⟨fun s => ⟨fun hholds hcount => ⟨_, exec_orphanTimerExpiry_begins hholds hcount, hbegun s⟩,
    exec_orphanTimerExpiry_stays⟩, ?limit⟩
  intro s r hserves hl h1 h600 limited
  have hexec := exec_configWriteOrphanLimit_answers hserves hl h1 h600
  refine ⟨fun h => ?stays, fun hholds hcount => ⟨limited.orphanBegins, ?begins, hbegun limited⟩⟩
  case stays =>
    rw [hexec, State.setOrphanLimit_stays h]
    rfl
  case begins =>
    rw [hexec, State.setOrphanLimit_begins hholds hcount]
    rfl

end Sys2Proof.Machine
end

section
/-! SUPPORT. The event unit, flag by flag: what a raise, a report and a clear leave in each bit of each set, and the two
requests that report and clear. -/

namespace Sys2Proof.Machine

/-! ### Raises (R159, R160) -/

/-- R160: a raise reaches one bit of one set. -/
theorem Evu.read_raiseIn (e : Evu) (seat q : Seat) (f : Flag) (i : Fin 12) :
    ((e.raiseIn seat f).flags.read q).read i =
      if q = seat ∧ i = f.bit then .fresh else (e.flags.read q).read i := by
  rw [Evu.raiseIn, Bank.read_update]
  by_cases hq : q = seat
  · simp only [hq, if_true, true_and, Bank.read_update, FlagState.raised]
  · simp only [hq, if_false, false_and]

/-- R159: a raise in all four sets reaches one bit of each. -/
theorem Evu.read_raiseAll (e : Evu) (q : Seat) (f : Flag) (i : Fin 12) :
    ((e.raiseAll f).flags.read q).read i = if i = f.bit then .fresh else (e.flags.read q).read i := by
  rw [Evu.raiseAll, Bank.read_fill, Bank.read_update, FlagState.raised]

theorem Evu.raiseIn_sameMasks (e : Evu) (seat : Seat) (f : Flag) : e.SameMasks (e.raiseIn seat f) := ⟨rfl, rfl⟩

/-- Two event units with the same bits, masks and enables are equal. -/
theorem Evu.eq_of_read {a b : Evu} (hsame : a.SameMasks b)
    (h : ∀ q i, (b.flags.read q).read i = (a.flags.read q).read i) : b = a := by
  obtain ⟨hmasks, hattention⟩ := hsame
  have hflags : b.flags = a.flags := Bank.ext_read fun q => Bank.ext_read (h q)
  cases a; cases b
  simp only at hmasks hattention hflags
  rw [hmasks, hattention, hflags]

/-- R160: every raise leaves the same state whatever the flag was, so the order of two does not matter. -/
theorem Evu.raiseIn_comm (e : Evu) (p q : Seat) (f g : Flag) :
    (e.raiseIn p f).raiseIn q g = (e.raiseIn q g).raiseIn p f := by
  refine Evu.eq_of_read ⟨rfl, rfl⟩ fun seat i => ?_
  simp only [Evu.read_raiseIn]
  by_cases hg : seat = q ∧ i = g.bit
  · simp only [if_pos hg, ite_self]
  · simp only [if_neg hg]

/-- R159: each seat's set is reached by its own raise. -/
theorem Evu.raiseAll_eq (e : Evu) (f : Flag) :
    e.raiseAll f = (((e.raiseIn 0 f).raiseIn 1 f).raiseIn 2 f).raiseIn 3 f := by
  refine Evu.eq_of_read ⟨rfl, rfl⟩ fun q i => ?_
  simp only [Evu.read_raiseAll, Evu.read_raiseIn]
  by_cases hi : i = f.bit
  · have hseat : q = 3 ∨ q = 2 ∨ q = 1 ∨ q = 0 := by omega
    rcases hseat with rfl | rfl | rfl | rfl <;> simp [hi]
  · simp only [hi, and_false, if_false]

theorem Flag.bit_inj {f g : Flag} : f.bit = g.bit ↔ f = g := ⟨Flag.bit_injective, congrArg Flag.bit⟩

/-- Settles O14: each part is read off bit by bit, and flags are told apart by their bits. -/
theorem raiseLeavesTheFlagUnreported : Obligations.RaiseLeavesTheFlagUnreported := by
  refine ⟨fun e seat q f g => ?one, fun e seat f => e.raiseIn_sameMasks seat f,
    fun e f => ⟨e.raiseAll_eq f, fun q g => ?all⟩, Evu.raiseIn_comm⟩
  case one => simp only [Evu.read_raiseIn, Flag.bit_inj]
  case all => simp only [Evu.read_raiseAll, Flag.bit_inj]

/-! ### EVENTS and CLEAR (R163, R164) -/

theorem FlagState.returned_eq (x : FlagState) : x.returned = if x ≠ .clear then .reported else x := by
  cases x <;> rfl

theorem FlagState.cleared_eq (x : FlagState) : x.cleared = if x = .reported then .clear else x := by
  cases x <;> rfl

/-- R163: a report marks the set bits of its own seat. -/
theorem Evu.read_report (e : Evu) (seat q : Seat) (i : Fin 12) : ((e.report seat).flags.read q).read i =
    if q = seat ∧ (e.flags.read q).read i ≠ .clear then .reported else (e.flags.read q).read i := by
  rw [Evu.report, Bank.read_update]
  by_cases hq : q = seat
  · simp only [hq, if_true, true_and, Bank.read_fill, FlagState.returned_eq]
  · simp only [hq, if_false, false_and]

/-- R164: a clear reaches the named bits of its own seat that are SET, reported. -/
theorem Evu.read_clear (e : Evu) (seat q : Seat) (named : BitVec 12) (i : Fin 12) :
    ((e.clear seat named).flags.read q).read i =
      if q = seat ∧ named.getLsbD i.val = true ∧ (e.flags.read q).read i = .reported then .clear
      else (e.flags.read q).read i := by
  rw [Evu.clear, Bank.read_update]
  by_cases hq : q = seat
  · simp only [hq, if_true, true_and, Bank.read_fill, FlagState.cleared_eq, ite_and]
  · simp only [hq, if_false, false_and]

/-- 11.2: bits 15 to 12 of the word are spare, so each flag's bit is read where the word has it. -/
theorem getLsbD_flagsNamed (w : Word) (i : Fin 12) : (w.extractLsb' 0 12).getLsbD i.val = w.getLsbD i.val := by
  simp

section
variable {s : State} {seat : Seat} {r : Request}

theorem exec_events (h : s.serves seat .events r) : exec (.events seat) s =
    .next (State.answer { s with evu := s.evu.report seat } seat r .done (s.eventsPayload seat)) := by
  show execEvents seat s = _
  rw [execEvents, State.onRequest_of_serves h]

theorem exec_clear (h : s.serves seat .clear r) : exec (.clear seat) s =
    .next (State.answer { s with evu := s.evu.clear seat ((r.word 0).extractLsb' 0 12) } seat r .done []) := by
  show execClear seat s = _
  rw [execClear, State.onRequest_of_serves h]

end

/-- Settles O15: the answers are the two requests' own, and what they leave is read off bit by bit. -/
theorem eventsReportAndClearClears : Obligations.EventsReportAndClearClears := by
  refine fun s seat r => ⟨fun h => ⟨s.evu.report seat, exec_events h, rfl, rfl, s.evu.read_report seat⟩,
    fun h => ⟨s.evu.clear seat ((r.word 0).extractLsb' 0 12), exec_clear h, rfl, rfl, fun q i => ?_⟩⟩
  rw [Evu.read_clear, getLsbD_flagsNamed]

end Sys2Proof.Machine
end

section
/-! SUPPORT. The queue's front (R170): a step with a command waiting is that command's own meaning. -/

namespace Sys2Proof.Machine

/-- A command put before the queue and taken again leaves the state as it was. -/
theorem State.queued_taken (s : State) (c : Instr) :
    ({ ({ s with pending := c :: s.pending } : State) with pending := s.pending } : State) = s := rfl

/-- Settles O1: the step takes the front of the queue, and what is left of the queue is the state's own. -/
theorem queueFrontIsTaken : Obligations.QueueFrontIsTaken := fun c s =>
  calc step { s with pending := c :: s.pending }
    _ = exec c { ({ s with pending := c :: s.pending } : State) with pending := s.pending } := step_of_command rfl
    _ = exec c s := congrArg (exec c) (s.queued_taken c)

end Sys2Proof.Machine
end
